-- ==== Sys2Proof/Word.lean ====
section
/-! DEFINITION. The bytes and telegrams of the heating line (R156) and the names of the operands that
setup requests carry (R158, R159). -/

namespace Sys2Proof

/-- One byte of a telegram (R156). -/
abbrev Byte := BitVec 8

/-- The two line ports: H faces the house, M faces the manifold (00_scope.md 1.2). -/
inductive PortId where
  | h
  | m
  deriving DecidableEq, Repr

/-- A telegram as a port receives or sends it whole (R106, R156). LEN is the number of data bytes. -/
structure Telegram where
  dst : Byte
  src : Byte
  kind : Byte
  data : List Byte
  check : Byte
  deriving DecidableEq, Repr

/-- Static loop fields whose write has no rule beside R2: fields 2 to 7 and 10 of LOOPS. -/
inductive LoopStaticField where
  | driverAddress
  | headChannel
  | profile
  | floorClass
  | weight
  | phase
  | fallbackDuty
  deriving DecidableEq, Repr

/-- The three fields that R3 keeps in relation. -/
inductive ShareField where
  | smin
  | smax
  | share
  deriving DecidableEq, Repr

/-- The two dynamic priority fields of R5. -/
inductive PriorityField where
  | level
  | group
  deriving DecidableEq, Repr

/-- Fields of a floor class (R7). -/
inductive ClassField where
  | target
  | gain
  | limit
  deriving DecidableEq, Repr

/-- Fields of an actuator profile (R8). -/
inductive ProfileField where
  | polarity
  | opening
  | closing
  deriving DecidableEq, Repr

/-- Room configuration fields other than the unit address (R22). -/
inductive RoomField where
  | demandSource
  | band
  | setback
  | setpointMin
  | setpointMax
  | fallbackDemand
  deriving DecidableEq, Repr

/-- Probe entry configuration fields other than valid (R38). -/
inductive ProbeField where
  | moduleAddress
  | channel
  | role
  | loop
  | trim
  | depth
  deriving DecidableEq, Repr

/-- Rule fields other than hits (R119). -/
inductive RuleField where
  | valid
  | direction
  | kind
  | source
  | destination
  | selector
  | action
  | count
  deriving DecidableEq, Repr

/-- The fields of the COUNTERS table (R115, R159): the port counters, and at index 1 the rejected
count of a probe entry. -/
inductive CounterField where
  | forwarded
  | damaged
  | consecutiveDamaged
  | overflow
  | malformed
  | strayEcho
  | unmatched
  | rejected (entry : Nat)
  deriving DecidableEq, Repr

/-- The arguments of START PATTERN by the pattern named (R129, R158). -/
inductive PatternRequest where
  | identify (loop toggles interval : Nat)
  | sweep (dwell threshold : Nat)
  | other (code : Nat)
  deriving DecidableEq, Repr

/-- A setup request as its data bytes spell it (R158). -/
inductive SetupRequest where
  | readField (table index field : Nat)
  | writeField (table index field : Nat) (value : Int)
  | enableLoop (loop : Nat)
  | disableLoop (loop : Nat)
  | setMode (requested : Nat)
  | startPattern (request : PatternRequest)
  | stopPattern
  | setLock (value : Nat)
  | takeNotice
  | readStatus
  | restart
  deriving DecidableEq, Repr

/-- The tables that setup requests name (R158). -/
inductive TableId where
  | general
  | loops
  | rooms
  | probes
  | rules
  | classes
  | profiles
  | sweepResults
  | counters
  deriving DecidableEq, Repr

/-- The configuration fields of the GENERAL record (R146, R159). -/
inductive GeneralField where
  | cycleLength
  | hmax
  | fdef
  | defrostShedLevel
  | probeStaleTime
  | faultStaleTime
  | roomStaleTime
  | supplyStaleTime
  | supplySource
  | overflowPolicy (port : PortId)
  | directionDefault (port : PortId)
  | noticeAddress
  | manualShedLevel
  deriving DecidableEq, Repr

/-- What a WRITE FIELD aims at, by the write behaviour of the field it names (R145, R159). -/
inductive WriteTarget where
  | readOnly
  | general (field : GeneralField)
  | loopRoom
  | loopStatic (field : LoopStaticField)
  | share (field : ShareField)
  | priority (field : PriorityField)
  | unitAddress
  | room (field : RoomField)
  | probeValid
  | probe (field : ProbeField)
  | rule (field : RuleField)
  | hits
  | floorClass (field : ClassField)
  | profile (field : ProfileField)
  | counter (field : CounterField)
  deriving DecidableEq, Repr

end Sys2Proof
end

