-- ==== Sys2Proof/Syntax.lean ====
section
/-! DEFINITION. The commands of the part: one constructor for each row of spec/opcode_table.json.
`src` is the line address of the sender of a setup request; index operands of requests are plain
numbers, since R143 gives an index outside its table an outcome; the loop, room and entry of the part's
own expiries are bounded. -/

namespace Sys2Proof

/-- A command: a step of the part, whole and indivisible (95_what_each_step_holds.md). -/
inductive Instr where
  | powerOn (straps : BitVec 3)
  | telegramReceived (port : PortId) (t : Telegram)
  | readField (src : Byte) (table index field : Nat)
  | writeField (src : Byte) (table index field : Nat) (value : Int)
  | loopStaticFieldWrite (src : Byte) (loop : Nat) (field : LoopStaticField) (value : Int)
  | loopRoomWrite (src : Byte) (loop : Nat) (value : Int)
  | shareWrite (src : Byte) (loop : Nat) (field : ShareField) (value : Int)
  | levelWrite (src : Byte) (loop : Nat) (field : PriorityField) (value : Int)
  | floorClassWrite (src : Byte) (cls : Nat) (field : ClassField) (value : Int)
  | profileWrite (src : Byte) (profile : Nat) (field : ProfileField) (value : Int)
  | roomFieldWrite (src : Byte) (room : Nat) (field : RoomField) (value : Int)
  | unitAddressWrite (src : Byte) (room : Nat) (value : Int)
  | probeFieldWrite (src : Byte) (entry : Nat) (field : ProbeField) (value : Int)
  | probeValidWrite (src : Byte) (entry : Nat) (value : Int)
  | probeStaleTimeWrite (src : Byte) (value : Int)
  | faultStaleTimeWrite (src : Byte) (value : Int)
  | roomStaleTimeWrite (src : Byte) (value : Int)
  | fdefWrite (src : Byte) (value : Int)
  | supplyStaleTimeWrite (src : Byte) (value : Int)
  | supplySourceAddressWrite (src : Byte) (value : Int)
  | manualShedLevelWrite (src : Byte) (value : Int)
  | cycleLengthWrite (src : Byte) (value : Int)
  | overflowPolicyWrite (src : Byte) (port : PortId) (value : Int)
  | directionDefaultWrite (src : Byte) (port : PortId) (value : Int)
  | noticeAddressWrite (src : Byte) (value : Int)
  | counterWrite (src : Byte) (index : Nat) (field : CounterField) (value : Int)
  | ruleFieldWrite (src : Byte) (rule : Nat) (field : RuleField) (value : Int)
  | hitsWrite (src : Byte) (rule : Nat) (value : Int)
  | enableLoop (src : Byte) (loop : Nat)
  | disableLoop (src : Byte) (loop : Nat)
  | setMode (src : Byte) (requested : Nat)
  | startPattern (src : Byte) (request : PatternRequest)
  | stopPattern (src : Byte)
  | setLock (src : Byte) (value : Nat)
  | takeNotice (src : Byte)
  | readStatus (src : Byte)
  | restartRequest (src : Byte)
  | transmissionBegin (port : PortId)
  | headOrderTransmissionBegin
  | noticeTransmissionBegin
  | answerTransmissionComplete
  | forwardTransmissionComplete (port : PortId)
  | noticeTransmissionComplete
  | headOrderTransmissionComplete
  | echoTimeout (loop : Fin 16)
  | loopBoundary (loop : Fin 16)
  | onTimeExpiry (loop : Fin 16)
  | settleIntervalExpiry (loop : Fin 16)
  | roomStaleExpiry (room : Fin 12)
  | probeStaleExpiry (entry : Fin 32)
  | probeFaultExpiry (entry : Fin 32)
  | reportTemperatureExpiry
  | supplyStaleExpiry
  | spacingIntervalExpiry
  | identifyHalfExpiry
  | clearingExpiry
  | dwellExpiry
  | closeWaitExpiry
  deriving DecidableEq, Repr

end Sys2Proof
end

