-- ==== Sys2Proof/Config.lean ====
section
/-! DEFINITION. What this implementation fixes: the sizes of its tables and queues and the lengths of
its fixed intervals, each with the rule that gives it. The spec leaves no value of this part open, so
there is no free value here. -/

namespace Sys2Proof.Config

/-- Rooms have at most 3 loops (R4). -/
abbrev maxLoopsPerRoom : Nat := 3

/-- A loop has at most two valid RETURN entries, and the map two valid SUPPLY entries (R39). -/
abbrev maxPaired : Nat := 2

/-- A pass queue holds at most 8 telegrams (R111). -/
abbrev passQueueSize : Nat := 8

/-- The notice queue holds at most 16 entries (R151). -/
abbrev noticeQueueSize : Nat := 16

/-- A run of eight damaged telegrams raises LINE NOISY (R106). -/
abbrev noisyRun : Nat := 8

/-- A telegram with LEN above 12 is damaged (R106). -/
abbrev maxLen : Nat := 12

/-- The echo timeout runs 2 s (R97). -/
abbrev echoTimeout : Nat := 2

/-- The notice spacing interval runs 2 s (R152). -/
abbrev noticeSpacing : Nat := 2

/-- Three consecutive misses add the SILENT cause (R102). -/
abbrev silentMisses : Nat := 3

/-- Two consecutive good echoes clear it (R15). -/
abbrev goodEchoes : Nat := 2

/-- Three starved cycles raise STARVED (R91). -/
abbrev starvedCycles : Nat := 3

/-- Saturating one-byte counts stop here (R6, R40, R115). -/
abbrev countMax : Nat := 255

/-- Ages stop here (R24, R40, R72). -/
abbrev ageMax : Nat := 65535

/-- Published temperatures, loop returns and supplies lie within 0 to this (R42, R53). -/
abbrev tempMax : Nat := 5760

/-- The confirmed open time of a cycle is at most this (R91). -/
abbrev openMax : Nat := 3600

/-- The allowance is stored as at most this (R73). -/
abbrev allowanceMax : Nat := 2000

/-- A full duty, share, request or grant (00_scope.md 1.6). -/
abbrev fullDuty : Nat := 4096

/-- The part's address is this plus the strap value (R148). -/
abbrev baseAddress : Nat := 112

end Sys2Proof.Config
end

