-- ==== Sys2Proof/Machine/State.lean ====
section
/-! DEFINITION. Every piece of state the spec gives the part, as plain data, and its power-on values
(R148 and the tables of each chapter). INVENTORY.md lists each field with its rule. Ages are held as
the instant of the interval's last start, on the clock `now` of whole seconds. -/

namespace Sys2Proof.Machine

/-! ## Names -/

/-- The mode of the part (R139). -/
inductive Mode where
  | passive
  | active
  | halting
  | test
  deriving DecidableEq, Repr

/-- The state of a loop (01, 1.7). -/
inductive LoopState where
  | disabled
  | standby
  | running
  | shed
  | fault
  | testing
  deriving DecidableEq, Repr

/-- The state of a head (06, 6.4). -/
inductive HeadState where
  | idleUnknown
  | released
  | energiseWait
  | energisePending
  | energiseSent
  | energised
  | silentEnergise
  | releasePending
  | releaseSent
  | silentRelease
  deriving DecidableEq, Repr

/-- What a head order asks of a channel. -/
inductive Action where
  | release
  | energise
  deriving DecidableEq, Repr

/-- Normally closed or normally open (R8). -/
inductive Polarity where
  | nc
  | no
  deriving DecidableEq, Repr

/-- The causes of a loop's FAULT (00_scope.md 1.5). -/
inductive Cause where
  | silent
  | damage
  | probe
  deriving DecidableEq, Repr

/-- The condition an echo reports (R157). -/
inductive Condition where
  | ok
  | openCircuit
  | short
  deriving DecidableEq, Repr

/-- Which input decides a room's demand (R21). -/
inductive DemandSource where
  | report
  | call
  | both
  deriving DecidableEq, Repr

/-- The mode a room unit reports (R24). -/
inductive RoomMode where
  | comfort
  | setback
  | away
  | off
  deriving DecidableEq, Repr

/-- What a probe channel measures (R37). -/
inductive Role where
  | returnWater
  | supplyWater
  deriving DecidableEq, Repr

/-- State of the heat source (R72). -/
inductive SourceState where
  | run
  | defrost
  | block
  deriving DecidableEq, Repr

/-- Side of arrival a rule applies to (R118). -/
inductive Direction where
  | hToM
  | mToH
  | both
  deriving DecidableEq, Repr

/-- What is done with a telegram (R123). -/
inductive FilterAction where
  | pass
  | block
  | ignore
  | drop
  deriving DecidableEq, Repr

/-- What happens at a full pass queue (R111). -/
inductive OverflowPolicy where
  | discardNew
  | discardOldest
  deriving DecidableEq, Repr

/-- The outcome of a setup request (R158). -/
inductive AnswerCode where
  | done
  | clamped
  | empty
  | unknown
  | range
  | static
  | locked
  | state
  | busy
  | conflict
  deriving DecidableEq, Repr

/-- What a notice reports (R150). -/
inductive NoticeKind where
  | loopFault
  | loopRecovered
  | probeStale
  | roomStale
  | supplyStale
  | budgetShort
  | starved
  | ruleSpent
  | queueDrop
  | lineNoisy
  | crossed
  | patternDone
  deriving DecidableEq, Repr

/-- The pattern in progress (R130). -/
inductive PatternKind where
  | none
  | identify
  | sweep
  deriving DecidableEq, Repr

/-- The stage of a pattern (R130). -/
inductive Stage where
  | idle
  | opening
  | openHalf
  | closing
  | closedHalf
  | closingAll
  | clearing
  | dwell
  | closeWait
  | windingDown
  deriving DecidableEq, Repr

/-- How the latest pattern ended (R130). -/
inductive Ending where
  | none
  | completed
  | stopped
  deriving DecidableEq, Repr

/-- The verdict of a loop's test (R135, R136). -/
inductive Verdict where
  | none
  | noProbe
  | noRise
  | crossed
  | confirmed
  deriving DecidableEq, Repr

/-- The settle interval of a loop (R57): stopped, running to an instant, or expired, in which case
the loop is open-settled. -/
inductive Settle where
  | stopped
  | running (due : Nat)
  | settled
  deriving DecidableEq, Repr

/-! ## Records -/

/-- A set of causes. -/
structure CauseSet where
  silent : Bool := false
  damage : Bool := false
  probe : Bool := false
  deriving DecidableEq, Repr

/-- A loop record: static fields (R1), dynamic fields (R5), status fields (R6), and what the drive
timer and the balancer hold for the loop beside them (R57, R89, R91, R92, R95, R97). -/
structure Loop where
  room : Option (Fin 12) := none
  driverAddress : Nat := 0
  headChannel : Nat := 0
  profile : Fin 4 := 0
  floorClass : Fin 4 := 0
  weight : Nat := 10
  phase : Nat := 0
  smin : Nat := 256
  smax : Nat := 4096
  fallbackDuty : Nat := 1024
  level : Nat := 1
  group : Nat := 0
  share : Nat := 2048
  state : LoopState := .disabled
  causes : CauseSet := {}
  activeDuty : Nat := 0
  bufferedDuty : Nat := 0
  pendingFlag : Bool := false
  request : Nat := 0
  grant : Nat := 0
  head : HeadState := .idleUnknown
  lastAction : Option Action := none
  cooling : Option Int := none
  accSum : Int := 0
  accCount : Nat := 0
  misses : Nat := 0
  goodRun : Nat := 0
  starvedRun : Nat := 0
  achieved : Nat := 0
  probeHeld : Bool := true
  wanted : Option Action := none
  onTime : Nat := 0
  openPhase : Bool := false
  openCount : Nat := 0
  inCycle : Bool := false
  nextBoundary : Option Nat := none
  lastBoundary : Option Nat := none
  settle : Settle := .stopped
  echoDue : Option Nat := none
  deriving DecidableEq, Repr

/-- A floor class record (R7). -/
structure FloorClass where
  target : Nat
  gain : Nat
  limit : Nat
  deriving DecidableEq, Repr

/-- An actuator profile record (R8). -/
structure Profile where
  polarity : Polarity
  opening : Nat
  closing : Nat
  deriving DecidableEq, Repr

/-- A room record (R21, R24). -/
structure Room where
  unitAddress : Nat := 0
  demandSource : DemandSource := .report
  band : Nat := 96
  setback : Nat := 128
  setpointMin : Nat := 320
  setpointMax : Nat := 1792
  fallbackDemand : Nat := 256
  measured : Option Int := none
  setpoint : Option Int := none
  mode : RoomMode := .comfort
  effective : Option Int := none
  ageStart : Nat := 0
  stale : Bool := false
  call : Bool := false
  demand : Nat := 256
  deriving DecidableEq, Repr

/-- A probe entry (R37, R40); `faultRunning` says whether its fault interval runs (R44). -/
structure Probe where
  valid : Bool := false
  moduleAddress : Nat := 0
  channel : Nat := 0
  role : Role := .returnWater
  loop : Fin 16 := 0
  trim : Int := 0
  depth : Nat := 1
  accSum : Nat := 0
  accCount : Nat := 0
  published : Option Nat := none
  ageStart : Nat := 0
  stale : Bool := false
  rejected : Nat := 0
  faultRunning : Bool := false
  deriving DecidableEq, Repr

/-- The configuration fields of the GENERAL record (R146). -/
structure General where
  cycleLength : Nat := 1200
  hmax : Nat := 6
  fdef : Nat := 120
  defrostShedLevel : Nat := 3
  probeStaleTime : Nat := 300
  faultStaleTime : Nat := 1800
  roomStaleTime : Nat := 1800
  supplyStaleTime : Nat := 600
  supplySource : Nat := 0
  overflowPolicyH : OverflowPolicy := .discardNew
  overflowPolicyM : OverflowPolicy := .discardNew
  directionDefaultH : FilterAction := .pass
  directionDefaultM : FilterAction := .pass
  noticeAddress : Nat := 0
  manualShedLevel : Nat := 0
  deriving DecidableEq, Repr

/-- The supply record (R72) and the report temperature with its age and interval (R51). -/
structure Supply where
  allowance : Nat := 120
  source : SourceState := .run
  ageStart : Nat := 0
  stale : Bool := true
  reportTemp : Option Nat := none
  tempStart : Nat := 0
  young : Bool := false
  deriving DecidableEq, Repr

/-- The allocation summary (R86). -/
structure Allocation where
  budget : Nat := 0
  reservation : Nat := 0
  bavail : Nat := 0
  committed : Nat := 0
  scaledLevel : Option Nat := none
  short : Bool := false
  deriving DecidableEq, Repr

/-- A queued head order (R97). -/
structure HeadOrder where
  loop : Fin 16
  action : Action
  deriving DecidableEq, Repr

/-- An entry of the wait list (R98). -/
structure WaitEntry where
  loop : Fin 16
  action : Action
  wasSilentRelease : Bool
  deriving DecidableEq, Repr

/-- What a transmitter is sending (R112), with the whole telegram. `orphan` marks a transmission that
was under way at a restart (R104, R117). -/
inductive Transmission where
  | answer (t : Telegram)
  | forward (t : Telegram) (orphan : Bool)
  | notice (t : Telegram)
  | headOrder (loop : Fin 16) (action : Action) (t : Telegram) (orphan : Bool)
  deriving DecidableEq, Repr

/-- The counters of a port (R115). -/
structure Counters where
  forwarded : Nat := 0
  damaged : Nat := 0
  consecutiveDamaged : Nat := 0
  overflow : Nat := 0
  malformed : Nat := 0
  strayEcho : Nat := 0
  unmatched : Nat := 0
  deriving DecidableEq, Repr

/-- A line port: transmitter, pass queue with the oldest first, counters (R111, R112, R115). -/
structure Port where
  tx : Option Transmission := none
  queue : List Telegram := []
  counters : Counters := {}
  deriving DecidableEq, Repr

/-- A rule of the rule table; `none` in a match field is ANY (R118). -/
structure Rule where
  valid : Bool := false
  direction : Direction := .both
  kind : Option Nat := none
  source : Option Nat := none
  destination : Option Nat := none
  selector : Option Nat := none
  action : FilterAction := .pass
  count : Nat := 255
  hits : Nat := 0
  deriving DecidableEq, Repr

/-- The answer buffer's content (R143, R158); `begun` once its transmission has begun. -/
structure Answer where
  dst : Byte
  code : Byte
  outcome : AnswerCode
  content : List Byte
  begun : Bool
  deriving DecidableEq, Repr

/-- An entry of the notice queue (R150). -/
structure NoticeEntry where
  kind : NoticeKind
  subject : Option Nat
  count : Nat
  value : Option Int
  inTransmission : Bool
  deriving DecidableEq, Repr

/-- The notice queue, oldest entry first, with its overflow flag and spacing interval (R151, R152). -/
structure Notices where
  entries : List NoticeEntry := []
  overflow : Bool := false
  spacingDue : Option Nat := none
  deriving DecidableEq, Repr

/-- A record of the sweep result table (R136). -/
structure SweepResult where
  verdict : Verdict := .none
  rise : Option Int := none
  crossed : Option (Fin 16) := none
  deriving DecidableEq, Repr

/-- The pattern record with its snapshot (a return value, or none for a stale mark) and the instant at
which the interval under way expires (R130). `heldBy` marks, in a wind-down, the loops whose RELEASE of the
ending waits behind a RELEASE that awaited its echo then (R137, R138). -/
structure Pattern where
  kind : PatternKind := .none
  stage : Stage := .idle
  subject : Option (Fin 16) := none
  togglesDone : Nat := 0
  arg1 : Nat := 0
  arg2 : Nat := 0
  arg3 : Nat := 0
  lastEnding : Ending := .none
  snapshot : Vector (Option Nat) 16 := Vector.replicate 16 none
  intervalDue : Option Nat := none
  heldBy : Vector Bool 16 := Vector.replicate 16 false
  deriving DecidableEq, Repr

/-- The whole part. -/
structure State where
  now : Nat := 0
  pending : List Instr := []
  strap : BitVec 3 := 0
  mode : Mode := .passive
  lock : Bool := false
  t0 : Option Nat := none
  general : General := {}
  loops : Vector Loop 16
  classes : Vector FloorClass 4
  profiles : Vector Profile 4
  rooms : Vector Room 12
  probes : Vector Probe 32
  supply : Supply := {}
  alloc : Allocation := {}
  orders : List HeadOrder := []
  waits : List WaitEntry := []
  portH : Port := {}
  portM : Port := {}
  rules : Vector Rule 24
  pattern : Pattern := {}
  sweep : Vector SweepResult 16
  answer : Option Answer := none
  notices : Notices := {}
  deriving DecidableEq, Repr

/-- The part has no machine fault: no rule of the spec stops it, so this type is empty. A loop's FAULT
is a state of the loop (R14). -/
inductive Fault where
  deriving DecidableEq, Repr

/-- Reasons for which the model has no meaning for a command. -/
inductive Refusal where
  /-- A command that has no meaning in this model yet; raised by an arm of `exec` only, and by none at
  present. Safe: the run stops. -/
  | notModelled (mnemonic : String)
  deriving DecidableEq, Repr

/-- The outcome of one command. -/
abbrev Result : Type := Host.Outcome State Fault Refusal

/-- What the carrying out of a setup request gives: the part after it, the outcome, and the content
its answer carries after the outcome byte (R145, R158). -/
structure Reply where
  part : State
  outcome : AnswerCode
  content : List Byte := []
  deriving DecidableEq, Repr

/-- The power-on record of loop i: the defaults of R1, R5 and R6, with phase index × 75 (R1). -/
def Loop.powerOn (i : Fin 16) : Loop := { phase := i.val * 75 }

/-- The part right after power-on (R148), its address straps all low (assumption 5). -/
def State.reset : State where
  loops := Vector.ofFn Loop.powerOn
  classes := #v[⟨320, 40, 256⟩, ⟨320, 24, 160⟩, ⟨384, 16, 128⟩, ⟨256, 56, 320⟩]
  profiles := #v[⟨.nc, 180, 240⟩, ⟨.no, 180, 240⟩, ⟨.nc, 60, 60⟩, ⟨.nc, 300, 300⟩]
  rooms := Vector.replicate 12 {}
  probes := Vector.replicate 32 {}
  rules := Vector.replicate 24 {}
  sweep := Vector.replicate 16 {}

end Sys2Proof.Machine
end

