-- ==== Sys2Proof/Machine/Operands.lean ====
section
/-! DEFINITION. Numbers, codes and byte layouts: the roundings and clamps of 00_scope.md 1.6, the codes
of R157 and R158, the telegram frame of R156, the layout of setup requests (R158) and the field numbers
(R159). -/

namespace Sys2Proof.Machine

open Sys2Proof

/-! ## Arithmetic (00_scope.md 1.6) -/

/-- "Clamped to [lo, hi]": below lo becomes lo, above hi becomes hi. -/
def clampInt (lo hi v : Int) : Int := if v < lo then lo else if hi < v then hi else v

/-- A written value clamped into a range of naturals. -/
def clampNat (lo hi : Nat) (v : Int) : Nat := (clampInt lo hi v).toNat

/-- The quotient rounded toward plus infinity. -/
def ceilDiv (a b : Nat) : Nat := (a + b - 1) / b

/-- The quotient of integers rounded toward minus infinity. -/
def floorDiv (a b : Int) : Int := Int.fdiv a b

/-- The quotient of integers rounded toward zero. -/
def truncDiv (a b : Int) : Int := Int.tdiv a b

/-- A one-byte count goes up by one and stops at 255 (R6, R40, R115). -/
def satInc (n : Nat) : Nat := min Config.countMax (n + 1)

/-- A 16-bit count goes up by one and wraps from 65535 to 0 (R115, R120). -/
def wrapInc (n : Nat) : Nat := (n + 1) % 65536

/-- The rounded mean of one or two temperatures, and none of none (R46, R52). A third entry does not
occur (R39). -/
def pairMean : List Nat → Option Nat
  | [] => none
  | [a] => some a
  | a :: b :: _ => some ((a + b + 1) / 2)

/-! ## Codes (R157, R158) -/

/-- The numbers a 32-bit value carries for a flag. -/
def flagCode (b : Bool) : Int := if b then 1 else 0

/-- Absent is the least 32-bit value. -/
def absentCode : Int := -2147483648

/-- A value or absent. -/
def orAbsent : Option Int → Int
  | some v => v
  | none => absentCode

/-- A natural number or absent. -/
def natOrAbsent : Option Nat → Int
  | some n => n
  | none => absentCode

/-- A natural number, or −1 for NONE, none and ANY. -/
def natOrNone : Option Nat → Int
  | some n => n
  | none => -1

/-- A table index, or −1 for none. -/
def indexOrNone {n : Nat} : Option (Fin n) → Int
  | some i => i.val
  | none => -1

/-- Codes of the mode of the part. -/
def Mode.code : Mode → Nat
  | .passive => 0
  | .active => 1
  | .halting => 2
  | .test => 3

/-- Codes of the loop state. -/
def LoopState.code : LoopState → Nat
  | .disabled => 0
  | .standby => 1
  | .running => 2
  | .shed => 3
  | .fault => 4
  | .testing => 5

/-- Codes of the head state. -/
def HeadState.code : HeadState → Nat
  | .idleUnknown => 0
  | .released => 1
  | .energiseWait => 2
  | .energisePending => 3
  | .energiseSent => 4
  | .energised => 5
  | .silentEnergise => 6
  | .releasePending => 7
  | .releaseSent => 8
  | .silentRelease => 9

/-- Codes of an action. -/
def Action.code : Action → Nat
  | .release => 0
  | .energise => 1

/-- The action of a code; other codes name none. -/
def Action.ofCode (n : Nat) : Option Action :=
  match n with
  | 0 => some .release
  | 1 => some .energise
  | _ => none

/-- The condition of a code; other codes name none. -/
def Condition.ofCode (n : Nat) : Option Condition :=
  match n with
  | 0 => some .ok
  | 1 => some .openCircuit
  | 2 => some .short
  | _ => none

/-- A cause set as a bit set: bit 0 SILENT, bit 1 DAMAGE, bit 2 PROBE. -/
def CauseSet.code (c : CauseSet) : Nat :=
  (if c.silent then 1 else 0) + (if c.damage then 2 else 0) + (if c.probe then 4 else 0)

/-- Codes of a demand source. -/
def DemandSource.code : DemandSource → Nat
  | .report => 0
  | .call => 1
  | .both => 2

/-- The demand source of a written value. -/
def DemandSource.ofValue (v : Int) : Option DemandSource :=
  if v = 0 then some .report else if v = 1 then some .call else if v = 2 then some .both else none

/-- Codes of a room's mode. -/
def RoomMode.code : RoomMode → Nat
  | .comfort => 0
  | .setback => 1
  | .away => 2
  | .off => 3

/-- The room mode of a code; any other code is ignored by the reader (R27). -/
def RoomMode.ofCode (n : Nat) : Option RoomMode :=
  match n with
  | 0 => some .comfort
  | 1 => some .setback
  | 2 => some .away
  | 3 => some .off
  | _ => none

/-- Codes of a probe's role. -/
def Role.code : Role → Nat
  | .returnWater => 0
  | .supplyWater => 1

/-- The role of a written value. -/
def Role.ofValue (v : Int) : Option Role :=
  if v = 0 then some .returnWater else if v = 1 then some .supplyWater else none

/-- Codes of a polarity. -/
def Polarity.code : Polarity → Nat
  | .nc => 0
  | .no => 1

/-- The polarity of a written value. -/
def Polarity.ofValue (v : Int) : Option Polarity :=
  if v = 0 then some .nc else if v = 1 then some .no else none

/-- Codes of the source state. -/
def SourceState.code : SourceState → Nat
  | .run => 0
  | .defrost => 1
  | .block => 2

/-- The source state of a code; any other code is ignored by the reader (R73). -/
def SourceState.ofCode (n : Nat) : Option SourceState :=
  match n with
  | 0 => some .run
  | 1 => some .defrost
  | 2 => some .block
  | _ => none

/-- Codes of a rule's direction. -/
def Direction.code : Direction → Nat
  | .hToM => 0
  | .mToH => 1
  | .both => 2

/-- The direction of a written value. -/
def Direction.ofValue (v : Int) : Option Direction :=
  if v = 0 then some .hToM else if v = 1 then some .mToH else if v = 2 then some .both else none

/-- Codes of a rule's action and of a direction default. -/
def FilterAction.code : FilterAction → Nat
  | .pass => 0
  | .block => 1
  | .ignore => 2
  | .drop => 3

/-- The filter action of a written value. -/
def FilterAction.ofValue (v : Int) : Option FilterAction :=
  if v = 0 then some .pass else if v = 1 then some .block
  else if v = 2 then some .ignore else if v = 3 then some .drop else none

/-- Codes of an overflow policy. -/
def OverflowPolicy.code : OverflowPolicy → Nat
  | .discardNew => 0
  | .discardOldest => 1

/-- The overflow policy of a written value. -/
def OverflowPolicy.ofValue (v : Int) : Option OverflowPolicy :=
  if v = 0 then some .discardNew else if v = 1 then some .discardOldest else none

/-- The flag of a written value: 1 yes, 0 no. -/
def flagOfValue (v : Int) : Option Bool :=
  if v = 0 then some false else if v = 1 then some true else none

/-- Codes of a verdict. -/
def Verdict.code : Verdict → Nat
  | .none => 0
  | .noProbe => 1
  | .noRise => 2
  | .crossed => 3
  | .confirmed => 4

/-- Codes of a pattern. -/
def PatternKind.code : PatternKind → Nat
  | .none => 0
  | .identify => 1
  | .sweep => 2

/-- Codes of a pattern's stage. -/
def Stage.code : Stage → Nat
  | .idle => 0
  | .opening => 1
  | .openHalf => 2
  | .closing => 3
  | .closedHalf => 4
  | .closingAll => 5
  | .clearing => 6
  | .dwell => 7
  | .closeWait => 8
  | .windingDown => 9

/-- Codes of a pattern's last ending. -/
def Ending.code : Ending → Nat
  | .none => 0
  | .completed => 1
  | .stopped => 2

/-- Outcome codes of an answer. -/
def AnswerCode.code : AnswerCode → Nat
  | .done => 0
  | .clamped => 1
  | .empty => 2
  | .unknown => 3
  | .range => 4
  | .static => 5
  | .locked => 6
  | .state => 7
  | .busy => 8
  | .conflict => 9

/-- Notice kind codes. -/
def NoticeKind.code : NoticeKind → Nat
  | .loopFault => 1
  | .loopRecovered => 2
  | .probeStale => 3
  | .roomStale => 4
  | .supplyStale => 5
  | .budgetShort => 6
  | .starved => 7
  | .ruleSpent => 8
  | .queueDrop => 9
  | .lineNoisy => 10
  | .crossed => 11
  | .patternDone => 12

/-- A port as a notice subject: 0 for H and 1 for M. -/
def portCode : PortId → Nat
  | .h => 0
  | .m => 1

/-- The port opposite a port (R110). -/
def opposite : PortId → PortId
  | .h => .m
  | .m => .h

/-! ## Telegrams (R156, R157) -/

/-- Kind codes. -/
def kindRoomReport : Byte := 0x21
def kindSupplyReport : Byte := 0x22
def kindZoneOrder : Byte := 0x23
def kindProbeReport : Byte := 0x31
def kindHeadOrder : Byte := 0x32
def kindHeadEcho : Byte := 0x33
def kindSetupRequest : Byte := 0x51
def kindSetupAnswer : Byte := 0x52
def kindNotice : Byte := 0x61

/-- The least length of a kind listed in R157. -/
def leastLength (kind : Byte) : Option Nat :=
  if kind = kindRoomReport then some 5
  else if kind = kindSupplyReport then some 5
  else if kind = kindZoneOrder then some 2
  else if kind = kindProbeReport then some 2
  else if kind = kindHeadOrder then some 2
  else if kind = kindHeadEcho then some 3
  else if kind = kindSetupRequest then some 1
  else if kind = kindSetupAnswer then some 2
  else if kind = kindNotice then some 6
  else none

/-- The modulo-256 sum of all bytes but the check. -/
def bodySum (dst src kind : Byte) (data : List Byte) : Byte :=
  dst + src + kind + BitVec.ofNat 8 data.length + data.foldl (· + ·) 0

/-- The modulo-256 sum of all bytes of a telegram. -/
def telegramSum (t : Telegram) : Byte := bodySum t.dst t.src t.kind t.data + t.check

/-- R106: LEN exceeds 12, or the sum is not zero. -/
def telegramDamaged (t : Telegram) : Bool :=
  decide (Config.maxLen < t.data.length) || decide (telegramSum t ≠ 0)

/-- R107: a listed kind whose LEN is below its least length. -/
def telegramMalformed (t : Telegram) : Bool :=
  match leastLength t.kind with
  | some n => decide (t.data.length < n)
  | none => false

/-- A telegram composed by the part: the check makes the sum zero (R112, R156). -/
def compose (dst src kind : Byte) (data : List Byte) : Telegram :=
  { dst := dst, src := src, kind := kind, data := data, check := 0 - bodySum dst src kind data }

/-- A data byte as a number; bytes a telegram lacks read 0. -/
def byteAt (data : List Byte) (i : Nat) : Nat := (data.getD i 0).toNat

/-- The 16-bit field at bytes i and i + 1, high byte first. -/
def wordAt (data : List Byte) (i : Nat) : BitVec 16 := data.getD i 0 ++ data.getD (i + 1) 0

/-- That field unsigned. -/
def unsignedAt (data : List Byte) (i : Nat) : Nat := (wordAt data i).toNat

/-- That field in two's complement. -/
def signedAt (data : List Byte) (i : Nat) : Int := (wordAt data i).toInt

/-- The 32-bit signed field at bytes i to i + 3. -/
def valueAt (data : List Byte) (i : Nat) : Int :=
  (wordAt data i ++ wordAt data (i + 2) : BitVec 32).toInt

/-- A number as one byte. -/
def byteOf (n : Nat) : Byte := BitVec.ofNat 8 n

/-- A signed 32-bit value as four bytes, high byte first. -/
def valueBytes (v : Int) : List Byte :=
  let w := BitVec.ofInt 32 v
  [w.extractLsb' 24 8, w.extractLsb' 16 8, w.extractLsb' 8 8, w.extractLsb' 0 8]

/-- A signed 16-bit value as two bytes, high byte first. -/
def wordBytes (v : Int) : List Byte :=
  let w := BitVec.ofInt 16 v
  [w.extractLsb' 8 8, w.extractLsb' 0 8]

/-- The number of temperatures a PROBE REPORT carries (R157). -/
def reportPositions (t : Telegram) : Nat := min 4 (t.data.length / 2)

/-- The six data bytes of a NOTICE made from an entry and the overflow flag (R157). -/
def noticeBytes (e : NoticeEntry) (overflow : Bool) : List Byte :=
  [byteOf e.kind.code, byteOf (e.subject.getD 255), byteOf e.count,
    byteOf ((if e.value.isSome then 1 else 0) + (if overflow then 2 else 0))]
    ++ wordBytes (e.value.getD 0)

/-! ## Setup requests (R158) -/

/-- Request codes. -/
def codeReadField : Byte := 0x01
def codeWriteField : Byte := 0x02
def codeEnableLoop : Byte := 0x03
def codeDisableLoop : Byte := 0x04
def codeSetMode : Byte := 0x05
def codeStartPattern : Byte := 0x06
def codeStopPattern : Byte := 0x07
def codeSetLock : Byte := 0x08
def codeTakeNotice : Byte := 0x09
def codeReadStatus : Byte := 0x0A
def codeRestart : Byte := 0x0B

/-- The least length of a known request. -/
def requestLength (code : Byte) : Option Nat :=
  if code = codeReadField then some 4
  else if code = codeWriteField then some 8
  else if code = codeEnableLoop then some 2
  else if code = codeDisableLoop then some 2
  else if code = codeSetMode then some 2
  else if code = codeStartPattern then some 6
  else if code = codeStopPattern then some 1
  else if code = codeSetLock then some 2
  else if code = codeTakeNotice then some 1
  else if code = codeReadStatus then some 1
  else if code = codeRestart then some 1
  else none

/-- The pattern arguments in a START PATTERN request. -/
def patternArguments (data : List Byte) : PatternRequest :=
  if byteAt data 1 = 1 then .identify (byteAt data 2) (byteAt data 3) (unsignedAt data 4)
  else if byteAt data 1 = 2 then .sweep (unsignedAt data 2) (unsignedAt data 4)
  else .other (byteAt data 1)

/-- The request a code names, its arguments taken from the data bytes. -/
def requestOf (code : Byte) (data : List Byte) : Option SetupRequest :=
  if code = codeReadField then some (.readField (byteAt data 1) (byteAt data 2) (byteAt data 3))
  else if code = codeWriteField then
    some (.writeField (byteAt data 1) (byteAt data 2) (byteAt data 3) (valueAt data 4))
  else if code = codeEnableLoop then some (.enableLoop (byteAt data 1))
  else if code = codeDisableLoop then some (.disableLoop (byteAt data 1))
  else if code = codeSetMode then some (.setMode (byteAt data 1))
  else if code = codeStartPattern then some (.startPattern (patternArguments data))
  else if code = codeStopPattern then some .stopPattern
  else if code = codeSetLock then some (.setLock (byteAt data 1))
  else if code = codeTakeNotice then some .takeNotice
  else if code = codeReadStatus then some .readStatus
  else if code = codeRestart then some .restart
  else none

/-- Check 1 of R143: LEN at least 1, the code known, the data long enough for it. -/
def parseRequest (data : List Byte) : Option SetupRequest :=
  match data with
  | [] => none
  | code :: _ =>
    match requestLength code with
    | none => none
    | some n => if data.length < n then none else requestOf code data

/-- The request code an answer carries; 0 for a request with LEN 0. -/
def requestCode (data : List Byte) : Byte := data.headD 0

/-! ## Tables and fields (R158, R159) -/

/-- The table of an identifier. -/
def tableOf (n : Nat) : Option TableId :=
  match n with
  | 1 => some .general
  | 2 => some .loops
  | 3 => some .rooms
  | 4 => some .probes
  | 5 => some .rules
  | 6 => some .classes
  | 7 => some .profiles
  | 8 => some .sweepResults
  | 9 => some .counters
  | _ => none

/-- How many indexes a table takes. -/
def tableSize : TableId → Nat
  | .general => 1
  | .loops => 16
  | .rooms => 12
  | .probes => 32
  | .rules => 24
  | .classes => 4
  | .profiles => 4
  | .sweepResults => 16
  | .counters => 2

/-- Whether a number lies in a range of field numbers. -/
def within (lo hi n : Nat) : Bool := decide (lo ≤ n) && decide (n ≤ hi)

/-- R159: the field exists in the table. The rejected counts of COUNTERS are unknown at index 0. -/
def fieldKnown (t : TableId) (index field : Nat) : Bool :=
  match t with
  | .general => within 1 15 field || within 20 43 field
  | .loops => within 1 13 field || within 20 37 field
  | .rooms => within 1 7 field || within 20 31 field
  | .probes => within 1 7 field || within 20 25 field
  | .rules => within 1 9 field
  | .classes => within 1 3 field
  | .profiles => within 1 3 field
  | .sweepResults => within 1 3 field
  | .counters => within 1 7 field || (decide (index ≠ 0) && within 20 51 field)

/-- GENERAL fields 1 to 15. -/
def generalField (n : Nat) : WriteTarget :=
  match n with
  | 1 => .general .cycleLength
  | 2 => .general .hmax
  | 3 => .general .fdef
  | 4 => .general .defrostShedLevel
  | 5 => .general .probeStaleTime
  | 6 => .general .faultStaleTime
  | 7 => .general .roomStaleTime
  | 8 => .general .supplyStaleTime
  | 9 => .general .supplySource
  | 10 => .general (.overflowPolicy .h)
  | 11 => .general (.overflowPolicy .m)
  | 12 => .general (.directionDefault .h)
  | 13 => .general (.directionDefault .m)
  | 14 => .general .noticeAddress
  | 15 => .general .manualShedLevel
  | _ => .readOnly

/-- LOOPS fields 1 to 13. -/
def loopField (n : Nat) : WriteTarget :=
  match n with
  | 1 => .loopRoom
  | 2 => .loopStatic .driverAddress
  | 3 => .loopStatic .headChannel
  | 4 => .loopStatic .profile
  | 5 => .loopStatic .floorClass
  | 6 => .loopStatic .weight
  | 7 => .loopStatic .phase
  | 8 => .share .smin
  | 9 => .share .smax
  | 10 => .loopStatic .fallbackDuty
  | 11 => .priority .level
  | 12 => .priority .group
  | 13 => .share .share
  | _ => .readOnly

/-- ROOMS fields 1 to 7. -/
def roomField (n : Nat) : WriteTarget :=
  match n with
  | 1 => .unitAddress
  | 2 => .room .demandSource
  | 3 => .room .band
  | 4 => .room .setback
  | 5 => .room .setpointMin
  | 6 => .room .setpointMax
  | 7 => .room .fallbackDemand
  | _ => .readOnly

/-- PROBES fields 1 to 7. -/
def probeField (n : Nat) : WriteTarget :=
  match n with
  | 1 => .probeValid
  | 2 => .probe .moduleAddress
  | 3 => .probe .channel
  | 4 => .probe .role
  | 5 => .probe .loop
  | 6 => .probe .trim
  | 7 => .probe .depth
  | _ => .readOnly

/-- RULES fields 1 to 9. -/
def ruleField (n : Nat) : WriteTarget :=
  match n with
  | 1 => .rule .valid
  | 2 => .rule .direction
  | 3 => .rule .kind
  | 4 => .rule .source
  | 5 => .rule .destination
  | 6 => .rule .selector
  | 7 => .rule .action
  | 8 => .rule .count
  | 9 => .hits
  | _ => .readOnly

/-- CLASSES fields 1 to 3. -/
def classField (n : Nat) : WriteTarget :=
  match n with
  | 1 => .floorClass .target
  | 2 => .floorClass .gain
  | 3 => .floorClass .limit
  | _ => .readOnly

/-- PROFILES fields 1 to 3. -/
def profileField (n : Nat) : WriteTarget :=
  match n with
  | 1 => .profile .polarity
  | 2 => .profile .opening
  | 3 => .profile .closing
  | _ => .readOnly

/-- COUNTERS fields 1 to 7 and 20 to 51. -/
def counterField (n : Nat) : WriteTarget :=
  match n with
  | 1 => .counter .forwarded
  | 2 => .counter .damaged
  | 3 => .counter .consecutiveDamaged
  | 4 => .counter .overflow
  | 5 => .counter .malformed
  | 6 => .counter .strayEcho
  | 7 => .counter .unmatched
  | _ => if within 20 51 n then .counter (.rejected (n - 20)) else .readOnly

/-- What a WRITE FIELD to a field of a table aims at; status fields and SWEEP RESULTS are read-only. -/
def writeTarget (t : TableId) (field : Nat) : WriteTarget :=
  match t with
  | .general => generalField field
  | .loops => loopField field
  | .rooms => roomField field
  | .probes => probeField field
  | .rules => ruleField field
  | .classes => classField field
  | .profiles => profileField field
  | .sweepResults => .readOnly
  | .counters => counterField field

end Sys2Proof.Machine
end

