-- ==== Sys2Proof/Machine/Ops.lean ====
section
/-! DEFINITION. The named operations over the part's tables, queues and registers: accessors, the notice
queue (R151), the answer buffer (R143), the pass queues (R111), the port counters (R115), head slots and
the wait list (R98), the head-order list (R97), and the placing of a wanted action (R95, R96). -/

namespace Sys2Proof.Machine

open Sys2Proof

/-! ## Accessors -/

/-- Loop record i. -/
def State.loop (s : State) (i : Fin 16) : Loop := s.loops[i]

/-- Store loop record i. -/
def State.setLoop (s : State) (i : Fin 16) (l : Loop) : State :=
  { s with loops := s.loops.set i l }

/-- Change loop record i. -/
def State.updLoop (s : State) (i : Fin 16) (f : Loop → Loop) : State := s.setLoop i (f (s.loop i))

/-- Change every loop record. -/
def State.mapLoops (s : State) (f : Fin 16 → Loop → Loop) : State :=
  { s with loops := Vector.ofFn fun i => f i (s.loop i) }

/-- Floor class record c. -/
def State.floorClass (s : State) (c : Fin 4) : FloorClass := s.classes[c]

/-- Store floor class record c. -/
def State.setFloorClass (s : State) (c : Fin 4) (k : FloorClass) : State :=
  { s with classes := s.classes.set c k }

/-- Profile record p. -/
def State.profile (s : State) (p : Fin 4) : Profile := s.profiles[p]

/-- Store profile record p. -/
def State.setProfile (s : State) (p : Fin 4) (k : Profile) : State :=
  { s with profiles := s.profiles.set p k }

/-- Room record r. -/
def State.room (s : State) (r : Fin 12) : Room := s.rooms[r]

/-- Store room record r. -/
def State.setRoom (s : State) (r : Fin 12) (k : Room) : State := { s with rooms := s.rooms.set r k }

/-- Probe entry e. -/
def State.probe (s : State) (e : Fin 32) : Probe := s.probes[e]

/-- Store probe entry e. -/
def State.setProbe (s : State) (e : Fin 32) (k : Probe) : State :=
  { s with probes := s.probes.set e k }

/-- Rule r. -/
def State.rule (s : State) (r : Fin 24) : Rule := s.rules[r]

/-- Store rule r. -/
def State.setRule (s : State) (r : Fin 24) (k : Rule) : State := { s with rules := s.rules.set r k }

/-- Sweep result record i. -/
def State.sweepResult (s : State) (i : Fin 16) : SweepResult := s.sweep[i]

/-- Store sweep result record i. -/
def State.setSweepResult (s : State) (i : Fin 16) (r : SweepResult) : State :=
  { s with sweep := s.sweep.set i r }

/-- A port. -/
def State.port (s : State) (p : PortId) : Port :=
  match p with
  | .h => s.portH
  | .m => s.portM

/-- Store a port. -/
def State.setPort (s : State) (p : PortId) (k : Port) : State :=
  match p with
  | .h => { s with portH := k }
  | .m => { s with portM := k }

/-- Change the counters of a port. -/
def State.updCounters (s : State) (p : PortId) (f : Counters → Counters) : State :=
  s.setPort p { s.port p with counters := f (s.port p).counters }

/-- The loop indexes in ascending order. -/
def loopIds : List (Fin 16) := List.finRange 16

/-- The room indexes in ascending order. -/
def roomIds : List (Fin 12) := List.finRange 12

/-- The probe entry indexes in ascending order. -/
def probeIds : List (Fin 32) := List.finRange 32

/-- The rule indexes in ascending order. -/
def ruleIds : List (Fin 24) := List.finRange 24

/-- The profile indexes in ascending order. -/
def profileIds : List (Fin 4) := List.finRange 4

/-- The part's own line address: 112 plus the strap value (R148). -/
def State.address (s : State) : Nat := Config.baseAddress + s.strap.toNat

/-- A loop is enabled in every state but DISABLED (R31). -/
def Loop.enabled (l : Loop) : Bool := l.state != .disabled

/-- RUNNING, SHED or FAULT: the states that take part in balancing, allocation and drive. -/
def Loop.engaged (l : Loop) : Bool :=
  l.state == .running || l.state == .shed || l.state == .fault

/-- Whole seconds since an instant, stopping at 65535 (R24, R40, R72). -/
def State.ageSince (s : State) (start : Nat) : Nat := min Config.ageMax (s.now - start)

/-- The overflow policy of a port (R111). -/
def State.overflowPolicy (s : State) (p : PortId) : OverflowPolicy :=
  match p with
  | .h => s.general.overflowPolicyH
  | .m => s.general.overflowPolicyM

/-- The direction default of a port of arrival (R125). -/
def State.directionDefault (s : State) (p : PortId) : FilterAction :=
  match p with
  | .h => s.general.directionDefaultH
  | .m => s.general.directionDefaultM

/-! ## Notices (R151) -/

/-- An entry about the same thing: same kind, same subject. -/
def NoticeEntry.about (e : NoticeEntry) (kind : NoticeKind) (subject : Option Nat) : Bool :=
  e.kind == kind && e.subject == subject

/-- Merging a notice into an entry: the count goes up, stopping at 255, and the value is replaced. -/
def NoticeEntry.merge (e : NoticeEntry) (value : Option Int) : NoticeEntry :=
  { e with count := satInc e.count, value := value }

/-- The queue after a notice: merged into the entry of its kind and subject, or joined to the tail, or
lost with the overflow flag set. -/
def Notices.raise (q : Notices) (kind : NoticeKind) (subject : Option Nat) (value : Option Int) :
    Notices :=
  if q.entries.any (·.about kind subject) then
    { q with entries :=
        q.entries.map fun e => if e.about kind subject then e.merge value else e }
  else if q.entries.length < Config.noticeQueueSize then
    { q with entries := q.entries ++ [⟨kind, subject, 1, value, false⟩] }
  else { q with overflow := true }

/-- A block raises a notice, as part of the raising event. -/
def State.raise (s : State) (kind : NoticeKind) (subject : Option Nat) (value : Option Int) : State :=
  { s with notices := s.notices.raise kind subject value }

/-! ## The answer buffer (R143) -/

/-- An answer is placed in the buffer, addressed to the request's source. -/
def State.putAnswer (s : State) (src code : Byte) (outcome : AnswerCode) (content : List Byte) :
    State :=
  { s with answer := some ⟨src, code, outcome, content, false⟩ }

/-- A request refused, or answered without content. -/
def Reply.plain (s : State) (outcome : AnswerCode) : Reply := ⟨s, outcome, []⟩

/-- A write that is taken: DONE or CLAMPED with the value now held (R145). -/
def Reply.held (s : State) (clamped : Bool) (value : Int) : Reply :=
  ⟨s, if clamped then .clamped else .done, valueBytes value⟩

/-- Port counts that stop at 255 (R115). -/
def State.countUnmatched (s : State) (p : PortId) : State :=
  s.updCounters p fun c => { c with unmatched := satInc c.unmatched }

/-- The stray echo count of a port goes up (R99, R108). -/
def State.countStray (s : State) (p : PortId) : State :=
  s.updCounters p fun c => { c with strayEcho := satInc c.strayEcho }

/-- A setup request as the responder takes it (R143): discarded and counted while the buffer is
occupied; refused LOCKED where the lock governs it; else carried out, and its answer placed in the
buffer at the end of the event. -/
def State.takeRequest (s : State) (src code : Byte) (lockable : Bool) (body : State → Reply) : State :=
  if s.answer.isSome then s.countUnmatched .h
  else if lockable && s.lock then s.putAnswer src code .locked []
  else (body s).part.putAnswer src code (body s).outcome (body s).content

/-- Check 4 of R143: the index lies within the table. -/
def withIndex (n : Nat) (index : Nat) (s : State) (body : Fin n → State → Reply) : Reply :=
  if h : index < n then body ⟨index, h⟩ s else Reply.plain s .range

/-! ## Pass queues (R111) -/

/-- A forwarded telegram is placed in a port's pass queue. At a full queue the overflow policy drops the
new or the oldest telegram, the overflow is counted and QUEUE DROP is raised. -/
def State.placeForward (s : State) (p : PortId) (t : Telegram) : State :=
  if (s.port p).queue.length < Config.passQueueSize then
    s.setPort p { s.port p with queue := (s.port p).queue ++ [t] }
  else
    let kept := match s.overflowPolicy p with
      | .discardNew => (s.port p).queue
      | .discardOldest => (s.port p).queue.tail ++ [t]
    let count := satInc (s.port p).counters.overflow
    (s.setPort p { s.port p with
        queue := kept, counters := { (s.port p).counters with overflow := count } }).raise
      .queueDrop (some (portCode p)) (some count)

/-! ## Heads, orders and slots (R95 to R98) -/

/-- The action that opens a loop (R8). -/
def Polarity.opening : Polarity → Action
  | .nc => .energise
  | .no => .release

/-- The action that closes a loop (R8). -/
def Polarity.closing : Polarity → Action
  | .nc => .release
  | .no => .energise

/-- The head state an action aims at (R131). -/
def Action.target : Action → HeadState
  | .release => .released
  | .energise => .energised

/-- The head state of an action whose echo timed out. -/
def Action.silent : Action → HeadState
  | .release => .silentRelease
  | .energise => .silentEnergise

/-- The head state of an action ordered and not yet transmitted whole. -/
def Action.queued : Action → HeadState
  | .release => .releasePending
  | .energise => .energisePending

/-- The head state of an action whose echo is awaited. -/
def Action.sent : Action → HeadState
  | .release => .releaseSent
  | .energise => .energiseSent

/-- The profile of loop i. -/
def State.profileOf (s : State) (i : Fin 16) : Profile := s.profile (s.loop i).profile

/-- The opening action of loop i. -/
def State.openingAction (s : State) (i : Fin 16) : Action := (s.profileOf i).polarity.opening

/-- The closing action of loop i. -/
def State.closingAction (s : State) (i : Fin 16) : Action := (s.profileOf i).polarity.closing

/-- The open-state of loop i (R8): the state its opening action aims at. -/
def State.openState (s : State) (i : Fin 16) : HeadState := (s.openingAction i).target

/-- The head states that hold a slot (06, 6.4). -/
def HeadState.holdsSlot : HeadState → Bool
  | .energisePending | .energiseSent | .energised | .silentEnergise | .releasePending => true
  | .idleUnknown | .released | .energiseWait | .releaseSent | .silentRelease => false

/-- The number of slot holders (R98). -/
def State.holders (s : State) : Nat := loopIds.countP fun i => (s.loop i).head.holdsSlot

/-- Loop i has an order in the head-order list. -/
def State.orderQueued (s : State) (i : Fin 16) : Bool := s.orders.any (·.loop == i)

/-- Loop i has an order in transmission on port M, begun since the last restart. -/
def State.orderInTransmission (s : State) (i : Fin 16) : Bool :=
  match s.portM.tx with
  | some (.headOrder j _ _ orphan) => j == i && !orphan
  | some (.answer _) | some (.forward _ _) | some (.notice _) | none => false

/-- Any head order is in transmission on port M (R103, R137). -/
def State.headOrderOnLine (s : State) : Bool :=
  match s.portM.tx with
  | some (.headOrder _ _ _ _) => true
  | some (.answer _) | some (.forward _ _) | some (.notice _) | none => false

/-- Loop i awaits an echo. -/
def Loop.awaitsEcho (l : Loop) : Bool := l.head == .energiseSent || l.head == .releaseSent

/-- Loop i has an order queued, in transmission or awaiting its echo (R2, R10). -/
def State.orderOutstanding (s : State) (i : Fin 16) : Bool :=
  s.orderQueued i || s.orderInTransmission i || (s.loop i).awaitsEcho

/-- Loop i is in the wait list. -/
def State.waiting (s : State) (i : Fin 16) : Bool := s.waits.any (·.loop == i)

/-- Loop i leaves the wait list if it is there. -/
def State.leaveWaits (s : State) (i : Fin 16) : State :=
  { s with waits := s.waits.filter (·.loop != i) }

/-- The head of loop i takes a state by a placing, a transmission or a timeout. Any such change breaks
the settle interval (R57). -/
def State.setHead (s : State) (i : Fin 16) (h : HeadState) : State :=
  s.updLoop i fun l => { l with head := h, settle := .stopped }

/-- An order of loop i joins the tail of the head-order list, and the head waits for its transmission. -/
def State.order (s : State) (i : Fin 16) (a : Action) : State :=
  let s := s.setHead i a.queued
  { s with orders := s.orders ++ [⟨i, a⟩] }

/-- The queued order of loop i is replaced, keeping its place (R96, R97). -/
def State.replaceOrder (s : State) (i : Fin 16) (a : Action) : State :=
  let s := s.setHead i a.queued
  { s with orders := s.orders.map fun o => if o.loop == i then ⟨i, a⟩ else o }

/-- A slot is asked of the arbiter to energise (R96, R98). -/
def State.askToEnergise (s : State) (i : Fin 16) : State :=
  if s.holders < s.general.hmax then s.order i .energise
  else
    let entry : WaitEntry := ⟨i, .energise, (s.loop i).head == .silentRelease⟩
    let s := s.setHead i .energiseWait
    { s with waits := s.waits ++ [entry] }

/-- A slot is asked of the arbiter to release. A loop that waits to release keeps its head state, and
one that already waits keeps its entry (R96, R98). -/
def State.askToRelease (s : State) (i : Fin 16) : State :=
  if s.waiting i then s
  else if s.holders < s.general.hmax then s.order i .release
  else { s with waits := s.waits ++ [⟨i, .release, false⟩] }

/-- Placing ENERGISE against the head state of loop i (R96). `retry` holds at step 6 of a boundary
(R92). -/
def State.placeEnergise (s : State) (i : Fin 16) (retry : Bool) : State :=
  match (s.loop i).head with
  | .released | .idleUnknown | .silentRelease => (s.leaveWaits i).askToEnergise i
  | .releasePending => if s.orderQueued i then s.replaceOrder i .energise else s
  | .silentEnergise => if retry then s.order i .energise else s
  | .energised | .energisePending | .energiseWait | .energiseSent | .releaseSent => s

/-- The head state to which loop i returns when it leaves the wait list without an order (R96). -/
def State.waitReturn (s : State) (i : Fin 16) : HeadState :=
  if s.waits.any (fun w => w.loop == i && w.wasSilentRelease) then .silentRelease else .released

/-- Placing RELEASE against the head state of loop i (R96). A head in ENERGISE-WAIT whose last action is
not RELEASE was never confirmed in any state. -/
def State.placeRelease (s : State) (i : Fin 16) (retry : Bool) : State :=
  match (s.loop i).head with
  | .energised | .silentEnergise => s.order i .release
  | .energisePending => if s.orderQueued i then s.replaceOrder i .release else s
  | .energiseWait =>
    if (s.loop i).lastAction = some .release then (s.leaveWaits i).setHead i (s.waitReturn i)
    else ((s.leaveWaits i).setHead i .idleUnknown).askToRelease i
  | .idleUnknown => s.askToRelease i
  | .silentRelease => if retry then s.askToRelease i else s
  | .released | .releasePending | .energiseSent | .releaseSent => s

/-- Placing an action against the head state of loop i. In PASSIVE mode no placing is made (R142). -/
def State.place (s : State) (i : Fin 16) (a : Action) (retry : Bool) : State :=
  if s.mode = .passive then s
  else match a with
    | .energise => s.placeEnergise i retry
    | .release => s.placeRelease i retry

/-- The wanted action of loop i is set and placed (R95). -/
def State.want (s : State) (i : Fin 16) (a : Action) (retry : Bool) : State :=
  (s.updLoop i fun l => { l with wanted := some a }).place i a retry

/-- A wanted action that differs from the confirmed or silent action is placed (R100 to R102). -/
def State.placeDiffering (s : State) (i : Fin 16) (confirmed : Action) : State :=
  match (s.loop i).wanted with
  | none => s
  | some a => if a = confirmed then s else s.place i a false

/-- Waiter a is served before waiter b: highest level, then highest group, then lowest index (R98). -/
def State.servedBefore (s : State) (a b : Fin 16) : Bool :=
  let la := s.loop a
  let lb := s.loop b
  decide (lb.level < la.level) ||
    (la.level == lb.level &&
      (decide (lb.group < la.group) || (la.group == lb.group && decide (a.val < b.val))))

/-- The waiter that a returned slot is granted to. -/
def State.bestWaiter (s : State) : Option WaitEntry :=
  s.waits.foldl
    (fun best w =>
      match best with
      | none => some w
      | some b => if s.servedBefore w.loop b.loop then some w else some b)
    none

/-- A slot has been returned: it is granted at once to the best waiter, if there is one (R98). -/
def State.grantSlot (s : State) : State :=
  match s.bestWaiter with
  | none => s
  | some w => (s.leaveWaits w.loop).order w.loop w.action

/-- A RELEASE of this loop waits behind an ENERGISE that awaits its echo (R103, R137). A RELEASE that awaits
its echo itself holds up a wind-down alone (`State.windDownHeld`; assumption 29). -/
def Loop.releaseBehind (l : Loop) : Bool := l.head == .energiseSent && l.wanted == some .release

/-- Nothing is left to send to a head: no order listed or on the line, no waiter, no release behind the
echo of an ENERGISE (R103, R137). -/
def State.headsQuiet (s : State) : Bool :=
  s.orders.isEmpty && !s.headOrderOnLine && s.waits.isEmpty &&
    loopIds.all fun i => !(s.loop i).releaseBehind

/-- HALTING passes to PASSIVE when every enabled loop is STANDBY and nothing is left to send (R103,
R141). The cycle clock stops and t0 is forgotten (R88). -/
def State.checkHalting (s : State) : State :=
  if s.mode = .halting ∧ s.headsQuiet ∧
      loopIds.all (fun i => !(s.loop i).enabled || (s.loop i).state == .standby) then
    { s with mode := .passive, t0 := none }
  else s

/-- The RELEASE that the ending of the pattern placed for loop i waits behind a RELEASE that still awaits
its echo (R96, R137, R138; assumption 29). -/
def State.windDownHeld (s : State) (i : Fin 16) : Bool :=
  s.pattern.heldBy.get i && (s.loop i).head == .releaseSent

/-- A wind-down has nothing left to send and no RELEASE waiting behind an echo (R137). -/
def State.windDownQuiet (s : State) : Bool :=
  s.headsQuiet && loopIds.all fun i => !s.windDownHeld i

/-- The wind-down of a pattern is complete when nothing is left to send and no RELEASE waits behind an echo
(R137). The arguments and the toggles done stay in the record (assumption 32). -/
def State.checkWindDown (s : State) : State :=
  if s.mode = .test ∧ s.pattern.stage = .windingDown ∧ s.windDownQuiet then
    { s with
        mode := .passive
        pattern := { s.pattern with
          kind := .none, stage := .idle, heldBy := Vector.replicate 16 false } }.raise
      .patternDone none (some (if s.pattern.lastEnding = Ending.stopped then 1 else 0))
  else s

end Sys2Proof.Machine
end

