-- ==== Sys2Proof/Machine/Flags.lean ====
section
/-! DEFINITION. Every computed flag, condition and value of the part: ages, staleness, the loop return
and the supply in use, the PROBE condition, demand, the effective shed level, the request floor, the FLT
pin, and when each of the part's own events is due. -/

namespace Sys2Proof.Machine

open Sys2Proof

/-! ## Ages (R24, R40, R51, R72) -/

/-- The age of a room: a room whose unit address is 0 does not age (R32). -/
def State.roomAge (s : State) (r : Fin 12) : Nat :=
  if (s.room r).unitAddress = 0 then 0 else s.ageSince (s.room r).ageStart

/-- The age of a probe entry: the age of an invalid entry is 0 and does not run (R40). -/
def State.probeAge (s : State) (e : Fin 32) : Nat :=
  if (s.probe e).valid then s.ageSince (s.probe e).ageStart else 0

/-- The report age of the supply record (R72). -/
def State.supplyAge (s : State) : Nat := s.ageSince s.supply.ageStart

/-- The age of the report temperature (R51). -/
def State.reportTempAge (s : State) : Nat := s.ageSince s.supply.tempStart

/-! ## Temperatures (R46, R52) -/

/-- A probe entry is usable while it is valid, not stale, and has a published value (R46). -/
def Probe.usable (p : Probe) : Bool := p.valid && !p.stale && p.published.isSome

/-- The entry is a valid RETURN entry of loop i. -/
def Probe.returnOf (p : Probe) (i : Fin 16) : Bool :=
  p.valid && p.role == .returnWater && p.loop == i

/-- The entry is a valid SUPPLY entry. -/
def Probe.isSupply (p : Probe) : Bool := p.valid && p.role == .supplyWater

/-- The published values of loop i's usable RETURN entries. -/
def State.returnValues (s : State) (i : Fin 16) : List Nat :=
  probeIds.filterMap fun e =>
    if (s.probe e).returnOf i && (s.probe e).usable then (s.probe e).published else none

/-- The loop return of loop i; none while it is stale (R46). -/
def State.loopReturn (s : State) (i : Fin 16) : Option Nat := pairMean (s.returnValues i)

/-- The published values of the usable SUPPLY entries. -/
def State.supplyValues (s : State) : List Nat :=
  probeIds.filterMap fun e =>
    if (s.probe e).isSupply && (s.probe e).usable then (s.probe e).published else none

/-- The supply temperature in use; none while it is unknown (R52). -/
def State.supplyInUse (s : State) : Option Nat :=
  match pairMean s.supplyValues with
  | some t => some t
  | none => if s.supply.young then s.supply.reportTemp else none

/-- The probe-held flag: no usable RETURN entry (R47). -/
def State.probeHeldNow (s : State) (i : Fin 16) : Bool :=
  !probeIds.any fun e => (s.probe e).returnOf i && (s.probe e).usable

/-- Entry e has reached the fault stale time (R49). It is stale by then (R45): an entry whose stale expiry
of this instant has not been taken yet has not reached it (assumption 30). -/
def State.probeFaulted (s : State) (e : Fin 32) : Bool :=
  (s.probe e).stale && decide (s.general.faultStaleTime ≤ s.probeAge e)

/-- The PROBE condition of loop i: a valid RETURN entry, and all of them at the fault stale time (R49). -/
def State.probeCondition (s : State) (i : Fin 16) : Bool :=
  (probeIds.any fun e => (s.probe e).returnOf i) &&
    probeIds.all fun e => !(s.probe e).returnOf i || s.probeFaulted e

/-! ## Demand (R28 to R30) -/

/-- The effective setpoint of a room (R28). -/
def Room.effectiveSetpoint (r : Room) : Option Int :=
  match r.mode with
  | .comfort => r.setpoint.map fun v => clampInt r.setpointMin r.setpointMax v
  | .setback => r.setpoint.map fun v => clampInt r.setpointMin r.setpointMax (v - r.setback)
  | .away => some r.setpointMin
  | .off => some r.setpointMin

/-- The demand formula of R29: 512 plus the error over the band, floored and clamped to [0, 1024]. -/
def demandFormula (effective measured : Int) (band : Nat) : Nat :=
  clampNat 0 1024 (512 + floorDiv ((effective - measured) * 1024) band)

/-- The REPORT demand of a room (R29). -/
def Room.reportDemand (r : Room) : Nat :=
  if r.stale then r.fallbackDemand
  else
    match r.measured, r.effectiveSetpoint with
    | some m, some e =>
      if r.mode = .off then if m < r.setpointMin then 1024 else 0
      else demandFormula e m r.band
    | some _, none | none, some _ | none, none => r.fallbackDemand

/-- The CALL demand of a room (R30). -/
def Room.callDemand (r : Room) : Nat := if r.call then 1024 else 0

/-- The demand of a room by its source (R30). -/
def Room.demandNow (r : Room) : Nat :=
  match r.demandSource with
  | .report => r.reportDemand
  | .call => r.callDemand
  | .both => max r.reportDemand r.callDemand

/-- The record with its effective setpoint and demand recomputed (R34). -/
def Room.recomputed (r : Room) : Room :=
  { r with effective := r.effectiveSetpoint, demand := r.demandNow }

/-- The demand that loop i's request uses (R66). Every enabled loop names a room (R10). -/
def State.demandOf (s : State) (i : Fin 16) : Nat :=
  match (s.loop i).room with
  | some r => (s.room r).demand
  | none => 0

/-- The loops whose room field names room r, in ascending index (R25). -/
def State.loopList (s : State) (r : Fin 12) : List (Fin 16) :=
  loopIds.filter fun i => (s.loop i).room == some r

/-! ## Shedding and the request floor (R67, R75) -/

/-- The source shed level (R75). -/
def State.sourceShedLevel (s : State) : Nat :=
  match s.supply.source with
  | .run => 0
  | .defrost => s.general.defrostShedLevel
  | .block => 7

/-- The effective shed level (R75). -/
def State.shedLevel (s : State) : Nat := max s.general.manualShedLevel s.sourceShedLevel

/-- A level in the shed range of an effective shed level: 0, or at most it (R75). -/
def shedAt (shedLevel level : Nat) : Bool := level == 0 || decide (level ≤ shedLevel)

/-- Loop i is in the shed range (R75). -/
def State.inShedRange (s : State) (i : Fin 16) : Bool := shedAt s.shedLevel (s.loop i).level

/-- The request floor of loop i (R67). -/
def State.requestFloor (s : State) (i : Fin 16) : Nat :=
  ceilDiv (Config.fullDuty * (s.profileOf i).opening) s.general.cycleLength

/-! ## Causes and the FLT pin (R14, R18) -/

/-- A cause is in the set. -/
def CauseSet.has (c : CauseSet) : Cause → Bool
  | .silent => c.silent
  | .damage => c.damage
  | .probe => c.probe

/-- The set with a cause in it or out of it. -/
def CauseSet.put (c : CauseSet) (present : Bool) : Cause → CauseSet
  | .silent => { c with silent := present }
  | .damage => { c with damage := present }
  | .probe => { c with probe := present }

/-- The set is empty. -/
def CauseSet.isEmpty (c : CauseSet) : Bool := !c.silent && !c.damage && !c.probe

/-- The FLT pin is driven low (R18). -/
def State.fltLow (s : State) : Bool := loopIds.any fun i => (s.loop i).state == .fault

/-! ## Heads (R57, R131) -/

/-- Loop i is open-settled (R57). -/
def State.openSettled (s : State) (i : Fin 16) : Bool :=
  (s.loop i).settle == .settled && (s.loop i).head == s.openState i

/-- An action of loop i is settled (R131). -/
def State.settledOn (s : State) (i : Fin 16) (a : Action) : Bool :=
  (s.loop i).head == a.target || (s.loop i).head == a.silent

/-! ## Boundaries (R89) -/

/-- The first of the instants base, base + T, ... that is not before an instant. -/
def nextInstant (base cycle notBefore : Nat) : Nat :=
  if notBefore ≤ base then base else base + ceilDiv (notBefore - base) cycle * cycle

/-- The first boundary of loop i that is after t0 and not before an instant (R89). -/
def State.boundaryFrom (s : State) (i : Fin 16) (t0 notBefore : Nat) : Nat :=
  nextInstant (t0 + (s.loop i).phase % s.general.cycleLength) s.general.cycleLength
    (max (t0 + 1) notBefore)

/-- The present moment is a boundary instant of loop i (R89). -/
def State.atBoundaryInstant (s : State) (i : Fin 16) : Bool :=
  match s.t0 with
  | some t0 => s.boundaryFrom i t0 s.now == s.now
  | none => false

/-! ## Events due

An interval's expiry is due when the interval runs and has reached its length; a transmission begins when
its transmitter is free and the precedence of its port picks it. -/

/-- An instant kept for a running interval has been reached. -/
def State.reached (s : State) (due : Option Nat) : Bool :=
  match due with
  | some d => decide (d ≤ s.now)
  | none => false

/-- Loop i's boundary is due: it takes part and the clock runs (R89). -/
def State.boundaryDue (s : State) (i : Fin 16) : Bool :=
  (s.mode == .active || s.mode == .halting) && (s.loop i).engaged &&
    s.reached (s.loop i).nextBoundary

/-- The on-time of loop i expires: confirmed open time has reached O, and O is not a full cycle (R92,
R93). -/
def State.onTimeDue (s : State) (i : Fin 16) : Bool :=
  (s.loop i).openPhase && decide ((s.loop i).onTime < s.general.cycleLength) &&
    decide ((s.loop i).onTime ≤ (s.loop i).openCount)

/-- The settle interval of loop i expires (R57). -/
def State.settleDue (s : State) (i : Fin 16) : Bool :=
  match (s.loop i).settle with
  | .running due => decide (due ≤ s.now)
  | .stopped | .settled => false

/-- The echo timeout of loop i expires (R102). -/
def State.echoTimeoutDue (s : State) (i : Fin 16) : Bool :=
  (s.loop i).awaitsEcho && s.reached (s.loop i).echoDue

/-- The stale interval of room r expires, the room being fresh (R32). -/
def State.roomStaleDue (s : State) (r : Fin 12) : Bool :=
  (s.room r).unitAddress != 0 && !(s.room r).stale &&
    decide (s.general.roomStaleTime ≤ s.roomAge r)

/-- The stale interval of entry e expires, the entry not being stale (R44). -/
def State.probeStaleDue (s : State) (e : Fin 32) : Bool :=
  (s.probe e).valid && !(s.probe e).stale && decide (s.general.probeStaleTime ≤ s.probeAge e)

/-- The fault interval of entry e expires (R44), after its stale expiry where both fall at one instant
(R45; assumption 30). -/
def State.probeFaultDue (s : State) (e : Fin 32) : Bool :=
  (s.probe e).valid && (s.probe e).faultRunning && s.probeFaulted e

/-- The report-temperature interval expires (R51). -/
def State.reportTempDue (s : State) : Bool :=
  s.supply.young && decide (s.general.supplyStaleTime ≤ s.reportTempAge)

/-- The report interval of the supply record expires (R74). -/
def State.supplyStaleDue (s : State) : Bool :=
  !s.supply.stale && decide (s.general.supplyStaleTime ≤ s.supplyAge)

/-- The notice spacing interval expires (R152). -/
def State.spacingDue (s : State) : Bool := s.reached s.notices.spacingDue

/-- The interval of a pattern's stage expires (R130). -/
def State.stageDue (s : State) (kind : PatternKind) (stage : Stage) : Bool :=
  s.pattern.kind == kind && s.pattern.stage == stage && s.reached s.pattern.intervalDue

/-- A half of an IDENTIFY expires (R132). -/
def State.halfDue (s : State) : Bool :=
  s.stageDue .identify .openHalf || s.stageDue .identify .closedHalf

/-- An answer waits for port H's transmitter (R113). -/
def State.answerWaits (s : State) : Bool :=
  match s.answer with
  | some a => !a.begun
  | none => false

/-- The queue offers its oldest entry (R152). -/
def State.noticeOffered (s : State) : Bool :=
  s.general.noticeAddress != 0 && s.notices.spacingDue.isNone &&
    match s.notices.entries with
    | [] => false
    | e :: _ => !e.inTransmission

/-- A port's transmitter is free. -/
def State.txFree (s : State) (p : PortId) : Bool := (s.port p).tx.isNone

/-- A head order begins transmission: port M is free and the list is not empty (R97); none is taken in
PASSIVE mode (R142). -/
def State.headOrderReady (s : State) : Bool :=
  s.txFree .m && s.mode != .passive && !s.orders.isEmpty

/-- An answer or a forwarded telegram begins transmission by its port's precedence (R113, R114). -/
def State.transmissionReady (s : State) (p : PortId) : Bool :=
  s.txFree p &&
    match p with
    | .h => s.answerWaits || !s.portH.queue.isEmpty
    | .m => !s.headOrderReady && !s.portM.queue.isEmpty

/-- A notice begins transmission: port H is free and nothing goes before it (R113). -/
def State.noticeReady (s : State) : Bool :=
  s.txFree .h && !s.answerWaits && s.portH.queue.isEmpty && s.noticeOffered

/-- Something waits at a free transmitter (R112). -/
def State.beginDue (s : State) : Bool :=
  s.transmissionReady .h || s.noticeReady || s.headOrderReady || s.transmissionReady .m

/-- An interval of the part has run out, or a boundary is reached, at the present moment. -/
def State.eventDue (s : State) : Bool :=
  s.reportTempDue || s.supplyStaleDue || s.spacingDue || s.halfDue ||
    s.stageDue .sweep .clearing || s.stageDue .sweep .dwell || s.stageDue .sweep .closeWait ||
    (loopIds.any fun i =>
      s.boundaryDue i || s.onTimeDue i || s.settleDue i || s.echoTimeoutDue i) ||
    (roomIds.any fun r => s.roomStaleDue r) ||
    probeIds.any fun e => s.probeStaleDue e || s.probeFaultDue e

end Sys2Proof.Machine
end

