-- ==== Sys2Proof/Machine/Begin.lean ====
section
/-! DEFINITION. The beginnings of transmissions: what each transmitter takes, the composing of the part's
own telegrams, and the beginning of everything that is due, which comes before every other event (07, R112
to R114, R116; 06, R97; 11, R152). -/

namespace Sys2Proof.Machine

open Sys2Proof

/-- A transmitter takes a telegram. -/
def State.transmit (s : State) (p : PortId) (x : Transmission) : State :=
  s.setPort p { s.port p with tx := some x }

/-! ## Composing (R112, R156 to R158) -/

/-- The part's address as a telegram's source. -/
def State.source (s : State) : Byte := byteOf s.address

/-- The SETUP ANSWER of an answer. -/
def State.answerTelegram (s : State) (a : Answer) : Telegram :=
  compose a.dst s.source kindSetupAnswer (a.code :: byteOf a.outcome.code :: a.content)

/-- The HEAD ORDER of an order (R97). -/
def State.orderTelegram (s : State) (o : HeadOrder) : Telegram :=
  compose (byteOf (s.loop o.loop).driverAddress) s.source kindHeadOrder
    [byteOf (s.loop o.loop).headChannel, byteOf o.action.code]

/-- The NOTICE of an entry (R152). -/
def State.noticeTelegram (s : State) (e : NoticeEntry) : Telegram :=
  compose (byteOf s.general.noticeAddress) s.source kindNotice (noticeBytes e s.notices.overflow)

/-! ## What a transmitter takes -/

/-- The answer begins its transmission (R113). -/
def State.beginAnswer (s : State) (a : Answer) : State :=
  { s with answer := some { a with begun := true } }.transmit .h (.answer (s.answerTelegram a))

/-- The oldest telegram of a pass queue begins its transmission, as it was received (R110, R111). -/
def State.beginForward (s : State) (p : PortId) : State :=
  match (s.port p).queue with
  | [] => s
  | t :: rest => (s.setPort p { s.port p with queue := rest }).transmit p (.forward t false)

/-- Port H takes the answer first, then its pass queue (R113). -/
def State.beginH (s : State) : State :=
  match s.answer with
  | some a => if a.begun then s.beginForward .h else s.beginAnswer a
  | none => s.beginForward .h

/-- The oldest head order begins its transmission: it leaves the list, and its action becomes the last
action of its loop (R97). -/
def State.takeHeadOrder (s : State) : State :=
  match s.orders with
  | [] => s
  | o :: rest =>
    ({ s with orders := rest }.updLoop o.loop fun l => { l with lastAction := some o.action }).transmit
      .m (.headOrder o.loop o.action (s.orderTelegram o) false)

/-- The oldest notice entry begins its transmission: it stays, marked, its count 0, and the overflow
flag is cleared (R152). -/
def State.takeNoticeEntry (s : State) : State :=
  match s.notices.entries with
  | [] => s
  | e :: rest =>
    let marked : NoticeEntry := { e with inTransmission := true, count := 0 }
    { s with notices := { s.notices with entries := marked :: rest, overflow := false } }.transmit
      .h (.notice (s.noticeTelegram e))

/-! ## Beginnings, each where it is due -/

/-- An answer or a forwarded telegram begins at a port (R112 to R114). -/
def State.beginTransmission (s : State) (p : PortId) : State :=
  if s.transmissionReady p then
    match p with
    | .h => s.beginH
    | .m => s.beginForward .m
  else s

/-- A head order begins (R97). -/
def State.beginHeadOrder (s : State) : State := if s.headOrderReady then s.takeHeadOrder else s

/-- A notice begins (R152). -/
def State.beginNotice (s : State) : State := if s.noticeReady then s.takeNoticeEntry else s

/-- Everything that waits at a free transmitter begins, by the precedence of its port (R112 to R114). A
transmitter begins at once, so each other event finds the part as this leaves it (R116). -/
def State.beginAll (s : State) : State :=
  ((s.beginTransmission .h).beginNotice.beginHeadOrder).beginTransmission .m

end Sys2Proof.Machine
end

