-- ==== Sys2Proof/Machine/Allocator.lean ====
section
/-! DEFINITION. The flow allocator's recompute (R76 to R86), with the shedding of R16 and R94, and the
adding and taking out of fault causes that set it off (R14, R15, R49, R50). -/

namespace Sys2Proof.Machine

open Sys2Proof

/-! ## Step 2: shedding (R16, R77, R94) -/

/-- A shed loop is closed at once: its open phase ends, O is 0 and the closing action is placed. A loop
in its closed phase, or before its first boundary, places nothing (R94). -/
def State.closeShed (s : State) (i : Fin 16) : State :=
  let open? := (s.loop i).openPhase
  let s := s.updLoop i fun l => { l with onTime := 0, openPhase := false }
  if open? then s.want i (s.closingAction i) false else s

/-- A loop without duties: active and buffered 0, pending off. -/
def Loop.noDuties (l : Loop) : Loop :=
  { l with activeDuty := 0, bufferedDuty := 0, pendingFlag := false }

/-- The transition of one loop against the shed range (R77, step 2). -/
def State.shedStep (shedLevel : Nat) (s : State) (i : Fin 16) : State :=
  let inRange := shedAt shedLevel (s.loop i).level
  match (s.loop i).state with
  | .running =>
    if inRange then
      (s.updLoop i fun l => { l.noDuties with state := .shed, request := 0, grant := 0 }).closeShed i
    else s
  | .fault => if inRange then (s.updLoop i Loop.noDuties).closeShed i else s
  | .shed => if inRange then s else s.updLoop i fun l => { l with state := .running }
  | .disabled | .standby | .testing => s

/-- Step 2 over all loops, in ascending index. -/
def State.shedAll (s : State) : State := loopIds.foldl (State.shedStep s.shedLevel) s

/-! ## Steps 3 to 5: budget, levels, floor (R78 to R80) -/

/-- The fallback reservation: fallback duty times W over the FAULT loops out of the shed range (R78). -/
def State.reservation (s : State) : Nat :=
  (loopIds.map fun i =>
    if (s.loop i).state = .fault ∧ s.inShedRange i = false then
      (s.loop i).fallbackDuty * (s.loop i).weight
    else 0).sum

/-- The budget B of a recompute (R78). -/
def State.budget (s : State) : Nat := s.supply.allowance * Config.fullDuty

/-- Bavail = max(0, B − reservation) (R78). -/
def State.bavail (s : State) : Nat := s.budget - s.reservation

/-- Q of a level: R × W over the RUNNING loops of the level (R79). -/
def State.levelDemand (s : State) (level : Nat) : Nat :=
  (loopIds.map fun i =>
    if (s.loop i).state = .running ∧ (s.loop i).level = level then
      (s.loop i).request * (s.loop i).weight
    else 0).sum

/-- The levels of an allocation, served in this order (R79). -/
def allocationLevels : List Nat := [7, 6, 5, 4, 3, 2, 1]

/-- The scaled level of an allocation with the remainder and the Q met there; none where every level
fits (R79). -/
def State.findScaled (s : State) : List Nat → Nat → Option (Nat × Nat × Nat)
  | [], _ => none
  | level :: rest, rem =>
    if s.levelDemand level ≤ rem then s.findScaled rest (rem - s.levelDemand level)
    else some (level, rem, s.levelDemand level)

/-- The grant of an eligible loop before the floor (R79). -/
def levelGrant (scaled : Option (Nat × Nat × Nat)) (level request : Nat) : Nat :=
  match scaled with
  | none => request
  | some (at', rem, q) =>
    if at' < level then request
    else if level = at' then request * rem / q
    else 0

/-- A grant above 0 and below the request floor is made 0 (R80). -/
def flooredGrant (floor grant : Nat) : Nat := if grant < floor then 0 else grant

/-- The grant of loop i: 0 unless it is RUNNING (R79 to R82). -/
def State.grantOf (s : State) (scaled : Option (Nat × Nat × Nat)) (i : Fin 16) : Nat :=
  if (s.loop i).state = .running then
    flooredGrant (s.requestFloor i) (levelGrant scaled (s.loop i).level (s.loop i).request)
  else 0

/-! ## Steps 6 and 7: buffers, summary, short flag (R81, R85, R86) -/

/-- The buffered duty takes a value, and pending says whether it differs from the active duty (R81). -/
def Loop.buffer (l : Loop) (duty : Nat) : Loop :=
  { l with bufferedDuty := duty, pendingFlag := duty != l.activeDuty }

/-- One loop's grant and buffer, by its state after step 2 (R81). -/
def Loop.allocated (l : Loop) (inRange : Bool) (grant : Nat) : Loop :=
  match l.state with
  | .running => { l with grant := grant }.buffer grant
  | .fault =>
    if inRange then { l.noDuties with grant := 0 } else { l with grant := 0 }.buffer l.fallbackDuty
  | .shed | .standby => { l.noDuties with grant := 0 }
  | .disabled | .testing => l

/-- The sum of G × W over the RUNNING loops (R80). -/
def State.committed (s : State) : Nat :=
  (loopIds.map fun i =>
    if (s.loop i).state = .running then (s.loop i).grant * (s.loop i).weight else 0).sum

/-- Steps 3 to 7, from the state after step 2. -/
def State.allocate (s : State) : State :=
  let scaled := s.findScaled allocationLevels s.bavail
  let granted := s.mapLoops fun i l => l.allocated (s.inShedRange i) (s.grantOf scaled i)
  let scaledLevel : Option Nat := scaled.map (·.1)
  let summed := { granted with
    alloc := {
      budget := s.budget
      reservation := s.reservation
      bavail := s.bavail
      committed := granted.committed
      scaledLevel := scaledLevel
      short := scaledLevel.isSome } }
  match scaledLevel with
  | some level =>
    if s.alloc.short then summed else summed.raise .budgetShort none (some level)
  | none => summed

/-- The allocator recomputes: only in ACTIVE and HALTING modes (R76, R77). -/
def State.recompute (s : State) : State :=
  if s.mode = .active ∨ s.mode = .halting then s.shedAll.allocate else s

/-! ## Causes (R14, R15) -/

/-- A RUNNING or SHED loop to which a cause was added enters FAULT (R14). -/
def Loop.intoFault (l : Loop) (inRange : Bool) : Loop :=
  let l := { l with state := .fault, request := 0, grant := 0 }
  if inRange then l.noDuties else l.buffer l.fallbackDuty

/-- A cause is added to a loop (R14). Nothing happens to a DISABLED loop or where the cause is held. -/
def State.addCause (s : State) (i : Fin 16) (c : Cause) : State :=
  let l := s.loop i
  if !l.enabled || l.causes.has c then s
  else
    let set := l.causes.put true c
    let joined := s.updLoop i fun l => { l with causes := set }
    match l.state with
    | .running | .shed =>
      ((joined.updLoop i fun l => l.intoFault (s.inShedRange i)).raise
        .loopFault (some i.val) (some set.code)).recompute
    | .fault | .standby | .testing | .disabled =>
      joined.raise .loopFault (some i.val) (some set.code)

/-- A cause is taken out of an enabled loop's set; LOOP RECOVERED when the set becomes empty (R15). -/
def State.removeCause (s : State) (i : Fin 16) (c : Cause) : State :=
  let l := s.loop i
  if !l.enabled || !l.causes.has c then s
  else
    let set := l.causes.put false c
    let left := s.updLoop i fun l => { l with causes := set }
    if set.isEmpty then left.raise .loopRecovered (some i.val) none else left

/-- The PROBE cause is added where its condition holds (R49). -/
def State.addProbeCause (s : State) (i : Fin 16) : State :=
  if s.probeCondition i then s.addCause i .probe else s

/-- The PROBE cause is taken out where its condition has ceased (R50). -/
def State.removeProbeCause (s : State) (i : Fin 16) : State :=
  if s.probeCondition i then s else s.removeCause i .probe

/-- The PROBE condition of a loop is evaluated both ways (R39, R45). -/
def State.evaluateProbe (s : State) (i : Fin 16) : State :=
  if s.probeCondition i then s.addCause i .probe else s.removeCause i .probe

end Sys2Proof.Machine
end

