-- ==== Sys2Proof/Machine/Rooms.lean ====
section
/-! DEFINITION. The room demand unit: reading room reports and zone orders, room writes and staleness
(02, R21 to R36). -/

namespace Sys2Proof.Machine

open Sys2Proof

/-- Room r changes and its effective setpoint and demand are recomputed (R34). -/
def State.updRoom (s : State) (r : Fin 12) (f : Room → Room) : State :=
  s.setRoom r (f (s.room r)).recomputed

/-- The room that a line address is the unit of; unit address 0 matches nothing (R26). -/
def State.roomOfUnit (s : State) (address : Nat) : Option (Fin 12) :=
  roomIds.find? fun r => (s.room r).unitAddress != 0 && (s.room r).unitAddress == address

/-- A measured temperature outside −640 to 3200 is ignored (R27). -/
def readMeasured (held : Option Int) (v : Int) : Option Int :=
  if -640 ≤ v ∧ v ≤ 3200 then some v else held

/-- A matched report read field by field (R27, steps 1 to 4). -/
def Room.report (r : Room) (now : Nat) (measured setpoint : Int) (mode : Nat) : Room :=
  { r with
    measured := readMeasured r.measured measured
    setpoint := some setpoint
    mode := (RoomMode.ofCode mode).getD r.mode
    ageStart := now
    stale := false }

/-- A ROOM REPORT handed to intake from port H (R26, R27). -/
def State.readRoomReport (s : State) (t : Telegram) : State :=
  match s.roomOfUnit t.src.toNat with
  | none => s.countUnmatched .h
  | some r =>
    s.updRoom r fun k => k.report s.now (signedAt t.data 0) (signedAt t.data 2) (byteAt t.data 4)

/-- The enabled loop on a driver and channel (R31). -/
def State.enabledOn (s : State) (address channel : Nat) : Option (Fin 16) :=
  loopIds.find? fun i =>
    (s.loop i).enabled && (s.loop i).driverAddress == address && (s.loop i).headChannel == channel

/-- The call of a loop's room is set; the demand is recomputed when it changes (R31). -/
def State.setCall (s : State) (i : Fin 16) (call : Bool) : State :=
  match (s.loop i).room with
  | none => s
  | some r => if (s.room r).call = call then s else s.updRoom r fun k => { k with call := call }

/-- A ZONE ORDER handed to intake from port H (R31). -/
def State.readZoneOrder (s : State) (t : Telegram) : State :=
  match s.enabledOn t.dst.toNat (byteAt t.data 0) with
  | none => s.countUnmatched .h
  | some i =>
    if byteAt t.data 1 = 0 then s.setCall i false
    else if byteAt t.data 1 = 1 then s.setCall i true
    else s.countUnmatched .h

/-- A room becomes stale: flag, notice, demand (R32). -/
def State.roomStale (s : State) (r : Fin 12) : State :=
  (s.updRoom r fun k => { k with stale := true }).raise .roomStale (some r.val) none

/-! ## Writes -/

/-- A room configuration field other than the unit address is written (R22). -/
def State.writeRoom (field : RoomField) (v : Int) (r : Fin 12) (s : State) : Reply :=
  let k := s.room r
  match field with
  | .demandSource =>
    match DemandSource.ofValue v with
    | none => Reply.plain s .range
    | some d => Reply.held (s.updRoom r fun k => { k with demandSource := d }) false v
  | .band =>
    let w := clampNat 32 256 v
    Reply.held (s.updRoom r fun k => { k with band := w }) (decide ((w : Int) ≠ v)) w
  | .setback =>
    let w := clampNat 0 640 v
    Reply.held (s.updRoom r fun k => { k with setback := w }) (decide ((w : Int) ≠ v)) w
  | .setpointMin =>
    let w := min (clampNat 0 3200 v) k.setpointMax
    Reply.held (s.updRoom r fun k => { k with setpointMin := w }) (decide ((w : Int) ≠ v)) w
  | .setpointMax =>
    let w := max (clampNat 0 3200 v) k.setpointMin
    Reply.held (s.updRoom r fun k => { k with setpointMax := w }) (decide ((w : Int) ≠ v)) w
  | .fallbackDemand =>
    let w := clampNat 0 1024 v
    Reply.held (s.updRoom r fun k => { k with fallbackDemand := w }) (decide ((w : Int) ≠ v)) w

/-- The report state of a room starts again (R23). -/
def Room.restarted (k : Room) (now address : Nat) : Room :=
  { k with
    unitAddress := address
    measured := none
    setpoint := none
    mode := .comfort
    ageStart := now
    stale := false }

/-- A room's unit address is written (R23). -/
def State.writeUnitAddress (v : Int) (r : Fin 12) (s : State) : Reply :=
  if v < 0 ∨ 126 < v then Reply.plain s .range
  else if v ≠ 0 ∧ roomIds.any (fun q => q != r && (s.room q).unitAddress == v.toNat) then
    Reply.plain s .conflict
  else if (s.room r).unitAddress = v.toNat then Reply.held s false v
  else Reply.held (s.updRoom r fun k => k.restarted s.now v.toNat) false v

/-- Rooms that have reached a new stale time become stale at once, in ascending index (R33). -/
def State.staleRooms (s : State) : State :=
  roomIds.foldl (fun s r => if s.roomStaleDue r then s.roomStale r else s) s

end Sys2Proof.Machine
end

