-- ==== Sys2Proof/Machine/Probes.lean ====
section
/-! DEFINITION. The probe conditioner: taking in samples, publishing, the balancer's cooling samples,
probe writes and staleness (03, R37 to R55; 04, R57 to R59). -/

namespace Sys2Proof.Machine

open Sys2Proof

/-- The probe-held flag of a loop is evaluated (R47). -/
def State.evaluateHeld (s : State) (i : Fin 16) : State :=
  s.updLoop i fun l => { l with probeHeld := s.probeHeldNow i }

/-! ## Samples (R42, R43, R48, R58, R59) -/

/-- Every condition of R58 for taking a publication of loop i's return as a cooling sample. -/
def State.takesSample (s : State) (i : Fin 16) : Bool :=
  ((s.loop i).state == .running || (s.loop i).state == .fault) && (s.loop i).inCycle &&
    s.openSettled i && decide ((s.loop i).accCount < Config.countMax)

/-- A cooling sample is added to the accumulator (R59). -/
def Loop.addSample (l : Loop) (sample : Int) : Loop :=
  { l with accSum := l.accSum + sample, accCount := l.accCount + 1 }

/-- A publication of loop i's return is offered to the balancer with the supply in use (R48, R58). -/
def State.offerReturn (s : State) (i : Fin 16) : State :=
  match s.loopReturn i, s.supplyInUse with
  | some ret, some supply =>
    if s.takesSample i then s.updLoop i fun l => l.addSample ((supply : Int) - ret) else s
  | some _, none | none, some _ | none, none => s

/-- The rounded mean of N accepted samples (R43). -/
def publication (sum n : Nat) : Nat := (sum + n / 2) / n

/-- The entry publishes: the mean is its published value and the accumulator is empty (R43). -/
def Probe.publish (p : Probe) : Probe :=
  { p with published := some (publication p.accSum p.depth), accSum := 0, accCount := 0 }

/-- An accepted sample: into the accumulator, both intervals started, fresh again (R42). -/
def Probe.accept (p : Probe) (now trimmed : Nat) : Probe :=
  { p with
    accSum := p.accSum + trimmed
    accCount := p.accCount + 1
    ageStart := now
    stale := false
    faultRunning := true }

/-- The publication test after an accepted sample, and the hand-off (R43, R48). -/
def State.publishTest (s : State) (e : Fin 32) : State :=
  let p := s.probe e
  if p.accCount < p.depth then s
  else
    let s := s.setProbe e p.publish
    match p.role with
    | .returnWater => (s.evaluateHeld p.loop).offerReturn p.loop
    | .supplyWater => s

/-- A sample reaches a valid entry (R42, R43, R47, R50). -/
def State.takeSample (s : State) (e : Fin 32) (sample : Int) : State :=
  let p := s.probe e
  let trimmed := sample + p.trim
  if trimmed < 0 ∨ (Config.tempMax : Int) < trimmed then
    s.setProbe e { p with rejected := satInc p.rejected }
  else
    let s := s.setProbe e (p.accept s.now trimmed.toNat)
    let s := match p.role with
      | .returnWater => (s.evaluateHeld p.loop).removeProbeCause p.loop
      | .supplyWater => s
    s.publishTest e

/-- The valid entry on a module's channel (R41). -/
def State.entryOn (s : State) (address channel : Nat) : Option (Fin 32) :=
  probeIds.find? fun e =>
    (s.probe e).valid && (s.probe e).moduleAddress == address && (s.probe e).channel == channel

/-- The sample at one position of a report (R41). -/
def State.takePosition (t : Telegram) (s : State) (position : Nat) : State :=
  match s.entryOn t.src.toNat position with
  | some e => s.takeSample e (signedAt t.data (2 * position))
  | none => s

/-- A PROBE REPORT handed to intake from port M: its positions in ascending order, counted as unmatched
if no position has an entry (R41). -/
def State.readProbeReport (s : State) (t : Telegram) : State :=
  let positions := List.range (reportPositions t)
  if positions.any fun k => (s.entryOn t.src.toNat k).isSome then
    positions.foldl (State.takePosition t) s
  else s.countUnmatched .m

/-! ## Staleness (R44, R45) -/

/-- An entry becomes stale: flag, notice, the loop's probe-held flag (R44). -/
def State.probeStale (s : State) (e : Fin 32) : State :=
  let p := s.probe e
  let s := (s.setProbe e { p with stale := true }).raise .probeStale (some e.val) none
  match p.role with
  | .returnWater => s.evaluateHeld p.loop
  | .supplyWater => s

/-- The fault interval of an entry expires; for a RETURN entry its loop's condition is evaluated
(R44). -/
def State.probeFault (s : State) (e : Fin 32) : State :=
  let p := s.probe e
  let s := s.setProbe e { p with faultRunning := false }
  match p.role with
  | .returnWater => s.addProbeCause p.loop
  | .supplyWater => s

/-- Entries that have reached a new stale time become stale at once, in ascending index (R45). -/
def State.staleProbes (s : State) : State :=
  probeIds.foldl (fun s e => if s.probeStaleDue e then s.probeStale e else s) s

/-- A write of the fault stale time moves the fault expiry of every valid entry: the interval runs where
the entry has not reached the new time (R45). -/
def State.moveFaultExpiries (s : State) : State :=
  { s with probes := Vector.ofFn fun e =>
      { s.probe e with faultRunning := (s.probe e).valid && !s.probeFaulted e } }

/-! ## Writes (R38, R39) -/

/-- The write of an identity field of an invalid entry. -/
def State.writeIdentity (s : State) (e : Fin 32) (v : Int) (inRange : Bool) (f : Probe → Probe) :
    Reply :=
  if (s.probe e).valid then Reply.plain s .static
  else if inRange then Reply.held (s.setProbe e (f (s.probe e))) false v
  else Reply.plain s .range

/-- A depth that an entry can have (R37). -/
def depthAllowed (v : Int) : Bool := v == 1 || v == 2 || v == 4 || v == 8

/-- A probe entry field other than valid is written (R38). -/
def State.writeProbe (field : ProbeField) (v : Int) (e : Fin 32) (s : State) : Reply :=
  match field with
  | .moduleAddress =>
    s.writeIdentity e v (decide (0 ≤ v) && decide (v ≤ 126))
      fun p => { p with moduleAddress := v.toNat }
  | .channel =>
    s.writeIdentity e v (decide (0 ≤ v) && decide (v ≤ 3)) fun p => { p with channel := v.toNat }
  | .role =>
    s.writeIdentity e v (Role.ofValue v).isSome
      fun p => { p with role := (Role.ofValue v).getD p.role }
  | .loop =>
    s.writeIdentity e v (decide (0 ≤ v) && decide (v ≤ 15))
      fun p => { p with loop := Fin.ofNat 16 v.toNat }
  | .trim =>
    let w := clampInt (-128) 127 v
    Reply.held (s.setProbe e { s.probe e with trim := w }) (decide (w ≠ v)) w
  | .depth =>
    if depthAllowed v then
      Reply.held
        (s.setProbe e { s.probe e with depth := v.toNat, accSum := 0, accCount := 0 }) false v
    else Reply.plain s .range

/-- The status fields of an entry take their power-on values; validation starts both intervals (R39,
R40). -/
def Probe.cleared (p : Probe) (valid : Bool) (now : Nat) : Probe :=
  { p with
    valid := valid
    accSum := 0
    accCount := 0
    published := none
    ageStart := now
    stale := false
    rejected := 0
    faultRunning := valid }

/-- Another valid entry satisfies a test. -/
def State.othersValid (s : State) (e : Fin 32) (test : Probe → Bool) : Nat :=
  probeIds.countP fun q => q != e && (s.probe q).valid && test (s.probe q)

/-- The map checks of a validation (R39): none where all pass. -/
def State.validationFails (s : State) (e : Fin 32) : Option AnswerCode :=
  let p := s.probe e
  if p.moduleAddress = 0 then some .state
  else if 0 < s.othersValid e fun q =>
      q.moduleAddress == p.moduleAddress && q.channel == p.channel then some .conflict
  else
    let peers := match p.role with
      | .returnWater => s.othersValid e fun q => q.role == .returnWater && q.loop == p.loop
      | .supplyWater => s.othersValid e fun q => q.role == .supplyWater
    if Config.maxPaired ≤ peers then some .conflict else none

/-- The set of probes of an entry's loop has changed (R39): flag and condition are re-evaluated. -/
def State.mapChanged (s : State) (e : Fin 32) : State :=
  let p := s.probe e
  match p.role with
  | .returnWater => (s.evaluateHeld p.loop).evaluateProbe p.loop
  | .supplyWater => s

/-- A probe entry's valid field is written (R39). -/
def State.writeValid (v : Int) (e : Fin 32) (s : State) : Reply :=
  match flagOfValue v with
  | none => Reply.plain s .range
  | some valid =>
    if valid = (s.probe e).valid then Reply.held s false v
    else
      match if valid then s.validationFails e else none with
      | some outcome => Reply.plain s outcome
      | none => Reply.held ((s.setProbe e ((s.probe e).cleared valid s.now)).mapChanged e) false v

end Sys2Proof.Machine
end

