-- ==== Sys2Proof/Machine/SupplyRecord.lean ====
section
/-! DEFINITION. The supply record and the report temperature: reading a SUPPLY REPORT and the two
expiries (05, R72 to R74; 03, R51). -/

namespace Sys2Proof.Machine

open Sys2Proof

/-- The supply source filter (R51, R73). -/
def State.supplyFilter (s : State) (source : Nat) : Bool :=
  s.general.supplySource == 0 || s.general.supplySource == source

/-- A report that passes the filter, read field by field (R73 steps 1 to 4, R51). -/
def Supply.report (k : Supply) (now : Nat) (temp : Int) (allowance source : Nat) : Supply :=
  let read := { k with
    allowance := min allowance Config.allowanceMax
    source := (SourceState.ofCode source).getD k.source
    ageStart := now
    stale := false }
  if 0 ≤ temp ∧ temp ≤ (Config.tempMax : Int) then
    { read with reportTemp := some temp.toNat, tempStart := now, young := true }
  else read

/-- A SUPPLY REPORT handed to intake from port H; a recompute follows when F, the source state or the
stale flag has changed (R73). -/
def State.readSupplyReport (s : State) (t : Telegram) : State :=
  if s.supplyFilter t.src.toNat then
    let k := s.supply
    let read := k.report s.now (signedAt t.data 0) (unsignedAt t.data 2) (byteAt t.data 4)
    let s := { s with supply := read }
    if read.allowance ≠ k.allowance ∨ read.source ≠ k.source ∨ k.stale then s.recompute else s
  else s.countUnmatched .h

/-- The supply record becomes stale (R74). -/
def State.supplyStale (s : State) : State :=
  ({ s with supply := { s.supply with
      stale := true, allowance := s.general.fdef, source := .run } }.raise
    .supplyStale none none).recompute

end Sys2Proof.Machine
end

