-- ==== Sys2Proof/Machine/Patterns.lean ====
section
/-! DEFINITION. The pattern unit: IDENTIFY, SWEEP, their settlements, intervals, verdicts and endings (09,
R129 to R138), and the commands of the pattern intervals. -/

namespace Sys2Proof.Machine

open Sys2Proof

/-! ## Stages -/

/-- A stage is entered, and no interval runs. -/
def State.setStage (s : State) (stage : Stage) (subject : Option (Fin 16)) : State :=
  { s with pattern :=
      { s.pattern with stage := stage, subject := subject, intervalDue := none } }

/-- A stage with an interval is entered: the interval starts now (R130). -/
def State.startInterval (s : State) (stage : Stage) (length : Nat) : State :=
  { s with pattern := { s.pattern with stage := stage, intervalDue := some (s.now + length) } }

/-- The TESTING loops in ascending index. -/
def State.testingLoops (s : State) : List (Fin 16) :=
  loopIds.filter fun i => (s.loop i).state == .testing

/-- The largest closing time among the profiles of the TESTING loops (R133). -/
def State.clearingTime (s : State) : Nat :=
  s.testingLoops.foldl (fun m i => max m (s.profileOf i).closing) 0

/-- Settlement of the action that the present stage waits for: the next stage's interval starts (R131 to
R134). -/
def State.patternSettle (s : State) : State :=
  match s.pattern.kind, s.pattern.stage, s.pattern.subject with
  | .identify, .opening, some k =>
    if s.settledOn k (s.openingAction k) then s.startInterval .openHalf s.pattern.arg3 else s
  | .identify, .closing, some k =>
    if s.settledOn k (s.closingAction k) then s.startInterval .closedHalf s.pattern.arg3 else s
  | .sweep, .closingAll, _ =>
    if s.testingLoops.all fun i => s.settledOn i (s.closingAction i) then
      s.startInterval .clearing s.clearingTime
    else s
  | .sweep, .opening, some k =>
    if s.settledOn k (s.openingAction k) then s.startInterval .dwell s.pattern.arg1 else s
  | .sweep, .closing, some k =>
    if s.settledOn k (s.closingAction k) then s.startInterval .closeWait (s.profileOf k).closing
    else s
  | _, _, _ => s

/-- A stage that drives the head of loop k: its action is placed, and may settle at the placing (R131). -/
def State.driveStage (s : State) (stage : Stage) (k : Fin 16) (a : Action) : State :=
  ((s.setStage stage (some k)).want k a false).patternSettle

/-- The TESTING loops whose RELEASE, placed now, waits for the echo of a RELEASE already sent (R96, R137,
R138; assumption 29). -/
def State.heldAtEnding (s : State) : Vector Bool 16 :=
  Vector.ofFn fun i => (s.loop i).state == .testing && (s.loop i).head == .releaseSent

/-- A pattern ends (R137): RELEASE is placed for every TESTING loop, which returns to STANDBY; the stage
becomes WINDING DOWN. -/
def State.endPattern (s : State) (ending : Ending) : State :=
  let released := s.testingLoops.foldl (fun s i => s.want i .release false)
    { s with pattern := { s.pattern with intervalDue := none } }
  let standby := released.mapLoops fun _ l =>
    if l.state = .testing then { l with state := .standby } else l
  ({ standby with pattern :=
      { standby.pattern with
        lastEnding := ending, subject := none, stage := .windingDown
        heldBy := s.heldAtEnding } }).checkWindDown

/-! ## Starting (R129) -/

/-- The enabled loops (R31). -/
def State.enabledLoops (s : State) : List (Fin 16) := loopIds.filter fun i => (s.loop i).enabled

/-- Checks 1 to 6 of R129: none where all pass. -/
def State.patternFails (s : State) (request : PatternRequest) : Option AnswerCode :=
  if s.mode ≠ .passive then some .state
  else
    match request with
    | .other _ => some .range
    | .identify loop _ _ =>
      if h : loop < 16 then
        if (s.loop ⟨loop, h⟩).enabled then none else some .range
      else some .range
    | .sweep _ _ =>
      if s.enabledLoops.isEmpty then some .state
      else if s.general.hmax ≤
          s.enabledLoops.countP (fun i => (s.profileOf i).polarity == .no) then some .state
      else none

/-- TEST mode is entered, and every STANDBY loop becomes TESTING (R129 steps 1 and 2, R17). -/
def State.enterTest (s : State) : State :=
  { s.mapLoops fun _ l => if l.state = .standby then { l with state := .testing } else l with
    mode := .test }

/-- The pattern record at a start (R129 step 3). -/
def State.setPattern (s : State) (kind : PatternKind) (arg1 arg2 arg3 : Nat) : State :=
  { s with pattern :=
      { s.pattern with
        kind := kind, arg1 := arg1, arg2 := arg2, arg3 := arg3, togglesDone := 0 } }

/-- IDENTIFY starts with the opening of loop k (R132). -/
def State.startIdentify (s : State) (k : Fin 16) (toggles interval : Nat) : State :=
  let s := s.enterTest.setPattern .identify k.val toggles interval
  s.driveStage .opening k (s.openingAction k)

/-- SWEEP starts by clearing the result table and closing every TESTING loop (R133). -/
def State.startSweep (s : State) (dwell threshold : Nat) : State :=
  let s := (s.enterTest.setPattern .sweep dwell threshold 0).setStage .closingAll none
  let s := { s with sweep := Vector.replicate 16 {} }
  (s.testingLoops.foldl (fun s i => s.want i (s.closingAction i) false) s).patternSettle

/-- START PATTERN after the common checks (R129). -/
def State.startPattern (request : PatternRequest) (s : State) : Reply :=
  match s.patternFails request with
  | some outcome => Reply.plain s outcome
  | none =>
    match request with
    | .other _ => Reply.plain s .range
    | .identify loop toggles interval =>
      let t := clampNat 1 20 toggles
      let i := clampNat 30 600 interval
      let altered := t != toggles || i != interval
      Reply.plain (s.startIdentify (Fin.ofNat 16 loop) t i) (if altered then .clamped else .done)
    | .sweep dwell threshold =>
      let d := clampNat 300 3600 dwell
      let h := clampNat 32 320 threshold
      let altered := d != dwell || h != threshold
      Reply.plain (s.startSweep d h) (if altered then .clamped else .done)

/-- STOP PATTERN after the common checks (R137). -/
def State.stopPattern (s : State) : Reply :=
  match s.mode with
  | .test =>
    if s.pattern.stage = .idle ∨ s.pattern.stage = .windingDown then Reply.plain s .done
    else Reply.plain (s.endPattern .stopped) .done
  | .passive => Reply.plain s .done
  | .active | .halting => Reply.plain s .state

/-! ## The SWEEP's tests (R134, R135) -/

/-- The loop returns of the TESTING loops as they stand (R46). -/
def State.readReturns (s : State) : Vector (Option Nat) 16 :=
  Vector.ofFn fun i => if (s.loop i).state = .testing then s.loopReturn i else none

/-- The test of loop k begins: the snapshot, then the opening action (R134). -/
def State.beginTest (s : State) (k : Fin 16) : State :=
  let s := { s with pattern := { s.pattern with snapshot := s.readReturns } }
  s.driveStage .opening k (s.openingAction k)

/-- The test of the first TESTING loop that satisfies a condition, or the end of the SWEEP. -/
def State.nextTest (s : State) (eligible : Fin 16 → Bool) : State :=
  match s.testingLoops.find? eligible with
  | some k => s.beginTest k
  | none => s.endPattern .completed

/-- The rise of loop j at the end of a dwell; absent when either reading was stale (R134). -/
def State.riseOf (s : State) (j : Fin 16) : Option Int :=
  match s.readReturns[j], s.pattern.snapshot[j] with
  | some now, some before => some ((now : Int) - before)
  | some _, none | none, some _ | none, none => none

/-- The better of two candidates for a crossing: the larger rise, and on equal rises the lower index,
which is met first (R135). -/
def betterCrossing (best : Option (Fin 16 × Int)) (j : Fin 16) (rise : Int) :
    Option (Fin 16 × Int) :=
  match best with
  | none => some (j, rise)
  | some (_, top) => if top < rise then some (j, rise) else best

/-- The loop that crosses loop k: a TESTING loop with the largest rise above k's own and at or above the
threshold (R135). -/
def State.crossingOf (s : State) (k : Fin 16) (own threshold : Int) : Option (Fin 16 × Int) :=
  s.testingLoops.foldl
    (fun best j =>
      match s.riseOf j with
      | some r => if j ≠ k ∧ own < r ∧ threshold ≤ r then betterCrossing best j r else best
      | none => best)
    none

/-- The sweep result of loop k at the end of its dwell (R135, R136). -/
def State.verdictOf (s : State) (k : Fin 16) : SweepResult :=
  match s.riseOf k with
  | none => { verdict := .noProbe }
  | some own =>
    if own < s.pattern.arg2 then { verdict := .noRise, rise := some own }
    else
      match s.crossingOf k own s.pattern.arg2 with
      | some (j, _) => { verdict := .crossed, rise := some own, crossed := some j }
      | none => { verdict := .confirmed, rise := some own }

/-- The verdict of loop k is written, and CROSSED raised where it is one (R135, R136). -/
def State.writeVerdict (s : State) (k : Fin 16) : State :=
  let result := s.verdictOf k
  let s := s.setSweepResult k result
  match result.crossed with
  | some j => s.raise .crossed (some k.val) (some (j.val : Int))
  | none => s

/-! ## The commands -/

/-- The end of a CLOSED HALF: a toggle is done; the next opening, or the end (R132). -/
def State.toggleDone (s : State) (k : Fin 16) : State :=
  let s := { s with pattern := { s.pattern with togglesDone := s.pattern.togglesDone + 1 } }
  if s.pattern.togglesDone < s.pattern.arg2 then s.driveStage .opening k (s.openingAction k)
  else s.endPattern .completed

/-- IDENTIFY_HALF_EXPIRY (R132). -/
def execIdentifyHalfExpiry (s : State) : Result :=
  let s := s.beginAll
  match s.pattern.subject with
  | none => .next s
  | some k =>
    if s.stageDue .identify .openHalf then .next (s.driveStage .closing k (s.closingAction k))
    else if s.stageDue .identify .closedHalf then .next (s.toggleDone k)
    else .next s

/-- CLEARING_EXPIRY (R133): the first loop test begins. -/
def execClearingExpiry (s : State) : Result :=
  let s := s.beginAll
  if s.stageDue .sweep .clearing then .next (s.nextTest fun _ => true) else .next s

/-- DWELL_EXPIRY (R134): readings, rises, verdict, closing action. -/
def execDwellExpiry (s : State) : Result :=
  let s := s.beginAll
  match s.pattern.subject with
  | none => .next s
  | some k =>
    if s.stageDue .sweep .dwell then
      .next ((s.writeVerdict k).driveStage .closing k (s.closingAction k))
    else .next s

/-- CLOSE_WAIT_EXPIRY (R134): the next loop's test, or the end of the SWEEP. -/
def execCloseWaitExpiry (s : State) : Result :=
  let s := s.beginAll
  match s.pattern.subject with
  | none => .next s
  | some k =>
    if s.stageDue .sweep .closeWait then .next (s.nextTest fun i => decide (k.val < i.val))
    else .next s

end Sys2Proof.Machine
end

