-- ==== Sys2Proof/Machine/Drive.lean ====
section
/-! DEFINITION. The drive timers: echoes, echo timeouts, the work at a boundary with the balancing step,
the on-time and the settle interval (04, R57, R60 to R69; 06, R88 to R103). -/

namespace Sys2Proof.Machine

open Sys2Proof

/-! ## Echoes (R99 to R101) -/

/-- The completion conditions that are checked at each echo taken and each timeout (R103, R137), after
a pattern's action may have settled (R131). -/
def State.afterHeadEvent (s : State) : State := s.patternSettle.checkHalting.checkWindDown

/-- Loop i accepts an echo of an action (R99). -/
def Loop.accepts (l : Loop) (a : Action) : Bool := l.head == a.sent || l.head == a.silent

/-- The first loop on a driver and channel that accepts an echo (R99). -/
def State.acceptor (s : State) (address channel : Nat) (a : Action) : Option (Fin 16) :=
  loopIds.find? fun i =>
    (s.loop i).driverAddress == address && (s.loop i).headChannel == channel &&
      (s.loop i).accepts a

/-- An echo confirms the head state; in the open-state it starts the settle interval (R57, R100). -/
def State.confirm (s : State) (i : Fin 16) (a : Action) : State :=
  let settle := if a.target = s.openState i then
    Settle.running (s.now + (s.profileOf i).opening) else Settle.stopped
  s.updLoop i fun l => { l with head := a.target, settle := settle, echoDue := none }

/-- The counts of a good echo (R100 step 2). -/
def Loop.goodEcho (l : Loop) : Loop := { l with misses := 0, goodRun := satInc l.goodRun }

/-- SILENT is taken out once the good-echo run has reached 2 (R100 step 3). -/
def State.clearSilent (s : State) (i : Fin 16) : State :=
  if Config.goodEchoes ≤ (s.loop i).goodRun then s.removeCause i .silent else s

/-- OPEN-CIRCUIT and SHORT add DAMAGE (R100 step 4). -/
def State.damageBy (s : State) (i : Fin 16) (c : Condition) : State :=
  match c with
  | .ok => s
  | .openCircuit | .short => s.addCause i .damage

/-- An echo taken by loop i: good in a SENT state, late in a SILENT state (R100, R101). -/
def State.takeEcho (s : State) (i : Fin 16) (a : Action) (c : Condition) : State :=
  let good := (s.loop i).head == a.sent
  let s := s.confirm i a
  let s := if good then (s.updLoop i Loop.goodEcho).clearSilent i else s
  ((s.damageBy i c).placeDiffering i a).afterHeadEvent

/-- A well-formed HEAD ECHO addressed to the part on port M (R99). Codes outside their range, and an echo
that no loop accepts, are stray. -/
def State.readEcho (s : State) (t : Telegram) : State :=
  match Action.ofCode (byteAt t.data 1), Condition.ofCode (byteAt t.data 2) with
  | some a, some c =>
    match s.acceptor t.src.toNat (byteAt t.data 0) a with
    | some i => s.takeEcho i a c
    | none => s.countStray .m
  | some _, none | none, some _ | none, none => s.countStray .m

/-! ## Echo timeouts (R102) -/

/-- The action of a SENT head state. -/
def HeadState.sentAction : HeadState → Option Action
  | .energiseSent => some .energise
  | .releaseSent => some .release
  | .idleUnknown | .released | .energiseWait | .energisePending | .energised | .silentEnergise
  | .releasePending | .silentRelease => none

/-- An order of loop i went unanswered (R102). -/
def State.timeout (s : State) (i : Fin 16) (a : Action) : State :=
  let before := (s.loop i).misses
  let s := (s.setHead i a.silent).updLoop i fun l =>
    { l with echoDue := none, misses := satInc l.misses, goodRun := 0 }
  let s := if before + 1 = Config.silentMisses then s.addCause i .silent else s
  (s.placeDiffering i a).afterHeadEvent

/-- ECHO_TIMEOUT (R102). -/
def execEchoTimeout (i : Fin 16) (s : State) : Result :=
  let s := s.beginAll
  match (s.loop i).head.sentAction with
  | some a => if s.echoTimeoutDue i then .next (s.timeout i a) else .next s
  | none => .next s

/-! ## The balancing step (R60 to R68) -/

/-- The measured cooling of a step (R63). -/
def measuredCooling (sum : Int) (count : Nat) : Int := floorDiv (sum + (count / 2 : Nat)) count

/-- The limited share change of a step (R64). -/
def shareChange (k : FloorClass) (cooling : Int) : Int :=
  clampInt (-(k.limit : Int)) k.limit (truncDiv ((cooling - k.target) * k.gain) 64)

/-- The new share (R65). -/
def newShare (l : Loop) (k : FloorClass) (cooling : Int) : Nat :=
  clampNat l.smin l.smax (l.share + shareChange k cooling)

/-- The balancing step: taken when the count is at least 1 (R61 step 1). -/
def Loop.balance (l : Loop) (k : FloorClass) : Loop :=
  if l.accCount = 0 then l
  else
    let cooling := measuredCooling l.accSum l.accCount
    { l with cooling := some cooling, share := newShare l k cooling }

/-- The accumulator is emptied (R60). -/
def Loop.emptyAcc (l : Loop) : Loop := { l with accSum := 0, accCount := 0 }

/-- The unfloored request R0 (R66). -/
def unflooredRequest (share demand : Nat) : Nat := share * demand / 1024

/-- The request R (R68). -/
def flooredRequest (r0 floor : Nat) : Nat :=
  if floor ≤ r0 then r0 else if floor / 2 ≤ r0 then floor else 0

/-- The request of loop i from its present share and its room's demand (R66 to R68). -/
def State.requestOf (s : State) (i : Fin 16) : Nat :=
  flooredRequest (unflooredRequest (s.loop i).share (s.demandOf i)) (s.requestFloor i)

/-- The step and the reset of loop i (R61 steps 1 and 2). -/
def State.balance (s : State) (i : Fin 16) : State :=
  s.updLoop i fun l => (l.balance (s.floorClass l.floorClass)).emptyAcc

/-- The request is formed, stored and posted: the allocator recomputes (R61 steps 3 and 4). -/
def State.postRequest (s : State) (i : Fin 16) : State :=
  (s.updLoop i fun l => { l with request := s.requestOf i }).recompute

/-! ## The work at a boundary (R90) -/

/-- The cycle just ended was starved (R91). -/
def Loop.starvedCycle (l : Loop) : Bool := decide (0 < l.onTime) && decide (l.achieved * 2 < l.onTime)

/-- Steps 1 and 2: capture and starvation check (R90, R91). -/
def State.capture (s : State) (i : Fin 16) : State :=
  let s := s.updLoop i fun l => { l with achieved := l.openCount }
  let l := s.loop i
  if l.starvedCycle then
    let s := s.updLoop i fun l => { l with starvedRun := satInc l.starvedRun }
    if l.starvedRun + 1 = Config.starvedCycles then
      s.raise .starved (some i.val) (some (l.achieved : Int))
    else s
  else s.updLoop i fun l => { l with starvedRun := 0 }

/-- Step 3: a FAULT loop whose set is empty leaves FAULT, and the allocator recomputes (R15). -/
def State.faultExit (s : State) (i : Fin 16) : State :=
  if (s.loop i).state = .fault ∧ (s.loop i).causes.isEmpty then
    (s.updLoop i fun l =>
      { l with state := if s.inShedRange i then .shed else .running }).recompute
  else s

/-- Step 4 in ACTIVE mode (R61, R62). -/
def State.stateWork (s : State) (i : Fin 16) : State :=
  if (s.loop i).state = .running then (s.balance i).postRequest i else s.updLoop i Loop.emptyAcc

/-- Step 5: the swap. -/
def Loop.swap (l : Loop) : Loop :=
  if l.pendingFlag then { l with activeDuty := l.bufferedDuty, pendingFlag := false } else l

/-- The cycle on-time of a duty (R92). -/
def onTimeOf (duty cycle : Nat) : Nat := duty * cycle / Config.fullDuty

/-- Step 6: the on-time is formed and the open or closed phase begins, a silent head being retried
(R92). -/
def State.phaseStart (s : State) (i : Fin 16) : State :=
  let onTime := onTimeOf (s.loop i).activeDuty s.general.cycleLength
  let s := s.updLoop i fun l =>
    { l with onTime := onTime, openPhase := decide (0 < onTime), openCount := 0, inCycle := true }
  s.want i (if 0 < onTime then s.openingAction i else s.closingAction i) true

/-- The boundary of loop i in ACTIVE mode (R90). -/
def State.activeBoundary (s : State) (i : Fin 16) : State :=
  let s := ((s.capture i).faultExit i).stateWork i
  (s.updLoop i Loop.swap).phaseStart i

/-- A loop out of the boundaries: no cycle, no on-time, no open phase (R12, R89, R103). -/
def Loop.leaveCycle (l : Loop) : Loop :=
  { l with onTime := 0, openPhase := false, inCycle := false, nextBoundary := none }

/-- Step 4 in HALTING mode: a RUNNING loop takes its step; every accumulator is emptied (R62). -/
def State.haltingWork (s : State) (i : Fin 16) : State :=
  if (s.loop i).state = .running then s.balance i else s.updLoop i Loop.emptyAcc

/-- A loop finishes in HALTING mode: RELEASE placed, STANDBY, recompute, completion check (R103). -/
def State.haltingBoundary (s : State) (i : Fin 16) : State :=
  let s := ((s.capture i).haltingWork i).want i .release false
  let s := s.updLoop i fun l =>
    { l.noDuties.leaveCycle with state := .standby, request := 0, grant := 0 }
  s.recompute.checkHalting

/-- The work at a due boundary of loop i; the next one is a cycle later (R89, R90, R103). -/
def State.boundary (s : State) (i : Fin 16) : State :=
  let s := s.updLoop i fun l =>
    { l with
      nextBoundary := l.nextBoundary.map (· + s.general.cycleLength), lastBoundary := some s.now }
  if s.mode = .halting then s.haltingBoundary i else s.activeBoundary i

/-- LOOP_BOUNDARY (R90). For a loop that takes no part, the passing of its boundary instant is only
recorded, for R89's sentence on a boundary and an ENABLE at the same moment. -/
def execLoopBoundary (i : Fin 16) (s : State) : Result :=
  let s := s.beginAll
  if s.boundaryDue i then .next (s.boundary i)
  else if s.atBoundaryInstant i then
    .next (s.updLoop i fun l => { l with lastBoundary := some s.now })
  else .next s

/-- ON_TIME_EXPIRY (R93): the open phase ends and the closing action is placed. -/
def execOnTimeExpiry (i : Fin 16) (s : State) : Result :=
  let s := s.beginAll
  if s.onTimeDue i then
    .next ((s.updLoop i fun l => { l with openPhase := false }).want i (s.closingAction i) false)
  else .next s

/-- SETTLE_INTERVAL_EXPIRY (R57): the loop becomes open-settled. -/
def execSettleIntervalExpiry (i : Fin 16) (s : State) : Result :=
  let s := s.beginAll
  if s.settleDue i then .next (s.updLoop i fun l => { l with settle := .settled }) else .next s

/-! ## START (R140) -/

/-- A STANDBY loop is placed by START (R13, R95): in FAULT, SHED or RUNNING, with its first boundary
after t0. -/
def Loop.placed (l : Loop) (inRange : Bool) (firstBoundary : Nat) : Loop :=
  { l.leaveCycle with
    state := if !l.causes.isEmpty then .fault else if inRange then .shed else .running
    wanted := none
    openCount := 0
    nextBoundary := some firstBoundary }

/-- START, as one event (R140): t0, the PROBE condition of every STANDBY loop, the placement against the
effective shed level, one recompute. -/
def State.start (s : State) : State :=
  let t0 := s.now
  let s := { s with mode := .active, t0 := some t0 }
  let s := loopIds.foldl
    (fun s i => if (s.loop i).state = .standby then s.addProbeCause i else s) s
  let s := s.mapLoops fun i l =>
    if l.state = .standby then l.placed (s.inShedRange i) (s.boundaryFrom i t0 (t0 + 1)) else l
  s.recompute

end Sys2Proof.Machine
end

