-- ==== Sys2Proof/Machine/Reads.lean ====
section
/-! DEFINITION. READ FIELD and READ STATUS: the value of every field of every table as it is held, or
formed, when the request is taken (R145, R158, R159). -/

namespace Sys2Proof.Machine

open Sys2Proof

/-- GENERAL fields (R159). -/
def State.readGeneral (s : State) (field : Nat) : Int :=
  match field with
  | 1 => s.general.cycleLength
  | 2 => s.general.hmax
  | 3 => s.general.fdef
  | 4 => s.general.defrostShedLevel
  | 5 => s.general.probeStaleTime
  | 6 => s.general.faultStaleTime
  | 7 => s.general.roomStaleTime
  | 8 => s.general.supplyStaleTime
  | 9 => s.general.supplySource
  | 10 => s.general.overflowPolicyH.code
  | 11 => s.general.overflowPolicyM.code
  | 12 => s.general.directionDefaultH.code
  | 13 => s.general.directionDefaultM.code
  | 14 => s.general.noticeAddress
  | 15 => s.general.manualShedLevel
  | 20 => s.address
  | 21 => s.supply.allowance
  | 22 => s.supply.source.code
  | 23 => s.supplyAge
  | 24 => flagCode s.supply.stale
  | 25 => natOrAbsent s.supply.reportTemp
  | 26 => s.reportTempAge
  | 27 => natOrAbsent s.supplyInUse
  | 28 => s.alloc.budget
  | 29 => s.alloc.reservation
  | 30 => s.alloc.bavail
  | 31 => s.alloc.committed
  | 32 => natOrNone s.alloc.scaledLevel
  | 33 => flagCode s.alloc.short
  | 34 => s.pattern.kind.code
  | 35 => s.pattern.stage.code
  | 36 => indexOrNone s.pattern.subject
  | 37 => s.pattern.togglesDone
  | 38 => s.pattern.arg1
  | 39 => s.pattern.arg2
  | 40 => s.pattern.arg3
  | 41 => s.pattern.lastEnding.code
  | 42 => s.mode.code
  | 43 => flagCode s.lock
  | _ => absentCode

/-- The code of a last action: 0 RELEASE, 1 ENERGISE, −1 none. -/
def lastActionCode : Option Action → Int
  | some a => a.code
  | none => -1

/-- LOOPS fields (R159). -/
def State.readLoop (s : State) (i : Fin 16) (field : Nat) : Int :=
  let l := s.loop i
  match field with
  | 1 => indexOrNone l.room
  | 2 => l.driverAddress
  | 3 => l.headChannel
  | 4 => l.profile.val
  | 5 => l.floorClass.val
  | 6 => l.weight
  | 7 => l.phase
  | 8 => l.smin
  | 9 => l.smax
  | 10 => l.fallbackDuty
  | 11 => l.level
  | 12 => l.group
  | 13 => l.share
  | 20 => l.state.code
  | 21 => l.causes.code
  | 22 => l.activeDuty
  | 23 => l.bufferedDuty
  | 24 => flagCode l.pendingFlag
  | 25 => l.request
  | 26 => l.grant
  | 27 => l.head.code
  | 28 => lastActionCode l.lastAction
  | 29 => orAbsent l.cooling
  | 30 => l.accSum
  | 31 => l.accCount
  | 32 => l.misses
  | 33 => l.goodRun
  | 34 => l.starvedRun
  | 35 => l.achieved
  | 36 => flagCode l.probeHeld
  | 37 => natOrAbsent (s.loopReturn i)
  | _ => absentCode

/-- ROOMS fields (R159). -/
def State.readRoom (s : State) (r : Fin 12) (field : Nat) : Int :=
  let k := s.room r
  match field with
  | 1 => k.unitAddress
  | 2 => k.demandSource.code
  | 3 => k.band
  | 4 => k.setback
  | 5 => k.setpointMin
  | 6 => k.setpointMax
  | 7 => k.fallbackDemand
  | 20 => orAbsent k.measured
  | 21 => orAbsent k.setpoint
  | 22 => k.mode.code
  | 23 => orAbsent k.effective
  | 24 => s.roomAge r
  | 25 => flagCode k.stale
  | 26 => flagCode k.call
  | 27 => k.demand
  | 28 => (s.loopList r).length
  | 29 => indexOrNone (s.loopList r)[0]?
  | 30 => indexOrNone (s.loopList r)[1]?
  | 31 => indexOrNone (s.loopList r)[2]?
  | _ => absentCode

/-- PROBES fields (R159). -/
def State.readProbe (s : State) (e : Fin 32) (field : Nat) : Int :=
  let p := s.probe e
  match field with
  | 1 => flagCode p.valid
  | 2 => p.moduleAddress
  | 3 => p.channel
  | 4 => p.role.code
  | 5 => p.loop.val
  | 6 => p.trim
  | 7 => p.depth
  | 20 => p.accSum
  | 21 => p.accCount
  | 22 => natOrAbsent p.published
  | 23 => s.probeAge e
  | 24 => flagCode p.stale
  | 25 => p.rejected
  | _ => absentCode

/-- RULES fields (R159). -/
def State.readRule (s : State) (r : Fin 24) (field : Nat) : Int :=
  let k := s.rule r
  match field with
  | 1 => flagCode k.valid
  | 2 => k.direction.code
  | 3 => natOrNone k.kind
  | 4 => natOrNone k.source
  | 5 => natOrNone k.destination
  | 6 => natOrNone k.selector
  | 7 => k.action.code
  | 8 => k.count
  | 9 => k.hits
  | _ => absentCode

/-- CLASSES fields (R159). -/
def State.readClass (s : State) (c : Fin 4) (field : Nat) : Int :=
  match field with
  | 1 => (s.floorClass c).target
  | 2 => (s.floorClass c).gain
  | 3 => (s.floorClass c).limit
  | _ => absentCode

/-- PROFILES fields (R159). -/
def State.readProfile (s : State) (p : Fin 4) (field : Nat) : Int :=
  match field with
  | 1 => (s.profile p).polarity.code
  | 2 => (s.profile p).opening
  | 3 => (s.profile p).closing
  | _ => absentCode

/-- SWEEP RESULTS fields (R159). -/
def State.readSweep (s : State) (i : Fin 16) (field : Nat) : Int :=
  match field with
  | 1 => (s.sweepResult i).verdict.code
  | 2 => orAbsent (s.sweepResult i).rise
  | 3 => indexOrNone (s.sweepResult i).crossed
  | _ => absentCode

/-- The port of a COUNTERS index (R145). -/
def portOfIndex (index : Nat) : PortId := if index = 0 then .h else .m

/-- COUNTERS fields (R159). -/
def State.readCounter (s : State) (index field : Nat) : Int :=
  let c := (s.port (portOfIndex index)).counters
  match field with
  | 1 => c.forwarded
  | 2 => c.damaged
  | 3 => c.consecutiveDamaged
  | 4 => c.overflow
  | 5 => c.malformed
  | 6 => c.strayEcho
  | 7 => c.unmatched
  | _ => (s.probe (Fin.ofNat 32 (field - 20))).rejected

/-- A field of a table at an index that lies within it. -/
def State.readValue (s : State) (t : TableId) (index field : Nat) : Int :=
  match t with
  | .general => s.readGeneral field
  | .loops => s.readLoop (Fin.ofNat 16 index) field
  | .rooms => s.readRoom (Fin.ofNat 12 index) field
  | .probes => s.readProbe (Fin.ofNat 32 index) field
  | .rules => s.readRule (Fin.ofNat 24 index) field
  | .classes => s.readClass (Fin.ofNat 4 index) field
  | .profiles => s.readProfile (Fin.ofNat 4 index) field
  | .sweepResults => s.readSweep (Fin.ofNat 16 index) field
  | .counters => s.readCounter index field

/-- READ FIELD after checks 1 and 2: the table and field, the index, the value (R143, R145). -/
def State.readField (table index field : Nat) (s : State) : Reply :=
  match tableOf table with
  | none => Reply.plain s .unknown
  | some t =>
    if !fieldKnown t index field then Reply.plain s .unknown
    else if tableSize t ≤ index then Reply.plain s .range
    else Reply.held s false (s.readValue t index field)

/-- READ STATUS: mode, lock, effective shed level, short flag, slot holders, one byte each (R145). -/
def State.readStatus (s : State) : Reply :=
  ⟨s, .done, [byteOf s.mode.code, byteOf (if s.lock then 1 else 0), byteOf s.shedLevel,
    byteOf (if s.alloc.short then 1 else 0), byteOf s.holders]⟩

/-- READ_FIELD (R145). -/
def execReadField (src : Byte) (table index field : Nat) (s : State) : Result :=
  .next (s.beginAll.takeRequest src codeReadField false (State.readField table index field))

/-- READ_STATUS (R145). -/
def execReadStatus (src : Byte) (s : State) : Result :=
  .next (s.beginAll.takeRequest src codeReadStatus false State.readStatus)

end Sys2Proof.Machine
end

