-- ==== Sys2Proof/Machine/Writes.lean ====
section
/-! DEFINITION. WRITE FIELD to every table (R145), each field as its owning rule states, and the commands
of the writes that have a rule of their own. -/

namespace Sys2Proof.Machine

open Sys2Proof

/-! ## Loops (R2 to R5) -/

/-- A structural value: refused RANGE outside [0, hi], else stored. -/
def State.storeLoop (s : State) (i : Fin 16) (hi v : Int) (f : Loop → Nat → Loop) : Reply :=
  if v < 0 ∨ hi < v then Reply.plain s .range
  else Reply.held (s.updLoop i fun l => f l v.toNat) false v

/-- The same, refused BUSY while the loop has a head order queued, in transmission or awaiting its echo
(R2). -/
def State.storeHeadBinding (s : State) (i : Fin 16) (hi v : Int) (f : Loop → Nat → Loop) : Reply :=
  if v < 0 ∨ hi < v then Reply.plain s .range
  else if s.orderOutstanding i then Reply.plain s .busy
  else Reply.held (s.updLoop i fun l => f l v.toNat) false v

/-- A tuning value: clamped and stored. -/
def State.tuneLoop (s : State) (i : Fin 16) (lo hi : Nat) (v : Int) (f : Loop → Nat → Loop) : Reply :=
  let w := clampNat lo hi v
  Reply.held (s.updLoop i fun l => f l w) (decide ((w : Int) ≠ v)) w

/-- A static field of a loop is written (R2). -/
def State.writeLoopStatic (field : LoopStaticField) (v : Int) (i : Fin 16) (s : State) : Reply :=
  if (s.loop i).state ≠ .disabled then Reply.plain s .static
  else
    match field with
    | .driverAddress => s.storeHeadBinding i 126 v fun l w => { l with driverAddress := w }
    | .headChannel => s.storeHeadBinding i 7 v fun l w => { l with headChannel := w }
    | .profile => s.storeLoop i 3 v fun l w => { l with profile := Fin.ofNat 4 w }
    | .floorClass => s.storeLoop i 3 v fun l w => { l with floorClass := Fin.ofNat 4 w }
    | .weight => s.tuneLoop i 1 50 v fun l w => { l with weight := w }
    | .phase => s.tuneLoop i 0 3599 v fun l w => { l with phase := w }
    | .fallbackDuty => s.tuneLoop i 0 4096 v fun l w => { l with fallbackDuty := w }

/-- The room field of a loop is written (R2, R4). -/
def State.writeLoopRoom (v : Int) (i : Fin 16) (s : State) : Reply :=
  if (s.loop i).state ≠ .disabled then Reply.plain s .static
  else if v = -1 then Reply.held (s.updLoop i fun l => { l with room := none }) false v
  else if v < 0 ∨ 11 < v then Reply.plain s .range
  else
    let r : Fin 12 := Fin.ofNat 12 v.toNat
    let others := (s.loopList r).countP fun j => j != i
    if Config.maxLoopsPerRoom ≤ others then Reply.plain s .conflict
    else Reply.held (s.updLoop i fun l => { l with room := some r }) false v

/-- S is clamped into the record's limits (R3). -/
def Loop.clampShare (l : Loop) : Loop := { l with share := clampNat l.smin l.smax l.share }

/-- Smin, Smax or S is written (R3). -/
def State.writeShare (field : ShareField) (v : Int) (i : Fin 16) (s : State) : Reply :=
  let l := s.loop i
  match field with
  | .smin =>
    if l.state ≠ .disabled then Reply.plain s .static
    else
      let w := min (clampNat 64 4096 v) l.smax
      let l' := { l with smin := w }.clampShare
      Reply.held (s.setLoop i l') (decide ((w : Int) ≠ v) || l'.share != l.share) w
  | .smax =>
    if l.state ≠ .disabled then Reply.plain s .static
    else
      let w := max (clampNat 64 4096 v) l.smin
      let l' := { l with smax := w }.clampShare
      Reply.held (s.setLoop i l') (decide ((w : Int) ≠ v) || l'.share != l.share) w
  | .share =>
    let w := clampNat l.smin l.smax v
    Reply.held (s.setLoop i { l with share := w }) (decide ((w : Int) ≠ v)) w

/-- Level or group is written; a level write to a RUNNING, SHED or FAULT loop recomputes (R5). -/
def State.writePriority (field : PriorityField) (v : Int) (i : Fin 16) (s : State) : Reply :=
  match field with
  | .level =>
    let w := clampNat 0 7 v
    let stored := s.updLoop i fun l => { l with level := w }
    Reply.held (if (s.loop i).engaged then stored.recompute else stored) (decide ((w : Int) ≠ v)) w
  | .group =>
    let w := clampNat 0 3 v
    Reply.held (s.updLoop i fun l => { l with group := w }) (decide ((w : Int) ≠ v)) w

/-! ## Floor classes and profiles (R7, R9) -/

/-- A floor class field is written (R7). -/
def State.writeClass (field : ClassField) (v : Int) (c : Fin 4) (s : State) : Reply :=
  let k := s.floorClass c
  match field with
  | .target =>
    let w := clampNat 192 640 v
    Reply.held (s.setFloorClass c { k with target := w }) (decide ((w : Int) ≠ v)) w
  | .gain =>
    let w := clampNat 0 255 v
    Reply.held (s.setFloorClass c { k with gain := w }) (decide ((w : Int) ≠ v)) w
  | .limit =>
    let w := clampNat 16 1024 v
    Reply.held (s.setFloorClass c { k with limit := w }) (decide ((w : Int) ≠ v)) w

/-- A profile field is written (R9). -/
def State.writeProfile (field : ProfileField) (v : Int) (p : Fin 4) (s : State) : Reply :=
  let k := s.profile p
  if s.mode ≠ .passive then Reply.plain s .static
  else
    match field with
    | .polarity =>
      match Polarity.ofValue v with
      | none => Reply.plain s .range
      | some q => Reply.held (s.setProfile p { k with polarity := q }) false v
    | .opening =>
      let w := min (clampNat 30 600 v) (s.general.cycleLength / 2)
      Reply.held (s.setProfile p { k with opening := w }) (decide ((w : Int) ≠ v)) w
    | .closing =>
      let w := clampNat 30 600 v
      Reply.held (s.setProfile p { k with closing := w }) (decide ((w : Int) ≠ v)) w

/-! ## GENERAL (R146) -/

/-- Change the configuration of the GENERAL record. -/
def State.updGeneral (s : State) (f : General → General) : State := { s with general := f s.general }

/-- A static tuning value of GENERAL: refused STATIC outside PASSIVE mode, else clamped and stored. -/
def State.tuneGeneral (s : State) (w : Nat) (v : Int) (f : General → General) : Reply :=
  if s.mode ≠ .passive then Reply.plain s .static
  else Reply.held (s.updGeneral f) (decide ((w : Int) ≠ v)) w

/-- T (R146): clamped, then raised to at least twice the largest opening time of the four profiles. -/
def State.writeCycleLength (v : Int) (s : State) : Reply :=
  let largest := profileIds.foldl (fun m p => max m (s.profile p).opening) 0
  let w := max (clampNat 600 3600 v) (2 * largest)
  s.tuneGeneral w v fun g => { g with cycleLength := w }

/-- Hmax (R146). -/
def State.writeHmax (v : Int) (s : State) : Reply :=
  let w := clampNat 1 16 v
  s.tuneGeneral w v fun g => { g with hmax := w }

/-- Fdef (R74): while the record is stale, F takes it at once. -/
def State.writeFdef (v : Int) (s : State) : Reply :=
  let w := clampNat 0 2000 v
  let r := s.tuneGeneral w v fun g => { g with fdef := w }
  if s.mode = .passive ∧ s.supply.stale then
    { r with part := { r.part with supply := { r.part.supply with allowance := w } } }
  else r

/-- The defrost shed level (R146). -/
def State.writeDefrostShedLevel (v : Int) (s : State) : Reply :=
  let w := clampNat 0 7 v
  s.tuneGeneral w v fun g => { g with defrostShedLevel := w }

/-- The probe stale time (R45): at most the fault stale time; entries may become stale at once. -/
def State.writeProbeStaleTime (v : Int) (s : State) : Reply :=
  let w := min (clampNat 60 1800 v) s.general.faultStaleTime
  let r := s.tuneGeneral w v fun g => { g with probeStaleTime := w }
  if s.mode = .passive then { r with part := r.part.staleProbes } else r

/-- The fault stale time (R45): at least the probe stale time; every enabled loop is evaluated. -/
def State.writeFaultStaleTime (v : Int) (s : State) : Reply :=
  let w := max (clampNat 600 7200 v) s.general.probeStaleTime
  let r := s.tuneGeneral w v fun g => { g with faultStaleTime := w }
  if s.mode = .passive then
    { r with part := loopIds.foldl State.evaluateProbe r.part.moveFaultExpiries }
  else r

/-- The room stale time (R33): rooms may become stale at once. -/
def State.writeRoomStaleTime (v : Int) (s : State) : Reply :=
  let w := clampNat 300 7200 v
  let r := s.tuneGeneral w v fun g => { g with roomStaleTime := w }
  if s.mode = .passive then { r with part := r.part.staleRooms } else r

/-- The report-temperature interval against a new supply stale time: the temperature is young while its
age is below it (R51). -/
def State.moveTempExpiry (s : State) : State :=
  { s with supply := { s.supply with
      young := s.supply.reportTemp.isSome &&
        decide (s.reportTempAge < s.general.supplyStaleTime) } }

/-- The supply stale time (R51, R74): the record may become stale at once. -/
def State.writeSupplyStaleTime (v : Int) (s : State) : Reply :=
  let w := clampNat 120 3600 v
  let r := s.tuneGeneral w v fun g => { g with supplyStaleTime := w }
  if s.mode = .passive then
    let moved := r.part.moveTempExpiry
    { r with part := if moved.supplyStaleDue then moved.supplyStale else moved }
  else r

/-- A static structural value of GENERAL in [0, hi]: STATIC, then RANGE, else stored. -/
def State.storeGeneral (s : State) (hi v : Int) (f : General → General) : Reply :=
  if s.mode ≠ .passive then Reply.plain s .static
  else if v < 0 ∨ hi < v then Reply.plain s .range
  else Reply.held (s.updGeneral f) false v

/-- The supply source address (R74). -/
def State.writeSupplySource (v : Int) (s : State) : Reply :=
  s.storeGeneral 126 v fun g => { g with supplySource := v.toNat }

/-- An overflow policy (R111). -/
def State.writeOverflowPolicy (p : PortId) (v : Int) (s : State) : Reply :=
  s.storeGeneral 1 v fun g =>
    let policy := (OverflowPolicy.ofValue v).getD .discardNew
    match p with
    | .h => { g with overflowPolicyH := policy }
    | .m => { g with overflowPolicyM := policy }

/-- A direction default (R125). -/
def State.writeDirectionDefault (p : PortId) (v : Int) (s : State) : Reply :=
  s.storeGeneral 3 v fun g =>
    let action := (FilterAction.ofValue v).getD .pass
    match p with
    | .h => { g with directionDefaultH := action }
    | .m => { g with directionDefaultM := action }

/-- The notice address (R154). -/
def State.writeNoticeAddress (v : Int) (s : State) : Reply :=
  s.storeGeneral 127 v fun g => { g with noticeAddress := v.toNat }

/-- The manual shed level (R75): in every mode; a recompute follows. -/
def State.writeManualShedLevel (v : Int) (s : State) : Reply :=
  let w := clampNat 0 7 v
  Reply.held (s.updGeneral fun g => { g with manualShedLevel := w }).recompute
    (decide ((w : Int) ≠ v)) w

/-- A configuration field of GENERAL is written (R146). -/
def State.writeGeneral (field : GeneralField) (v : Int) (s : State) : Reply :=
  match field with
  | .cycleLength => s.writeCycleLength v
  | .hmax => s.writeHmax v
  | .fdef => s.writeFdef v
  | .defrostShedLevel => s.writeDefrostShedLevel v
  | .probeStaleTime => s.writeProbeStaleTime v
  | .faultStaleTime => s.writeFaultStaleTime v
  | .roomStaleTime => s.writeRoomStaleTime v
  | .supplyStaleTime => s.writeSupplyStaleTime v
  | .supplySource => s.writeSupplySource v
  | .overflowPolicy p => s.writeOverflowPolicy p v
  | .directionDefault p => s.writeDirectionDefault p v
  | .noticeAddress => s.writeNoticeAddress v
  | .manualShedLevel => s.writeManualShedLevel v

/-! ## Counters and rules (R115, R119, R120) -/

/-- A port counter set to 0 (R115). A rejected count is no port counter. -/
def Counters.reset (c : Counters) : CounterField → Counters
  | .forwarded => { c with forwarded := 0 }
  | .damaged => { c with damaged := 0 }
  | .consecutiveDamaged => { c with consecutiveDamaged := 0 }
  | .overflow => { c with overflow := 0 }
  | .malformed => { c with malformed := 0 }
  | .strayEcho => { c with strayEcho := 0 }
  | .unmatched => { c with unmatched := 0 }
  | .rejected _ => c

/-- The rejected count of a probe entry is set to 0; the field is unknown at index 0 (R159). -/
def State.writeRejected (entry index : Nat) (s : State) : Reply :=
  if h : entry < 32 then
    if index = 0 then Reply.plain s .unknown
    else if 2 ≤ index then Reply.plain s .range
    else Reply.held (s.setProbe ⟨entry, h⟩ { s.probe ⟨entry, h⟩ with rejected := 0 }) false 0
  else Reply.plain s .unknown

/-- A counter is written: it becomes 0 whatever the value (R115). -/
def State.writeCounter (field : CounterField) (index : Nat) (s : State) : Reply :=
  match field with
  | .rejected entry => s.writeRejected entry index
  | .forwarded | .damaged | .consecutiveDamaged | .overflow | .malformed | .strayEcho
  | .unmatched =>
    if 2 ≤ index then Reply.plain s .range
    else Reply.held (s.updCounters (portOfIndex index) (·.reset field)) false 0

/-- A taken write of any field of a rule also sets its hits to 0 (R120). -/
def State.storeRule (s : State) (r : Fin 24) (k : Rule) : State := s.setRule r { k with hits := 0 }

/-- A match field: −1 for ANY, or a value in [0, hi] (R119). -/
def State.writeMatch (s : State) (r : Fin 24) (hi v : Int) (f : Option Nat → Rule) : Reply :=
  if v = -1 then Reply.held (s.storeRule r (f none)) false v
  else if v < 0 ∨ hi < v then Reply.plain s .range
  else Reply.held (s.storeRule r (f (some v.toNat))) false v

/-- A rule field other than hits is written (R119, R120). -/
def State.writeRule (field : RuleField) (v : Int) (r : Fin 24) (s : State) : Reply :=
  let k := s.rule r
  match field with
  | .valid =>
    match flagOfValue v with
    | none => Reply.plain s .range
    | some b => Reply.held (s.storeRule r { k with valid := b }) false v
  | .direction =>
    match Direction.ofValue v with
    | none => Reply.plain s .range
    | some d => Reply.held (s.storeRule r { k with direction := d }) false v
  | .kind => s.writeMatch r 255 v fun m => { k with kind := m }
  | .source => s.writeMatch r 127 v fun m => { k with source := m }
  | .destination => s.writeMatch r 127 v fun m => { k with destination := m }
  | .selector => s.writeMatch r 255 v fun m => { k with selector := m }
  | .action =>
    match FilterAction.ofValue v with
    | none => Reply.plain s .range
    | some a => Reply.held (s.storeRule r { k with action := a }) false v
  | .count =>
    let w := clampNat 0 255 v
    Reply.held (s.storeRule r { k with count := w }) (decide ((w : Int) ≠ v)) w

/-- A rule's hits is written: 0 is stored whatever the value, and answered DONE (R119, R120). -/
def State.writeHits (r : Fin 24) (s : State) : Reply :=
  Reply.held (s.storeRule r (s.rule r)) false 0

/-! ## WRITE FIELD (R143, R145) -/

/-- A write to a field that exists, at an index within its table, by what the field is. -/
def State.writeAt (target : WriteTarget) (index : Nat) (v : Int) (s : State) : Reply :=
  match target with
  | .readOnly => Reply.plain s .unknown
  | .general field => s.writeGeneral field v
  | .loopRoom => withIndex 16 index s (State.writeLoopRoom v)
  | .loopStatic field => withIndex 16 index s (State.writeLoopStatic field v)
  | .share field => withIndex 16 index s (State.writeShare field v)
  | .priority field => withIndex 16 index s (State.writePriority field v)
  | .unitAddress => withIndex 12 index s (State.writeUnitAddress v)
  | .room field => withIndex 12 index s (State.writeRoom field v)
  | .probeValid => withIndex 32 index s (State.writeValid v)
  | .probe field => withIndex 32 index s (State.writeProbe field v)
  | .rule field => withIndex 24 index s (State.writeRule field v)
  | .hits => withIndex 24 index s State.writeHits
  | .floorClass field => withIndex 4 index s (State.writeClass field v)
  | .profile field => withIndex 4 index s (State.writeProfile field v)
  | .counter field => s.writeCounter field index

/-- WRITE FIELD after checks 1 and 2: the table and field, the index, then the write. -/
def State.writeField (table index field : Nat) (v : Int) (s : State) : Reply :=
  match tableOf table with
  | none => Reply.plain s .unknown
  | some t =>
    if !fieldKnown t index field then Reply.plain s .unknown
    else if tableSize t ≤ index then Reply.plain s .range
    else s.writeAt (writeTarget t field) index v

/-- A WRITE FIELD request taken by the responder: it is governed by the lock (R144). -/
def State.takeWrite (s : State) (src : Byte) (body : State → Reply) : State :=
  s.takeRequest src codeWriteField true body

/-! ## The commands -/

/-- WRITE_FIELD (R145). -/
def execWriteField (src : Byte) (table index field : Nat) (v : Int) (s : State) : Result :=
  .next (s.beginAll.takeWrite src (State.writeField table index field v))

/-- LOOP_STATIC_FIELD_WRITE (R2). -/
def execLoopStaticFieldWrite (src : Byte) (loop : Nat) (field : LoopStaticField) (v : Int)
    (s : State) : Result :=
  .next (s.beginAll.takeWrite src (State.writeAt (.loopStatic field) loop v))

/-- LOOP_ROOM_WRITE (R4). -/
def execLoopRoomWrite (src : Byte) (loop : Nat) (v : Int) (s : State) : Result :=
  .next (s.beginAll.takeWrite src (State.writeAt .loopRoom loop v))

/-- SHARE_WRITE (R3). -/
def execShareWrite (src : Byte) (loop : Nat) (field : ShareField) (v : Int) (s : State) : Result :=
  .next (s.beginAll.takeWrite src (State.writeAt (.share field) loop v))

/-- LEVEL_WRITE (R5). -/
def execLevelWrite (src : Byte) (loop : Nat) (field : PriorityField) (v : Int) (s : State) :
    Result :=
  .next (s.beginAll.takeWrite src (State.writeAt (.priority field) loop v))

/-- FLOOR_CLASS_WRITE (R7). -/
def execFloorClassWrite (src : Byte) (cls : Nat) (field : ClassField) (v : Int) (s : State) :
    Result :=
  .next (s.beginAll.takeWrite src (State.writeAt (.floorClass field) cls v))

/-- PROFILE_WRITE (R9). -/
def execProfileWrite (src : Byte) (profile : Nat) (field : ProfileField) (v : Int) (s : State) :
    Result :=
  .next (s.beginAll.takeWrite src (State.writeAt (.profile field) profile v))

/-- ROOM_FIELD_WRITE (R22). -/
def execRoomFieldWrite (src : Byte) (room : Nat) (field : RoomField) (v : Int) (s : State) :
    Result :=
  .next (s.beginAll.takeWrite src (State.writeAt (.room field) room v))

/-- UNIT_ADDRESS_WRITE (R23). -/
def execUnitAddressWrite (src : Byte) (room : Nat) (v : Int) (s : State) : Result :=
  .next (s.beginAll.takeWrite src (State.writeAt .unitAddress room v))

/-- PROBE_FIELD_WRITE (R38). -/
def execProbeFieldWrite (src : Byte) (entry : Nat) (field : ProbeField) (v : Int) (s : State) :
    Result :=
  .next (s.beginAll.takeWrite src (State.writeAt (.probe field) entry v))

/-- PROBE_VALID_WRITE (R39). -/
def execProbeValidWrite (src : Byte) (entry : Nat) (v : Int) (s : State) : Result :=
  .next (s.beginAll.takeWrite src (State.writeAt .probeValid entry v))

/-- PROBE_STALE_TIME_WRITE (R45). -/
def execProbeStaleTimeWrite (src : Byte) (v : Int) (s : State) : Result :=
  .next (s.beginAll.takeWrite src (State.writeProbeStaleTime v))

/-- FAULT_STALE_TIME_WRITE (R45). -/
def execFaultStaleTimeWrite (src : Byte) (v : Int) (s : State) : Result :=
  .next (s.beginAll.takeWrite src (State.writeFaultStaleTime v))

/-- ROOM_STALE_TIME_WRITE (R33). -/
def execRoomStaleTimeWrite (src : Byte) (v : Int) (s : State) : Result :=
  .next (s.beginAll.takeWrite src (State.writeRoomStaleTime v))

/-- FDEF_WRITE (R74). -/
def execFdefWrite (src : Byte) (v : Int) (s : State) : Result :=
  .next (s.beginAll.takeWrite src (State.writeFdef v))

/-- SUPPLY_STALE_TIME_WRITE (R74). -/
def execSupplyStaleTimeWrite (src : Byte) (v : Int) (s : State) : Result :=
  .next (s.beginAll.takeWrite src (State.writeSupplyStaleTime v))

/-- SUPPLY_SOURCE_ADDRESS_WRITE (R74). -/
def execSupplySourceAddressWrite (src : Byte) (v : Int) (s : State) : Result :=
  .next (s.beginAll.takeWrite src (State.writeSupplySource v))

/-- MANUAL_SHED_LEVEL_WRITE (R75). -/
def execManualShedLevelWrite (src : Byte) (v : Int) (s : State) : Result :=
  .next (s.beginAll.takeWrite src (State.writeManualShedLevel v))

/-- CYCLE_LENGTH_WRITE (R146). -/
def execCycleLengthWrite (src : Byte) (v : Int) (s : State) : Result :=
  .next (s.beginAll.takeWrite src (State.writeCycleLength v))

/-- OVERFLOW_POLICY_WRITE (R111). -/
def execOverflowPolicyWrite (src : Byte) (p : PortId) (v : Int) (s : State) : Result :=
  .next (s.beginAll.takeWrite src (State.writeOverflowPolicy p v))

/-- DIRECTION_DEFAULT_WRITE (R125). -/
def execDirectionDefaultWrite (src : Byte) (p : PortId) (v : Int) (s : State) : Result :=
  .next (s.beginAll.takeWrite src (State.writeDirectionDefault p v))

/-- NOTICE_ADDRESS_WRITE (R154). -/
def execNoticeAddressWrite (src : Byte) (v : Int) (s : State) : Result :=
  .next (s.beginAll.takeWrite src (State.writeNoticeAddress v))

/-- COUNTER_WRITE (R115). -/
def execCounterWrite (src : Byte) (index : Nat) (field : CounterField) (v : Int) (s : State) :
    Result :=
  .next (s.beginAll.takeWrite src (State.writeAt (.counter field) index v))

/-- RULE_FIELD_WRITE (R119). -/
def execRuleFieldWrite (src : Byte) (rule : Nat) (field : RuleField) (v : Int) (s : State) :
    Result :=
  .next (s.beginAll.takeWrite src (State.writeAt (.rule field) rule v))

/-- HITS_WRITE (R120). -/
def execHitsWrite (src : Byte) (rule : Nat) (v : Int) (s : State) : Result :=
  .next (s.beginAll.takeWrite src (State.writeAt .hits rule v))

end Sys2Proof.Machine
end

