-- ==== Sys2Proof/Machine/Setup.lean ====
section
/-! DEFINITION. The requests other than reads and writes: ENABLE LOOP and DISABLE LOOP (01, R10 to R12),
SET MODE (10, R140, R141), SET LOCK (10, R144), START PATTERN and STOP PATTERN (09), TAKE NOTICE (11,
R153), RESTART (10, R147). -/

namespace Sys2Proof.Machine

open Sys2Proof

/-! ## ENABLE LOOP (R10, R11) -/

/-- Two loops name the same driver and channel. -/
def Loop.sameHead (l k : Loop) : Bool :=
  l.driverAddress == k.driverAddress && l.headChannel == k.headChannel

/-- Check 5 of R10: another loop on the head of loop i is enabled, or has an order outstanding. -/
def State.headInUse (s : State) (i : Fin 16) : Bool :=
  loopIds.any fun j =>
    j != i && (s.loop j).sameHead (s.loop i) && ((s.loop j).enabled || s.orderOutstanding j)

/-- The checks of R10: none where all pass, else the outcome of the first that fails. -/
def State.enableFails (s : State) (i : Fin 16) : Option AnswerCode :=
  if s.mode = .halting ∨ s.mode = .test then some .busy
  else if (s.loop i).enabled then some .done
  else if s.orderOutstanding i then some .busy
  else if (s.loop i).room.isNone ∨ (s.loop i).driverAddress = 0 ∨ 126 < (s.loop i).driverAddress then
    some .state
  else if s.headInUse i then some .conflict
  else none

/-- The status fields at their values of R6, which ENABLE and a restart share (R104): the measured
cooling and the probe-held flag are left to the event. -/
def Loop.clearStatus (l : Loop) : Loop :=
  { l.noDuties.leaveCycle.emptyAcc with
    causes := {}
    request := 0
    grant := 0
    head := .idleUnknown
    lastAction := none
    misses := 0
    goodRun := 0
    starvedRun := 0
    achieved := 0
    wanted := none
    openCount := 0
    settle := .stopped
    echoDue := none }

/-- The first boundary of a loop enabled now: after the ENABLE, or at this moment where the boundary of
this moment has not been taken (R11, R89). -/
def State.firstBoundary (s : State) (i : Fin 16) : Option Nat :=
  let notBefore := if (s.loop i).lastBoundary = some s.now then s.now + 1 else s.now
  s.t0.map fun t0 => s.boundaryFrom i t0 notBefore

/-- The record of loop i after ENABLE, before the PROBE condition is evaluated (R11 steps 1 to 3). -/
def State.enabledLoop (s : State) (i : Fin 16) : Loop :=
  let l := { (s.loop i).clearStatus with cooling := none, probeHeld := s.probeHeldNow i }
  if s.mode = .active then
    { l with
      state := if s.inShedRange i then .shed else .running, nextBoundary := s.firstBoundary i }
  else { l with state := .standby }

/-- ENABLE takes effect (R11): the loop leaves the wait list, its record is set, the allocator
recomputes in ACTIVE mode, and the PROBE condition is evaluated. -/
def State.enable (s : State) (i : Fin 16) : State :=
  (((s.leaveWaits i).setLoop i (s.enabledLoop i)).recompute).addProbeCause i

/-- ENABLE LOOP after the common checks. -/
def State.enableLoop (i : Fin 16) (s : State) : Reply :=
  match s.enableFails i with
  | some outcome => Reply.plain s outcome
  | none => Reply.plain (s.enable i) .done

/-! ## DISABLE LOOP (R12) -/

/-- The record of a loop after DISABLE (R12 steps 1, 2 and 5). -/
def Loop.disabled (l : Loop) : Loop :=
  { l.noDuties.leaveCycle.emptyAcc with state := .disabled, request := 0, grant := 0 }

/-- The wait list at a DISABLE (R12 step 3). A head in ENERGISE-WAIT in ACTIVE mode leaves it at the
placing of step 5, which needs its entry (R96). -/
def State.leaveWaitsAtDisable (s : State) (i : Fin 16) : State :=
  if s.mode = .active ∧ (s.loop i).head = .energiseWait then s else s.leaveWaits i

/-- DISABLE takes effect (R12): the record, the wait list, the recompute, the release. -/
def State.disable (s : State) (i : Fin 16) : State :=
  let cleared := (s.leaveWaitsAtDisable i).updLoop i Loop.disabled
  let recomputed := if (s.loop i).engaged then cleared.recompute else cleared
  if s.mode = .active then recomputed.want i .release false else recomputed

/-- DISABLE LOOP after the common checks. -/
def State.disableLoop (i : Fin 16) (s : State) : Reply :=
  if s.mode = .halting ∨ s.mode = .test then Reply.plain s .busy
  else if (s.loop i).enabled then Reply.plain (s.disable i) .done
  else Reply.plain s .done

/-! ## SET MODE (R140, R141) -/

/-- HALTING begins, and may complete at once (R141). -/
def State.beginHalting (s : State) : State := { s with mode := .halting }.checkHalting

/-- SET MODE after the common checks: 0 requests PASSIVE, 1 requests ACTIVE. -/
def State.setMode (requested : Nat) (s : State) : Reply :=
  if requested = 1 then
    match s.mode with
    | .passive =>
      if s.enabledLoops.isEmpty then Reply.plain s .state else Reply.plain s.start .done
    | .active => Reply.plain s .done
    | .halting | .test => Reply.plain s .busy
  else if requested = 0 then
    match s.mode with
    | .active => Reply.plain s.beginHalting .done
    | .passive | .halting => Reply.plain s .done
    | .test => Reply.plain s .busy
  else Reply.plain s .range

/-! ## SET LOCK, TAKE NOTICE, RESTART -/

/-- SET LOCK (R144): 1 sets, 0 clears, any other value is refused. -/
def State.setLock (value : Nat) (s : State) : Reply :=
  match value with
  | 0 => Reply.plain { s with lock := false } .done
  | 1 => Reply.plain { s with lock := true } .done
  | _ => Reply.plain s .range

/-- TAKE NOTICE (R153): the oldest entry not in transmission, with the overflow flag, which is then
cleared. -/
def State.takeNotice (s : State) : Reply :=
  if s.general.noticeAddress ≠ 0 then Reply.plain s .empty
  else
    match s.notices.entries.find? fun e => !e.inTransmission with
    | none => Reply.plain s .empty
    | some e =>
      let left := s.notices.entries.eraseP fun e => !e.inTransmission
      ⟨{ s with notices := { s.notices with entries := left, overflow := false } }, .done,
        noticeBytes e s.notices.overflow⟩

/-- RESTART (R147): DONE, and nothing else is done when it is taken. -/
def State.restartRequest (s : State) : Reply := Reply.plain s .done

/-! ## The commands -/

/-- ENABLE_LOOP (R10, R11). -/
def execEnableLoop (src : Byte) (loop : Nat) (s : State) : Result :=
  .next (s.beginAll.takeRequest src codeEnableLoop true fun s =>
    withIndex 16 loop s State.enableLoop)

/-- DISABLE_LOOP (R12). -/
def execDisableLoop (src : Byte) (loop : Nat) (s : State) : Result :=
  .next (s.beginAll.takeRequest src codeDisableLoop true fun s =>
    withIndex 16 loop s State.disableLoop)

/-- SET_MODE (R140). -/
def execSetMode (src : Byte) (requested : Nat) (s : State) : Result :=
  .next (s.beginAll.takeRequest src codeSetMode true (State.setMode requested))

/-- START_PATTERN (R129). -/
def execStartPattern (src : Byte) (request : PatternRequest) (s : State) : Result :=
  .next (s.beginAll.takeRequest src codeStartPattern true (State.startPattern request))

/-- STOP_PATTERN (R137). -/
def execStopPattern (src : Byte) (s : State) : Result :=
  .next (s.beginAll.takeRequest src codeStopPattern true State.stopPattern)

/-- SET_LOCK (R144). -/
def execSetLock (src : Byte) (value : Nat) (s : State) : Result :=
  .next (s.beginAll.takeRequest src codeSetLock false (State.setLock value))

/-- TAKE_NOTICE (R153). -/
def execTakeNotice (src : Byte) (s : State) : Result :=
  .next (s.beginAll.takeRequest src codeTakeNotice false State.takeNotice)

/-- RESTART_REQUEST (R147). -/
def execRestartRequest (src : Byte) (s : State) : Result :=
  .next (s.beginAll.takeRequest src codeRestart false State.restartRequest)

end Sys2Proof.Machine
end

