-- ==== Sys2Proof/Machine/Traffic.lean ====
section
/-! DEFINITION. Reception at a port: the judging of a telegram, the telegrams addressed to the part, the
pass filter and what intake reads (07, R106 to R111; 08, R121 to R126; 10, R143). -/

namespace Sys2Proof.Machine

open Sys2Proof

/-! ## Setup requests from the line (R143, R158) -/

/-- The lock governs a request (R144). -/
def lockable : SetupRequest → Bool
  | .readField _ _ _ | .readStatus | .takeNotice | .setLock _ | .restart => false
  | .writeField _ _ _ _ | .enableLoop _ | .disableLoop _ | .setMode _ | .startPattern _
  | .stopPattern => true

/-- The carrying out of a request (R145). -/
def State.carryOut (request : SetupRequest) (s : State) : Reply :=
  match request with
  | .readField table index field => s.readField table index field
  | .writeField table index field value => s.writeField table index field value
  | .enableLoop loop => withIndex 16 loop s State.enableLoop
  | .disableLoop loop => withIndex 16 loop s State.disableLoop
  | .setMode requested => s.setMode requested
  | .startPattern request => s.startPattern request
  | .stopPattern => s.stopPattern
  | .setLock value => s.setLock value
  | .takeNotice => s.takeNotice
  | .readStatus => s.readStatus
  | .restart => s.restartRequest

/-- A SETUP REQUEST handed over by port H. One that fails check 1 is answered UNKNOWN whatever the
lock (R143). -/
def State.takeSetup (s : State) (t : Telegram) : State :=
  match parseRequest t.data with
  | none => s.takeRequest t.src (requestCode t.data) false fun s => Reply.plain s .unknown
  | some request =>
    s.takeRequest t.src (requestCode t.data) (lockable request) (State.carryOut request)

/-! ## Judging a telegram (R106, R107) -/

/-- The counters of a port at a damaged telegram. -/
def Counters.damagedMore (c : Counters) : Counters :=
  { c with damaged := satInc c.damaged, consecutiveDamaged := satInc c.consecutiveDamaged }

/-- A damaged telegram: counted, and LINE NOISY when the run passes from 7 to 8. -/
def State.takeDamaged (s : State) (p : PortId) : State :=
  let before := (s.port p).counters.consecutiveDamaged
  let s := s.updCounters p Counters.damagedMore
  if before + 1 = Config.noisyRun then
    s.raise .lineNoisy (some (portCode p)) (some ((s.port p).counters.damaged : Int))
  else s

/-- The counters of a port at a good telegram, malformed or not. -/
def Counters.goodTelegram (c : Counters) (malformed : Bool) : Counters :=
  { c with
    consecutiveDamaged := 0
    malformed := if malformed then satInc c.malformed else c.malformed }

/-! ## Telegrams addressed to the part (R108, R109) -/

/-- Port H consumes a good telegram addressed to the part. -/
def State.consumeH (s : State) (t : Telegram) : State :=
  if t.kind = kindSetupRequest then s.takeSetup t
  else if t.kind = kindHeadEcho then if telegramMalformed t then s else s.countStray .h
  else s.countUnmatched .h

/-- Port M consumes a good telegram addressed to the part. -/
def State.consumeM (s : State) (t : Telegram) : State :=
  if t.kind = kindHeadEcho then if telegramMalformed t then s else s.readEcho t
  else s.countUnmatched .m

/-- A port consumes a good telegram addressed to the part. -/
def State.consume (s : State) (p : PortId) (t : Telegram) : State :=
  match p with
  | .h => s.consumeH t
  | .m => s.consumeM t

/-! ## The pass filter (R121 to R125) -/

/-- A rule's direction admits a port of arrival. -/
def Direction.admits : Direction → PortId → Bool
  | .both, _ => true
  | .hToM, p => p == .h
  | .mToH, p => p == .m

/-- A match field admits a value: ANY, or equal. -/
def matchAny (field : Option Nat) (value : Nat) : Bool :=
  match field with
  | none => true
  | some n => n == value

/-- The selector admits the data of a telegram: ANY, or its first byte. -/
def selectorMatches (field : Option Nat) (data : List Byte) : Bool :=
  match field, data with
  | none, _ => true
  | some _, [] => false
  | some n, b :: _ => n == b.toNat

/-- A rule matches a telegram (R121). -/
def Rule.matchesTelegram (r : Rule) (p : PortId) (t : Telegram) : Bool :=
  r.direction.admits p && matchAny r.kind t.kind.toNat && matchAny r.source t.src.toNat &&
    matchAny r.destination t.dst.toNat && selectorMatches r.selector t.data

/-- The rule that applies to a telegram: the first that is valid, has a count above 0 and matches
(R122). -/
def State.applyingRule (s : State) (p : PortId) (t : Telegram) : Option (Fin 24) :=
  ruleIds.find? fun r =>
    (s.rule r).valid && (s.rule r).count != 0 && (s.rule r).matchesTelegram p t

/-- A rule's hits and count after an application (R120, R124). -/
def Rule.applied (r : Rule) : Rule :=
  { r with hits := wrapInc r.hits, count := if r.count = 255 then 255 else r.count - 1 }

/-- A rule applies: hits, count, and RULE SPENT when the count passes from 1 to 0 (R123, R124). -/
def State.applyRule (s : State) (r : Fin 24) : State :=
  let before := s.rule r
  let s := s.setRule r before.applied
  if before.count = 1 then
    s.raise .ruleSpent (some r.val) (some (before.applied.hits : Int))
  else s

/-- An action forwards (R123). -/
def FilterAction.forwards : FilterAction → Bool
  | .pass | .ignore => true
  | .block | .drop => false

/-- An action reads (R123). -/
def FilterAction.reads : FilterAction → Bool
  | .pass | .block => true
  | .ignore | .drop => false

/-- The filter's evaluation: the part after it, and the action (R122). -/
def State.filter (s : State) (p : PortId) (t : Telegram) : State × FilterAction :=
  if s.mode = .passive then (s, .pass)
  else
    match s.applyingRule p t with
    | some r => (s.applyRule r, (s.rule r).action)
    | none => (s, s.directionDefault p)

/-! ## Intake (R126) -/

/-- Intake on port H. -/
def State.intakeH (s : State) (t : Telegram) : State :=
  if t.kind = kindRoomReport then s.readRoomReport t
  else if t.kind = kindZoneOrder then s.readZoneOrder t
  else if t.kind = kindSupplyReport then s.readSupplyReport t
  else s

/-- Intake on port M. -/
def State.intakeM (s : State) (t : Telegram) : State :=
  if t.kind = kindProbeReport then s.readProbeReport t else s

/-- A telegram to be read is handed to intake unless it is malformed (R110). -/
def State.intake (s : State) (p : PortId) (t : Telegram) : State :=
  if telegramMalformed t then s
  else match p with
    | .h => s.intakeH t
    | .m => s.intakeM t

/-- The decisions carried out: the forward to the opposite port, then the read (R110). -/
def State.carryDecisions (s : State) (p : PortId) (t : Telegram) (a : FilterAction) : State :=
  let s := if a.forwards then s.placeForward (opposite p) t else s
  if a.reads then s.intake p t else s

/-- A good telegram not addressed to the part passes the filter (R110). -/
def State.passFilter (s : State) (p : PortId) (t : Telegram) : State :=
  let decided := s.filter p t
  decided.1.carryDecisions p t decided.2

/-- A good telegram (R107). -/
def State.takeGood (s : State) (p : PortId) (t : Telegram) : State :=
  let s := s.updCounters p (·.goodTelegram (telegramMalformed t))
  if t.dst.toNat = s.address then s.consume p t else s.passFilter p t

/-- A received telegram (R106). -/
def State.receive (s : State) (p : PortId) (t : Telegram) : State :=
  if telegramDamaged t then s.takeDamaged p else s.takeGood p t

/-- TELEGRAM_RECEIVED (R106 to R110). -/
def execTelegramReceived (p : PortId) (t : Telegram) (s : State) : Result :=
  .next (s.beginAll.receive p t)

end Sys2Proof.Machine
end

