-- ==== Sys2Proof/Machine/Transmission.lean ====
section
/-! DEFINITION. The commands of the transmitters: beginnings and completions (07, R112 to R114; 06, R97,
R98; 10, R143; 11, R152), with the restart at the completion of a RESTART answer (10, R147). -/

namespace Sys2Proof.Machine

open Sys2Proof

/-- A transmitter is free again. -/
def State.freeTx (s : State) (p : PortId) : State := s.setPort p { s.port p with tx := none }

/-! ## Beginnings -/

/-- TRANSMISSION_BEGIN (R112): an answer or a forwarded telegram. -/
def execTransmissionBegin (p : PortId) (s : State) : Result := .next (s.beginTransmission p)

/-- HEAD_ORDER_TRANSMISSION_BEGIN (R97). -/
def execHeadOrderTransmissionBegin (s : State) : Result := .next s.beginHeadOrder

/-- NOTICE_TRANSMISSION_BEGIN (R152). -/
def execNoticeTransmissionBegin (s : State) : Result := .next s.beginNotice

/-! ## The restart (R147) -/

/-- A loop record at a restart (R6, R20, R104): static fields, level, group, S, the measured cooling and
the probe-held flag are kept. -/
def Loop.restarted (l : Loop) : Loop :=
  { l.clearStatus with
    state := if l.enabled then .standby else .disabled
    lastBoundary := none }

/-- A probe entry at a restart (R55): its accumulator and its rejected count are cleared. -/
def Probe.restarted (p : Probe) : Probe := { p with accSum := 0, accCount := 0, rejected := 0 }

/-- What a port M transmission under way at a restart becomes: it is sent whole, and its completion
changes nothing but the transmitter (R104, R117). -/
def Transmission.orphaned : Transmission → Transmission
  | .forward t _ => .forward t true
  | .headOrder i a t _ => .headOrder i a t true
  | .answer t => .answer t
  | .notice t => .notice t

/-- The restart, as one event across the part (R147). Port H's transmitter is free (R117). -/
def State.restart (s : State) : State :=
  { s with
    mode := .passive
    lock := false
    t0 := none
    loops := Vector.ofFn fun i => (s.loop i).restarted
    probes := Vector.ofFn fun e => (s.probe e).restarted
    alloc := {}
    orders := []
    waits := []
    portH := {}
    portM := { tx := s.portM.tx.map Transmission.orphaned }
    rules := Vector.ofFn fun r => { s.rule r with hits := 0 }
    pattern := {}
    answer := none
    notices := {} }

/-! ## Completions -/

/-- The answer in the buffer is the DONE of a RESTART request (R113). -/
def Answer.isRestart (a : Answer) : Bool := a.code == codeRestart && a.outcome == .done

/-- Completion of a SETUP ANSWER: the buffer is empty, and the restart is taken after the DONE of a
RESTART (R113, R143, R147). -/
def State.completeAnswer (s : State) : State :=
  let done := { s.freeTx .h with answer := none }
  match s.answer with
  | some a => if a.isRestart then done.restart else done
  | none => done

/-- ANSWER_TRANSMISSION_COMPLETE (R113). -/
def execAnswerTransmissionComplete (s : State) : Result :=
  let s := s.beginAll
  match s.portH.tx with
  | some (.answer _) => .next s.completeAnswer
  | some (.forward _ _) | some (.notice _) | some (.headOrder _ _ _ _) | none => .next s

/-- FORWARD_TRANSMISSION_COMPLETE (R113, R114): the forwarded count goes up, but for a transmission
that a restart left behind (R117). -/
def execForwardTransmissionComplete (p : PortId) (s : State) : Result :=
  let s := s.beginAll
  match (s.port p).tx with
  | some (.forward _ orphan) =>
    if orphan then .next (s.freeTx p)
    else .next ((s.freeTx p).updCounters p fun c => { c with forwarded := wrapInc c.forwarded })
  | some (.answer _) | some (.notice _) | some (.headOrder _ _ _ _) | none => .next s

/-- The queue at the completion of a NOTICE: the entry in transmission leaves where nothing merged into
it, else it stays, and the spacing interval starts (R152). -/
def Notices.complete (q : Notices) (now : Nat) : Notices :=
  { q with
    entries := (q.entries.filter fun e => !e.inTransmission || e.count != 0).map
      fun e => { e with inTransmission := false }
    spacingDue := some (now + Config.noticeSpacing) }

/-- NOTICE_TRANSMISSION_COMPLETE (R152). -/
def execNoticeTransmissionComplete (s : State) : Result :=
  let s := s.beginAll
  match s.portH.tx with
  | some (.notice _) => .next { s.freeTx .h with notices := s.notices.complete s.now }
  | some (.answer _) | some (.forward _ _) | some (.headOrder _ _ _ _) | none => .next s

/-- The head and the slot at the completion of a head order: SENT, the echo timeout running, and the
slot of a RELEASE granted on (R97, R98). -/
def State.orderSent (s : State) (i : Fin 16) (a : Action) : State :=
  let sent := (s.setHead i a.sent).updLoop i fun l =>
    { l with echoDue := some (s.now + Config.echoTimeout) }
  match a with
  | .energise => sent
  | .release => sent.grantSlot

/-- Completion of a head order, and the completion checks (R97, R103, R137). One that a restart left
behind changes no loop (R104). -/
def State.completeHeadOrder (s : State) (i : Fin 16) (a : Action) (orphan : Bool) : State :=
  let freed := s.freeTx .m
  (if orphan then freed else freed.orderSent i a).checkHalting.checkWindDown

/-- HEAD_ORDER_TRANSMISSION_COMPLETE (R97). -/
def execHeadOrderTransmissionComplete (s : State) : Result :=
  let s := s.beginAll
  match s.portM.tx with
  | some (.headOrder i a _ orphan) => .next (s.completeHeadOrder i a orphan)
  | some (.answer _) | some (.forward _ _) | some (.notice _) | none => .next s

end Sys2Proof.Machine
end

