-- ==== Sys2Proof/Machine/Clock.lean ====
section
/-! DEFINITION. Expiries of the intervals that belong to no drive timer and no pattern, power-on (10,
R148), and the passing of a second, in which every age and open-time count goes on (assumptions 1 and
2). -/

namespace Sys2Proof.Machine

open Sys2Proof

/-! ## Power-on (R148) -/

/-- POWER_ON (R148): every table, record, queue and flag at its power-on value, and the straps read. The
queue of commands is no part of the block and stays (assumption 24). -/
def execPowerOn (straps : BitVec 3) (s : State) : Result :=
  .next { State.reset with strap := straps, pending := s.pending }

/-! ## Expiries -/

/-- ROOM_STALE_EXPIRY (R32). -/
def execRoomStaleExpiry (r : Fin 12) (s : State) : Result :=
  let s := s.beginAll
  if s.roomStaleDue r then .next (s.roomStale r) else .next s

/-- PROBE_STALE_EXPIRY (R44). -/
def execProbeStaleExpiry (e : Fin 32) (s : State) : Result :=
  let s := s.beginAll
  if s.probeStaleDue e then .next (s.probeStale e) else .next s

/-- PROBE_FAULT_EXPIRY (R44). -/
def execProbeFaultExpiry (e : Fin 32) (s : State) : Result :=
  let s := s.beginAll
  if s.probeFaultDue e then .next (s.probeFault e) else .next s

/-- REPORT_TEMPERATURE_EXPIRY (R51): the report temperature is not young any more. -/
def execReportTemperatureExpiry (s : State) : Result :=
  let s := s.beginAll
  if s.reportTempDue then .next { s with supply := { s.supply with young := false } } else .next s

/-- SUPPLY_STALE_EXPIRY (R74). -/
def execSupplyStaleExpiry (s : State) : Result :=
  let s := s.beginAll
  if s.supplyStaleDue then .next s.supplyStale else .next s

/-- SPACING_INTERVAL_EXPIRY (R152): the next offer may be made. -/
def execSpacingIntervalExpiry (s : State) : Result :=
  let s := s.beginAll
  if s.spacingDue then .next { s with notices := { s.notices with spacingDue := none } } else .next s

/-! ## A second passes -/

/-- The open-time count over one second: it counts in the present cycle while the head is in its
open-state, and stops at 3600 (R91, R93). The head state alone decides, also for a loop that a late RELEASE
echo has found in the wait list (assumption 31). -/
def Loop.countOpen (l : Loop) (openState : HeadState) : Loop :=
  if l.inCycle && l.head == openState then
    { l with openCount := min Config.openMax (l.openCount + 1) }
  else l

/-- One second passes. -/
def State.tick (s : State) : State :=
  { s.mapLoops fun i l => l.countOpen (s.openState i) with now := s.now + 1 }

/-- The block without a command: a transmission that is due begins; else time stands while an event of
the part's own is due; else a second passes (assumptions 2 and 6). -/
def State.idle (s : State) : State :=
  if s.beginDue then s.beginAll else if s.eventDue then s else s.tick

end Sys2Proof.Machine
end

