-- ==== Sys2Proof/Machine/Dispatch.lean ====
section
/-! DEFINITION. The effect of every command: one arm for each constructor of Instr. -/

namespace Sys2Proof.Machine

open Sys2Proof

def exec (i : Instr) (s : State) : Host.Outcome State Fault Refusal :=
  match i with
  | .powerOn straps => Sys2Proof.Machine.execPowerOn straps s
  | .telegramReceived port t => Sys2Proof.Machine.execTelegramReceived port t s
  | .readField src table index field => Sys2Proof.Machine.execReadField src table index field s
  | .writeField src table index field value => Sys2Proof.Machine.execWriteField src table index field value s
  | .loopStaticFieldWrite src loop field value => Sys2Proof.Machine.execLoopStaticFieldWrite src loop field value s
  | .loopRoomWrite src loop value => Sys2Proof.Machine.execLoopRoomWrite src loop value s
  | .shareWrite src loop field value => Sys2Proof.Machine.execShareWrite src loop field value s
  | .levelWrite src loop field value => Sys2Proof.Machine.execLevelWrite src loop field value s
  | .floorClassWrite src cls field value => Sys2Proof.Machine.execFloorClassWrite src cls field value s
  | .profileWrite src profile field value => Sys2Proof.Machine.execProfileWrite src profile field value s
  | .roomFieldWrite src room field value => Sys2Proof.Machine.execRoomFieldWrite src room field value s
  | .unitAddressWrite src room value => Sys2Proof.Machine.execUnitAddressWrite src room value s
  | .probeFieldWrite src entry field value => Sys2Proof.Machine.execProbeFieldWrite src entry field value s
  | .probeValidWrite src entry value => Sys2Proof.Machine.execProbeValidWrite src entry value s
  | .probeStaleTimeWrite src value => Sys2Proof.Machine.execProbeStaleTimeWrite src value s
  | .faultStaleTimeWrite src value => Sys2Proof.Machine.execFaultStaleTimeWrite src value s
  | .roomStaleTimeWrite src value => Sys2Proof.Machine.execRoomStaleTimeWrite src value s
  | .fdefWrite src value => Sys2Proof.Machine.execFdefWrite src value s
  | .supplyStaleTimeWrite src value => Sys2Proof.Machine.execSupplyStaleTimeWrite src value s
  | .supplySourceAddressWrite src value => Sys2Proof.Machine.execSupplySourceAddressWrite src value s
  | .manualShedLevelWrite src value => Sys2Proof.Machine.execManualShedLevelWrite src value s
  | .cycleLengthWrite src value => Sys2Proof.Machine.execCycleLengthWrite src value s
  | .overflowPolicyWrite src port value => Sys2Proof.Machine.execOverflowPolicyWrite src port value s
  | .directionDefaultWrite src port value => Sys2Proof.Machine.execDirectionDefaultWrite src port value s
  | .noticeAddressWrite src value => Sys2Proof.Machine.execNoticeAddressWrite src value s
  | .counterWrite src index field value => Sys2Proof.Machine.execCounterWrite src index field value s
  | .ruleFieldWrite src rule field value => Sys2Proof.Machine.execRuleFieldWrite src rule field value s
  | .hitsWrite src rule value => Sys2Proof.Machine.execHitsWrite src rule value s
  | .enableLoop src loop => Sys2Proof.Machine.execEnableLoop src loop s
  | .disableLoop src loop => Sys2Proof.Machine.execDisableLoop src loop s
  | .setMode src requested => Sys2Proof.Machine.execSetMode src requested s
  | .startPattern src request => Sys2Proof.Machine.execStartPattern src request s
  | .stopPattern src => Sys2Proof.Machine.execStopPattern src s
  | .setLock src value => Sys2Proof.Machine.execSetLock src value s
  | .takeNotice src => Sys2Proof.Machine.execTakeNotice src s
  | .readStatus src => Sys2Proof.Machine.execReadStatus src s
  | .restartRequest src => Sys2Proof.Machine.execRestartRequest src s
  | .transmissionBegin port => Sys2Proof.Machine.execTransmissionBegin port s
  | .headOrderTransmissionBegin => Sys2Proof.Machine.execHeadOrderTransmissionBegin s
  | .noticeTransmissionBegin => Sys2Proof.Machine.execNoticeTransmissionBegin s
  | .answerTransmissionComplete => Sys2Proof.Machine.execAnswerTransmissionComplete s
  | .forwardTransmissionComplete port => Sys2Proof.Machine.execForwardTransmissionComplete port s
  | .noticeTransmissionComplete => Sys2Proof.Machine.execNoticeTransmissionComplete s
  | .headOrderTransmissionComplete => Sys2Proof.Machine.execHeadOrderTransmissionComplete s
  | .echoTimeout loop => Sys2Proof.Machine.execEchoTimeout loop s
  | .loopBoundary loop => Sys2Proof.Machine.execLoopBoundary loop s
  | .onTimeExpiry loop => Sys2Proof.Machine.execOnTimeExpiry loop s
  | .settleIntervalExpiry loop => Sys2Proof.Machine.execSettleIntervalExpiry loop s
  | .roomStaleExpiry room => Sys2Proof.Machine.execRoomStaleExpiry room s
  | .probeStaleExpiry entry => Sys2Proof.Machine.execProbeStaleExpiry entry s
  | .probeFaultExpiry entry => Sys2Proof.Machine.execProbeFaultExpiry entry s
  | .reportTemperatureExpiry => Sys2Proof.Machine.execReportTemperatureExpiry s
  | .supplyStaleExpiry => Sys2Proof.Machine.execSupplyStaleExpiry s
  | .spacingIntervalExpiry => Sys2Proof.Machine.execSpacingIntervalExpiry s
  | .identifyHalfExpiry => Sys2Proof.Machine.execIdentifyHalfExpiry s
  | .clearingExpiry => Sys2Proof.Machine.execClearingExpiry s
  | .dwellExpiry => Sys2Proof.Machine.execDwellExpiry s
  | .closeWaitExpiry => Sys2Proof.Machine.execCloseWaitExpiry s

end Sys2Proof.Machine
end

