-- ==== Sys2Proof/Machine/Step.lean ====
section
/-! DEFINITION. One step of the block: the command at the front of the queue is executed on the part with
the queue's rest; with no command waiting, the block idles. -/

namespace Sys2Proof.Machine

open Sys2Proof

/-- One step (95_what_each_step_holds.md): a command whole and indivisible, or the block idle
(assumption 2). -/
def step (s : State) : Host.Outcome State Fault Refusal :=
  match s.pending with
  | [] => .next s.idle
  | c :: rest => exec c { s with pending := rest }

/-- The command of a table word put at the front of the queue. No row of the table gives bits, so no
word spells a command and the part is as before. -/
def State.withFetchWord (s : State) (nbits w : Nat) : State :=
  match decodeTableWord nbits w with
  | some c => { s with pending := c :: s.pending }
  | none => s

end Sys2Proof.Machine
end

