-- ==== Sys2Proof/Safety.lean ====
section
/-! DEFINITION. The conditions that statements about the part use: which commands are setup requests, the
ranges every stored value stays in, the relations between tables, the laws of the allocator and of the
head arbiter. -/

namespace Sys2Proof

open Sys2Proof.Machine

/-! ## Setup requests among the commands -/

/-- The source address and the request code of a command that is a setup request; none for an event of
the part or a telegram. -/
def Instr.request : Instr → Option (Byte × Byte)
  | .readField src _ _ _ => some (src, 0x01)
  | .writeField src _ _ _ _ => some (src, 0x02)
  | .loopStaticFieldWrite src _ _ _ => some (src, 0x02)
  | .loopRoomWrite src _ _ => some (src, 0x02)
  | .shareWrite src _ _ _ => some (src, 0x02)
  | .levelWrite src _ _ _ => some (src, 0x02)
  | .floorClassWrite src _ _ _ => some (src, 0x02)
  | .profileWrite src _ _ _ => some (src, 0x02)
  | .roomFieldWrite src _ _ _ => some (src, 0x02)
  | .unitAddressWrite src _ _ => some (src, 0x02)
  | .probeFieldWrite src _ _ _ => some (src, 0x02)
  | .probeValidWrite src _ _ => some (src, 0x02)
  | .probeStaleTimeWrite src _ => some (src, 0x02)
  | .faultStaleTimeWrite src _ => some (src, 0x02)
  | .roomStaleTimeWrite src _ => some (src, 0x02)
  | .fdefWrite src _ => some (src, 0x02)
  | .supplyStaleTimeWrite src _ => some (src, 0x02)
  | .supplySourceAddressWrite src _ => some (src, 0x02)
  | .manualShedLevelWrite src _ => some (src, 0x02)
  | .cycleLengthWrite src _ => some (src, 0x02)
  | .overflowPolicyWrite src _ _ => some (src, 0x02)
  | .directionDefaultWrite src _ _ => some (src, 0x02)
  | .noticeAddressWrite src _ => some (src, 0x02)
  | .counterWrite src _ _ _ => some (src, 0x02)
  | .ruleFieldWrite src _ _ _ => some (src, 0x02)
  | .hitsWrite src _ _ => some (src, 0x02)
  | .enableLoop src _ => some (src, 0x03)
  | .disableLoop src _ => some (src, 0x04)
  | .setMode src _ => some (src, 0x05)
  | .startPattern src _ => some (src, 0x06)
  | .stopPattern src => some (src, 0x07)
  | .setLock src _ => some (src, 0x08)
  | .takeNotice src => some (src, 0x09)
  | .readStatus src => some (src, 0x0A)
  | .restartRequest src => some (src, 0x0B)
  | .powerOn _ | .telegramReceived _ _ | .transmissionBegin _ | .headOrderTransmissionBegin
  | .noticeTransmissionBegin | .answerTransmissionComplete | .forwardTransmissionComplete _
  | .noticeTransmissionComplete | .headOrderTransmissionComplete | .echoTimeout _
  | .loopBoundary _ | .onTimeExpiry _ | .settleIntervalExpiry _ | .roomStaleExpiry _
  | .probeStaleExpiry _ | .probeFaultExpiry _ | .reportTemperatureExpiry | .supplyStaleExpiry
  | .spacingIntervalExpiry | .identifyHalfExpiry | .clearingExpiry | .dwellExpiry
  | .closeWaitExpiry => none

/-- The request codes that the inspection lock leaves open (R144): READ FIELD, SET LOCK, TAKE NOTICE,
READ STATUS, RESTART. -/
def openUnderLock (code : Byte) : Bool :=
  code == 0x01 || code == 0x08 || code == 0x09 || code == 0x0A || code == 0x0B

/-- The command of a setup request from a source. -/
def SetupRequest.command (src : Byte) : SetupRequest → Instr
  | .readField table index field => .readField src table index field
  | .writeField table index field value => .writeField src table index field value
  | .enableLoop loop => .enableLoop src loop
  | .disableLoop loop => .disableLoop src loop
  | .setMode requested => .setMode src requested
  | .startPattern request => .startPattern src request
  | .stopPattern => .stopPattern src
  | .setLock value => .setLock src value
  | .takeNotice => .takeNotice src
  | .readStatus => .readStatus src
  | .restart => .restartRequest src

/-- The table, index, field number and value of a write command, by the numbers of R158 and R159. -/
def Instr.writeNumbers : Instr → Option (Byte × Nat × Nat × Nat × Int)
  | .loopStaticFieldWrite src i f v =>
    some (src, 2, i, (match f with
      | .driverAddress => 2
      | .headChannel => 3
      | .profile => 4
      | .floorClass => 5
      | .weight => 6
      | .phase => 7
      | .fallbackDuty => 10), v)
  | .loopRoomWrite src i v => some (src, 2, i, 1, v)
  | .shareWrite src i f v =>
    some (src, 2, i, (match f with
      | .smin => 8
      | .smax => 9
      | .share => 13), v)
  | .levelWrite src i f v =>
    some (src, 2, i, (match f with
      | .level => 11
      | .group => 12), v)
  | .floorClassWrite src c f v =>
    some (src, 6, c, (match f with
      | .target => 1
      | .gain => 2
      | .limit => 3), v)
  | .profileWrite src p f v =>
    some (src, 7, p, (match f with
      | .polarity => 1
      | .opening => 2
      | .closing => 3), v)
  | .roomFieldWrite src r f v =>
    some (src, 3, r, (match f with
      | .demandSource => 2
      | .band => 3
      | .setback => 4
      | .setpointMin => 5
      | .setpointMax => 6
      | .fallbackDemand => 7), v)
  | .unitAddressWrite src r v => some (src, 3, r, 1, v)
  | .probeFieldWrite src e f v =>
    some (src, 4, e, (match f with
      | .moduleAddress => 2
      | .channel => 3
      | .role => 4
      | .loop => 5
      | .trim => 6
      | .depth => 7), v)
  | .probeValidWrite src e v => some (src, 4, e, 1, v)
  | .probeStaleTimeWrite src v => some (src, 1, 0, 5, v)
  | .faultStaleTimeWrite src v => some (src, 1, 0, 6, v)
  | .roomStaleTimeWrite src v => some (src, 1, 0, 7, v)
  | .fdefWrite src v => some (src, 1, 0, 3, v)
  | .supplyStaleTimeWrite src v => some (src, 1, 0, 8, v)
  | .supplySourceAddressWrite src v => some (src, 1, 0, 9, v)
  | .manualShedLevelWrite src v => some (src, 1, 0, 15, v)
  | .cycleLengthWrite src v => some (src, 1, 0, 1, v)
  | .overflowPolicyWrite src p v => some (src, 1, 0, 10 + portCode p, v)
  | .directionDefaultWrite src p v => some (src, 1, 0, 12 + portCode p, v)
  | .noticeAddressWrite src v => some (src, 1, 0, 14, v)
  | .counterWrite src i f v =>
    some (src, 9, i, (match f with
      | .forwarded => 1
      | .damaged => 2
      | .consecutiveDamaged => 3
      | .overflow => 4
      | .malformed => 5
      | .strayEcho => 6
      | .unmatched => 7
      | .rejected e => 20 + e), v)
  | .ruleFieldWrite src r f v =>
    some (src, 5, r, (match f with
      | .valid => 1
      | .direction => 2
      | .kind => 3
      | .source => 4
      | .destination => 5
      | .selector => 6
      | .action => 7
      | .count => 8), v)
  | .hitsWrite src r v => some (src, 5, r, 9, v)
  | _ => none

/-! ## Telegrams (R106, R107) -/

/-- Damaged: LEN above 12, or the sum of all bytes is not zero modulo 256 (R106). -/
def Telegram.Damaged (t : Telegram) : Prop :=
  12 < t.data.length ∨
    t.dst + t.src + t.kind + BitVec.ofNat 8 t.data.length + t.data.foldl (· + ·) 0 + t.check ≠ 0

/-- Malformed: of a listed kind, with LEN below its least length (R107, R157). -/
def Telegram.tooShort (t : Telegram) : Bool :=
  [(0x21, 5), (0x22, 5), (0x23, 2), (0x31, 2), (0x32, 2), (0x33, 3), (0x51, 1), (0x52, 2),
    (0x61, 6)].any fun (p : Byte × Nat) => t.kind == p.1 && decide (t.data.length < p.2)

end Sys2Proof

namespace Sys2Proof.Machine

open Sys2Proof

/-! ## Beginnings (R112 to R114) -/

/-- No transmission is due to begin: at a free port H no answer, no forwarded telegram and no offered
notice waits, and at a free port M no head order, but in PASSIVE mode, and no forwarded telegram. -/
def State.NothingToBegin (s : State) : Prop :=
  (s.portH.tx = none →
    (∀ a, s.answer = some a → a.begun = true) ∧ s.portH.queue = [] ∧
    (s.general.noticeAddress ≠ 0 → s.notices.spacingDue = none →
      ∀ e rest, s.notices.entries = e :: rest → e.inTransmission = true)) ∧
  (s.portM.tx = none → (s.mode = .passive ∨ s.orders = []) ∧ s.portM.queue = [])

/-! ## Answers (R143, R158) -/

/-- A request that the lock governs is taken as the part stands: the answer buffer is empty, the lock off,
and no transmission is due to begin before it. -/
def State.Takes (s : State) : Prop := s.answer = none ∧ s.lock = false ∧ s.NothingToBegin

/-- The command leaves the part as `t`, its answer in the buffer with an outcome and no content. -/
def Answers (c : Instr) (src code : Byte) (s t : State) (o : AnswerCode) : Prop :=
  exec c s = .next (t.putAnswer src code o [])

/-- The write of v leaves the part as `t`, holding w: it is answered DONE where w is v and CLAMPED where
it is not, with w as the value now held (R145). -/
def Stores (c : Instr) (src : Byte) (s t : State) (v w : Int) : Prop :=
  exec c s = .next (t.putAnswer src 0x02 (if w = v then .done else .clamped) (valueBytes w))

/-- READ FIELD of a field answers DONE with a value, and changes nothing (R145). -/
def Reads (src : Byte) (table index : Nat) (s : State) (field : Nat) (v : Int) : Prop :=
  exec (.readField src table index field) s = .next (s.putAnswer src 0x01 .done (valueBytes v))

/-- Loop i has a head order queued, in transmission or awaiting its echo (R2). -/
def State.OrderUnderWay (s : State) (i : Fin 16) : Prop :=
  (∃ o ∈ s.orders, o.loop = i) ∨ (∃ a t, s.portM.tx = some (.headOrder i a t false)) ∨
    (s.loop i).head = .energiseSent ∨ (s.loop i).head = .releaseSent

/-! ## Reception (R107, R110, R121 to R126) -/

/-- The part after a port has judged a telegram good: no run of damaged telegrams, and one more malformed
telegram where it is one (R106, R107). -/
def State.afterGood (s : State) (p : PortId) (t : Telegram) : State :=
  s.setPort p { s.port p with counters :=
    { (s.port p).counters with
      consecutiveDamaged := 0
      malformed := if t.tooShort = true then min 255 ((s.port p).counters.malformed + 1)
        else (s.port p).counters.malformed } }

/-- One more unmatched telegram at a port, up to 255 (R115). -/
def State.oneUnmatched (s : State) (p : PortId) : State :=
  s.setPort p { s.port p with counters :=
    { (s.port p).counters with unmatched := min 255 ((s.port p).counters.unmatched + 1) } }

/-- One more stray echo at a port, up to 255 (R115). -/
def State.oneStray (s : State) (p : PortId) : State :=
  s.setPort p { s.port p with counters :=
    { (s.port p).counters with strayEcho := min 255 ((s.port p).counters.strayEcho + 1) } }

/-- A rule matches a telegram received at a port (R121). -/
def Rule.Matches (r : Rule) (p : PortId) (t : Telegram) : Prop :=
  (r.direction = .both ∨ (r.direction = .hToM ∧ p = .h) ∨ (r.direction = .mToH ∧ p = .m)) ∧
  (r.kind = none ∨ r.kind = some t.kind.toNat) ∧
  (r.source = none ∨ r.source = some t.src.toNat) ∧
  (r.destination = none ∨ r.destination = some t.dst.toNat) ∧
  (r.selector = none ∨ ∃ b rest, t.data = b :: rest ∧ r.selector = some b.toNat)

/-- A rule takes part in evaluation and matches (R122). -/
def Rule.Applies (r : Rule) (p : PortId) (t : Telegram) : Prop :=
  r.valid = true ∧ r.count ≠ 0 ∧ r.Matches p t

/-- What intake does with a telegram given the read decision, by kind and port of arrival (R126). -/
def State.readBy (s : State) (p : PortId) (t : Telegram) : State :=
  if t.tooShort = true then s
  else if p = .h ∧ t.kind = 0x21 then s.readRoomReport t
  else if p = .h ∧ t.kind = 0x22 then s.readSupplyReport t
  else if p = .h ∧ t.kind = 0x23 then s.readZoneOrder t
  else if p = .m ∧ t.kind = 0x31 then s.readProbeReport t
  else s

/-- The forward, then the read, of an action (R110, R123): PASS does both, BLOCK reads, IGNORE forwards,
DROP does neither. -/
def State.decided (s : State) (p : PortId) (t : Telegram) (a : FilterAction) : State :=
  match a with
  | .pass => (s.placeForward (opposite p) t).readBy p t
  | .block => s.readBy p t
  | .ignore => s.placeForward (opposite p) t
  | .drop => s

/-- Loop i takes an echo of an action from a driver's channel (R99): its head is SENT or SILENT on that
action. -/
def State.TakesEcho (s : State) (src channel : Byte) (a : Action) (i : Fin 16) : Prop :=
  (s.loop i).driverAddress = src.toNat ∧ (s.loop i).headChannel = channel.toNat ∧
    match a with
    | .energise => (s.loop i).head = .energiseSent ∨ (s.loop i).head = .silentEnergise
    | .release => (s.loop i).head = .releaseSent ∨ (s.loop i).head = .silentRelease

/-! ## Ranges -/

/-- A match field is ANY or at most a limit. -/
def fieldUpTo (limit : Nat) (field : Option Nat) : Prop := ∀ n, field = some n → n ≤ limit

/-- The GENERAL record lies in its ranges (R146), with the relation of R45. -/
def General.InRange (g : General) : Prop :=
  600 ≤ g.cycleLength ∧ g.cycleLength ≤ 3600 ∧ 1 ≤ g.hmax ∧ g.hmax ≤ 16 ∧ g.fdef ≤ 2000 ∧
  g.defrostShedLevel ≤ 7 ∧ 60 ≤ g.probeStaleTime ∧ g.probeStaleTime ≤ 1800 ∧
  600 ≤ g.faultStaleTime ∧ g.faultStaleTime ≤ 7200 ∧ g.probeStaleTime ≤ g.faultStaleTime ∧
  300 ≤ g.roomStaleTime ∧ g.roomStaleTime ≤ 7200 ∧ 120 ≤ g.supplyStaleTime ∧
  g.supplyStaleTime ≤ 3600 ∧ g.supplySource ≤ 126 ∧ g.noticeAddress ≤ 127 ∧ g.manualShedLevel ≤ 7

/-- The static and dynamic fields of a loop lie in their ranges (R1, R3, R5). -/
def Loop.InRange (l : Loop) : Prop :=
  l.driverAddress ≤ 126 ∧ l.headChannel ≤ 7 ∧ 1 ≤ l.weight ∧ l.weight ≤ 50 ∧ l.phase ≤ 3599 ∧
  64 ≤ l.smin ∧ l.smin ≤ l.share ∧ l.share ≤ l.smax ∧ l.smax ≤ 4096 ∧ l.fallbackDuty ≤ 4096 ∧
  l.level ≤ 7 ∧ l.group ≤ 3

/-- A floor class lies in its ranges (R7). -/
def FloorClass.InRange (k : FloorClass) : Prop :=
  192 ≤ k.target ∧ k.target ≤ 640 ∧ k.gain ≤ 255 ∧ 16 ≤ k.limit ∧ k.limit ≤ 1024

/-- A profile lies in its ranges, its opening time at most half the cycle length (R8, R9). -/
def Profile.InRange (k : Profile) (cycle : Nat) : Prop :=
  30 ≤ k.opening ∧ k.opening ≤ 600 ∧ 2 * k.opening ≤ cycle ∧ 30 ≤ k.closing ∧ k.closing ≤ 600

/-- A room lies in its ranges, its demand among them (R21, R24). -/
def Room.InRange (k : Room) : Prop :=
  k.unitAddress ≤ 126 ∧ 32 ≤ k.band ∧ k.band ≤ 256 ∧ k.setback ≤ 640 ∧
  k.setpointMin ≤ k.setpointMax ∧ k.setpointMax ≤ 3200 ∧ k.fallbackDemand ≤ 1024 ∧
  k.demand ≤ 1024

/-- A probe entry's configuration lies in its ranges (R37). -/
def Probe.InRange (p : Probe) : Prop :=
  p.moduleAddress ≤ 126 ∧ p.channel ≤ 3 ∧ -128 ≤ p.trim ∧ p.trim ≤ 127 ∧
  (p.depth = 1 ∨ p.depth = 2 ∨ p.depth = 4 ∨ p.depth = 8)

/-- A rule lies in its ranges (R118). -/
def Rule.InRange (r : Rule) : Prop :=
  fieldUpTo 255 r.kind ∧ fieldUpTo 127 r.source ∧ fieldUpTo 127 r.destination ∧
  fieldUpTo 255 r.selector ∧ r.count ≤ 255 ∧ r.hits ≤ 65535

/-- Every configuration value of the part lies in its range. -/
def State.ConfigInRange (s : State) : Prop :=
  s.general.InRange ∧ (∀ i, (s.loop i).InRange) ∧ (∀ c, (s.floorClass c).InRange) ∧
  (∀ p, (s.profile p).InRange s.general.cycleLength) ∧ (∀ r, (s.room r).InRange) ∧
  (∀ e, (s.probe e).InRange) ∧ (∀ r, (s.rule r).InRange) ∧ s.supply.allowance ≤ 2000

/-- The probe entries' accumulators and published values, and the report temperature, lie in their
ranges (R40, R51, R53). -/
def State.TemperaturesInRange (s : State) : Prop :=
  (∀ e, (s.probe e).accCount < (s.probe e).depth ∧
    (s.probe e).accSum ≤ 5760 * (s.probe e).accCount ∧
    ∀ v, (s.probe e).published = some v → v ≤ 5760) ∧
  ∀ v, s.supply.reportTemp = some v → v ≤ 5760

/-! ## Queues (R111, R151) -/

/-- No two notice entries have the same kind and subject. -/
def Notices.Distinct (q : Notices) : Prop :=
  q.entries.Pairwise fun a b => ¬(a.kind = b.kind ∧ a.subject = b.subject)

/-- The pass queues and the notice queue keep their bounds. -/
def State.QueuesBounded (s : State) : Prop :=
  s.portH.queue.length ≤ 8 ∧ s.portM.queue.length ≤ 8 ∧ s.notices.entries.length ≤ 16 ∧
  s.notices.Distinct

/-! ## Relations between tables (R4, R10, R23, R39) -/

/-- No two enabled loops share a driver address and head channel (R10). -/
def State.HeadsUnshared (s : State) : Prop :=
  ∀ i j, i ≠ j → (s.loop i).enabled = true → (s.loop j).enabled = true →
    ¬((s.loop i).driverAddress = (s.loop j).driverAddress ∧
      (s.loop i).headChannel = (s.loop j).headChannel)

/-- No room has more than three loops (R4). -/
def State.RoomsNotCrowded (s : State) : Prop := ∀ r, (s.loopList r).length ≤ 3

/-- Nonzero unit addresses are unique (R23). -/
def State.UnitsUnique (s : State) : Prop :=
  ∀ q r, q ≠ r → (s.room q).unitAddress ≠ 0 → (s.room q).unitAddress ≠ (s.room r).unitAddress

/-- The valid entries of the probe map: no two on one module channel, none on module 0, at most two
RETURN entries for a loop and two SUPPLY entries (R39). -/
def State.MapSound (s : State) : Prop :=
  (∀ d e, d ≠ e → (s.probe d).valid = true → (s.probe e).valid = true →
    ¬((s.probe d).moduleAddress = (s.probe e).moduleAddress ∧
      (s.probe d).channel = (s.probe e).channel)) ∧
  (∀ e, (s.probe e).valid = true → (s.probe e).moduleAddress ≠ 0) ∧
  (∀ i, probeIds.countP (fun e => (s.probe e).returnOf i) ≤ 2) ∧
  probeIds.countP (fun e => (s.probe e).isSupply) ≤ 2

/-- Every relation between tables holds. -/
def State.TablesRelated (s : State) : Prop :=
  s.HeadsUnshared ∧ s.RoomsNotCrowded ∧ s.UnitsUnique ∧ s.MapSound

/-! ## The allocator (R82 to R84) -/

/-- For every loop 0 ≤ G ≤ R ≤ 4096, and G is 0 unless the loop is RUNNING (R82). -/
def State.GrantsBounded (s : State) : Prop :=
  ∀ i, (s.loop i).grant ≤ (s.loop i).request ∧ (s.loop i).request ≤ 4096 ∧
    ((s.loop i).state ≠ .running → (s.loop i).grant = 0)

/-- The sum of G × W over RUNNING loops is at most Bavail of the latest allocation (R83). -/
def State.FlowWithinBudget (s : State) : Prop := s.committed ≤ s.alloc.bavail

/-- A loop out of the drive has no duty and no request: DISABLED, STANDBY and TESTING loops (R12, R13,
R17, R69). -/
def State.IdleLoopsWithoutDuty (s : State) : Prop :=
  ∀ i, (s.loop i).engaged = false →
    (s.loop i).activeDuty = 0 ∧ (s.loop i).bufferedDuty = 0 ∧ (s.loop i).request = 0

/-- In ACTIVE and HALTING modes every loop in the shed range has active and buffered duty 0 (R84). -/
def State.ShedLoopsWithoutDuty (s : State) : Prop :=
  (s.mode = .active ∨ s.mode = .halting) →
    ∀ i, s.inShedRange i = true → (s.loop i).activeDuty = 0 ∧ (s.loop i).bufferedDuty = 0

/-! ## The modes (R76, R139) -/

/-- In PASSIVE and TEST modes no loop is RUNNING, SHED or FAULT; an open phase runs only at such a loop;
only in TEST mode, and not in its wind-down, are loops TESTING or is a stage of a pattern under way; no
loop is STANDBY in ACTIVE mode; the cycle clock runs in ACTIVE and HALTING modes only. -/
def State.ModesConsistent (s : State) : Prop :=
  ((s.mode = .passive ∨ s.mode = .test) → ∀ i, (s.loop i).engaged = false) ∧
  (∀ i, (s.loop i).openPhase = true → (s.loop i).engaged = true) ∧
  (s.mode ≠ .test → s.pattern.stage = .idle) ∧
  ((s.mode ≠ .test ∨ s.pattern.stage = .windingDown) → ∀ i, (s.loop i).state ≠ .testing) ∧
  (s.mode = .active → ∀ i, (s.loop i).state ≠ .standby) ∧
  (s.t0.isSome = true ↔ s.mode = .active ∨ s.mode = .halting)

/-! ## The head arbiter (R97, R98, R142) -/

/-- A loop that is out of the drive stays on its way to unpowered: no ENERGISE is wanted of its head, and
an ENERGISE under way has a RELEASE wanted behind it. -/
def Loop.WindsDown (l : Loop) : Prop :=
  l.wanted ≠ some .energise ∧ l.head ≠ .energised ∧ l.head ≠ .silentEnergise ∧
  l.head ≠ .energiseWait ∧
  ((l.head = .energisePending ∨ l.head = .energiseSent) → l.wanted = some .release)

/-- The head-order list agrees with the heads: at most one order a loop, each order of a head that is
pending on it, and each pending head's order listed or in transmission (R97). -/
def State.OrdersAgree (s : State) : Prop :=
  (s.orders.map (·.loop)).Nodup ∧
  (∀ o ∈ s.orders, (s.loop o.loop).head = o.action.queued) ∧
  (∀ i a t, s.portM.tx = some (.headOrder i a t false) →
    (s.loop i).head = a.queued ∧ s.orderQueued i = false) ∧
  (∀ i, (s.loop i).head = .energisePending ∨ (s.loop i).head = .releasePending →
    s.orderQueued i = true ∨ s.orderInTransmission i = true)

/-- The wait list agrees with the heads: each loop waits at most once, to energise in ENERGISE-WAIT, to
release in a state that holds no slot; each head in ENERGISE-WAIT is listed (R98). -/
def State.WaitsAgree (s : State) : Prop :=
  (s.waits.map (·.loop)).Nodup ∧
  (∀ w ∈ s.waits, w.action = .energise → (s.loop w.loop).head = .energiseWait) ∧
  (∀ w ∈ s.waits, w.action = .release →
    (s.loop w.loop).head = .idleUnknown ∨ (s.loop w.loop).head = .silentRelease ∨
      (s.loop w.loop).head = .released) ∧
  (∀ i, (s.loop i).head = .energiseWait → s.waiting i = true)

/-- In PASSIVE mode nothing is left to send and no head holds a slot (R142, R146). -/
def State.PassiveQuiet (s : State) : Prop :=
  s.mode = .passive →
    s.orders = [] ∧ s.waits = [] ∧ s.holders = 0 ∧
    ∀ i, (s.loop i).wanted ≠ some .energise ∧ (s.loop i).head ≠ .energiseWait

/-- Outside PASSIVE mode every loop out of the drive winds down: one that no boundary and no pattern
drives. -/
def State.OthersWindDown (s : State) : Prop :=
  ((s.mode = .active ∨ s.mode = .halting) →
    ∀ i, (s.loop i).engaged = false → (s.loop i).WindsDown) ∧
  (s.mode = .test →
    ∀ i, (s.loop i).state ≠ .testing → (s.loop i).WindsDown)

/-- In TEST mode a stage other than IDLE and WINDING DOWN that has a subject drives a TESTING loop. -/
def State.SubjectTesting (s : State) : Prop :=
  s.mode = .test → s.pattern.stage ≠ .idle → s.pattern.stage ≠ .windingDown →
    ∀ k, s.pattern.subject = some k → (s.loop k).state = .testing

/-- Everything the law of the slots rests on, with the law itself: the number of loops whose head holds a
slot is at most Hmax (R98). -/
def State.ArbiterSound (s : State) : Prop :=
  s.holders ≤ s.general.hmax ∧ 1 ≤ s.general.hmax ∧ s.ModesConsistent ∧ s.OrdersAgree ∧
  s.WaitsAgree ∧ s.PassiveQuiet ∧ s.OthersWindDown ∧ s.SubjectTesting

end Sys2Proof.Machine
end

