-- ==== Sys2Proof/Certificates/Slice0/Obligations.lean ====
section
/-! DEFINITION. The statements for the provers, in the order of OBLIGATIONS.json. Most of them give, for
one command and conditions on the state and the operands alone, the whole state after it, so that they
say at once that the command completes, what it changes and what it leaves. `Stores`, `Answers` and the
invariants stand in Safety.lean. A statement with several parts is the conjunction of them, each a
definition `Parts.…` beside it. Numbers are written as the spec writes them. -/

open Sys2Proof Sys2Proof.Machine

/-! ## The block as a machine -/

/-- The front command is executed on the part with the queue's rest. -/
def Obligations.StepRunsFrontCommand : Prop :=
  ∀ (c : Instr) (rest : List Instr) (s : State),
    step { s with pending := c :: rest } = exec c { s with pending := rest }

/-- With no command waiting, the transmissions that are due begin; where none is due the step stands still
while an event of the part's own is due; otherwise a second passes, and each loop in a cycle whose head is
in its open-state has one more second of confirmed open time, up to 3600 (R91, R93), in the wait list too
(assumption 31). The idle step is the model's choice (assumptions 1, 2 and 6). -/
def Obligations.StepIdlesOneSecond : Prop :=
  ∀ s : State, s.pending = [] →
    (¬s.NothingToBegin → step s = .next s.beginAll) ∧
    (s.NothingToBegin → s.eventDue = true → step s = .next s) ∧
    (s.NothingToBegin → s.eventDue = false → step s = .next { s with
      now := s.now + 1
      loops := Vector.ofFn fun i =>
        if (s.loop i).inCycle = true ∧ (s.loop i).head = s.openState i then
          { s.loop i with openCount := min 3600 ((s.loop i).openCount + 1) }
        else s.loop i })

/-- Every command has a next state: no rule of the spec stops the part. -/
def Parts.EveryCommandHasNextState : Prop :=
  ∀ (c : Instr) (s : State), ∃ t, exec c s = .next t

/-- No command touches the queue of commands; none but POWER_ON moves the clock or reads the straps. -/
def Parts.QueueAndClockUntouched : Prop :=
  ∀ (c : Instr) (s t : State), exec c s = .next t →
    t.pending = s.pending ∧ ((∀ b, c ≠ .powerOn b) → t.now = s.now ∧ t.strap = s.strap)

/-- Every command has a next state, and touches neither the queue of commands nor, but for POWER_ON, the
clock and the straps. The queue and the clock are the model's own (assumptions 1, 4 and 24). -/
def Obligations.CommandsComplete : Prop :=
  Parts.EveryCommandHasNextState ∧ Parts.QueueAndClockUntouched

/-- POWER_ON leaves every table, record, queue and flag at the power-on value of its own chapter,
whatever stood before, and the address is 112 plus the strap value. The clock and the queue are the
model's own (assumptions 1 and 24). -/
def Obligations.PowerOnSetsEveryValue : Prop :=
  ∀ (straps : BitVec 3) (s : State), ∃ t, exec (.powerOn straps) s = .next t ∧
    t.address = 112 + straps.toNat ∧ t.strap = straps ∧ t.now = 0 ∧ t.pending = s.pending ∧
    t.mode = .passive ∧ t.lock = false ∧ t.t0 = none ∧ t.answer = none ∧ t.orders = [] ∧
    t.waits = [] ∧ t.holders = 0 ∧
    t.general = {
      cycleLength := 1200, hmax := 6, fdef := 120, defrostShedLevel := 3, probeStaleTime := 300
      faultStaleTime := 1800, roomStaleTime := 1800, supplyStaleTime := 600, supplySource := 0
      overflowPolicyH := .discardNew, overflowPolicyM := .discardNew, directionDefaultH := .pass
      directionDefaultM := .pass, noticeAddress := 0, manualShedLevel := 0 } ∧
    (∀ i : Fin 16, t.loop i = {
      room := none, driverAddress := 0, headChannel := 0, profile := 0, floorClass := 0
      weight := 10, phase := 75 * i.val, smin := 256, smax := 4096, fallbackDuty := 1024
      level := 1, group := 0, share := 2048, state := .disabled, causes := ⟨false, false, false⟩
      activeDuty := 0, bufferedDuty := 0, pendingFlag := false, request := 0, grant := 0
      head := .idleUnknown, lastAction := none, cooling := none, accSum := 0, accCount := 0
      misses := 0, goodRun := 0, starvedRun := 0, achieved := 0, probeHeld := true
      wanted := none, onTime := 0, openPhase := false, openCount := 0, inCycle := false
      nextBoundary := none, lastBoundary := none, settle := .stopped, echoDue := none }) ∧
    (∀ c : Fin 4, t.floorClass c = match c with
      | 0 => ⟨320, 40, 256⟩
      | 1 => ⟨320, 24, 160⟩
      | 2 => ⟨384, 16, 128⟩
      | 3 => ⟨256, 56, 320⟩) ∧
    (∀ p : Fin 4, t.profile p = match p with
      | 0 => ⟨.nc, 180, 240⟩
      | 1 => ⟨.no, 180, 240⟩
      | 2 => ⟨.nc, 60, 60⟩
      | 3 => ⟨.nc, 300, 300⟩) ∧
    (∀ r : Fin 12, t.room r = {
      unitAddress := 0, demandSource := .report, band := 96, setback := 128, setpointMin := 320
      setpointMax := 1792, fallbackDemand := 256, measured := none, setpoint := none
      mode := .comfort, effective := none, ageStart := 0, stale := false, call := false
      demand := 256 }) ∧
    (∀ e : Fin 32, t.probe e = {
      valid := false, moduleAddress := 0, channel := 0, role := .returnWater, loop := 0, trim := 0
      depth := 1, accSum := 0, accCount := 0, published := none, ageStart := 0, stale := false
      rejected := 0, faultRunning := false }) ∧
    t.supply = {
      allowance := 120, source := .run, ageStart := 0, stale := true, reportTemp := none
      tempStart := 0, young := false } ∧
    t.alloc = {
      budget := 0, reservation := 0, bavail := 0, committed := 0, scaledLevel := none
      short := false } ∧
    (∀ p : PortId, t.port p = {
      tx := none, queue := []
      counters := {
        forwarded := 0, damaged := 0, consecutiveDamaged := 0, overflow := 0, malformed := 0
        strayEcho := 0, unmatched := 0 } }) ∧
    (∀ r : Fin 24, t.rule r = {
      valid := false, direction := .both, kind := none, source := none, destination := none
      selector := none, action := .pass, count := 255, hits := 0 }) ∧
    t.pattern = {
      kind := .none, stage := .idle, subject := none, togglesDone := 0, arg1 := 0, arg2 := 0
      arg3 := 0, lastEnding := .none, snapshot := Vector.replicate 16 none
      intervalDue := none } ∧
    (∀ i : Fin 16, t.sweepResult i = { verdict := .none, rise := none, crossed := none }) ∧
    t.notices = { entries := [], overflow := false, spacingDue := none }

/-! ## Taking a request (R143 to R145) -/

/-- A setup request that arrives while the answer buffer is occupied changes nothing but port H's
unmatched count, which stops at 255. -/
def Parts.OccupiedBufferDiscardsRequest : Prop :=
  ∀ (c : Instr) (src code : Byte) (s : State),
    c.request = some (src, code) → s.NothingToBegin → s.answer ≠ none →
      exec c s = .next { s with portH := { s.portH with counters :=
        { s.portH.counters with unmatched := min 255 (s.portH.counters.unmatched + 1) } } }

/-- Under the inspection lock every request but READ FIELD, SET LOCK, TAKE NOTICE, READ STATUS and
RESTART is answered LOCKED and changes nothing else; those five are never answered LOCKED. -/
def Parts.LockRefusesRequest : Prop :=
  ∀ (c : Instr) (src code : Byte) (s : State),
    c.request = some (src, code) → s.NothingToBegin → s.answer = none → s.lock = true →
      (code ∉ [0x01, 0x08, 0x09, 0x0A, 0x0B] → Answers c src code s s .locked) ∧
      (code ∈ [0x01, 0x08, 0x09, 0x0A, 0x0B] →
        ∃ (t : State) (o : AnswerCode) (content : List Byte), o ≠ .locked ∧
          exec c s = .next (t.putAnswer src code o content))

/-- A request that finds the buffer empty is answered to its source under its own code; one that is
refused, with any outcome but DONE and CLAMPED, leaves the part as it was and carries no value. -/
def Parts.RefusedRequestLeavesPart : Prop :=
  ∀ (c : Instr) (src code : Byte) (s : State),
    c.request = some (src, code) → s.NothingToBegin → s.answer = none →
      ∃ (t : State) (o : AnswerCode) (content : List Byte), exec c s = .next (t.putAnswer src code o content) ∧
        (o ≠ .done → o ≠ .clamped → t = s ∧ content = [])

/-- The checks common to every request and what a refused one leaves. -/
def Obligations.RequestsRefused : Prop :=
  Parts.OccupiedBufferDiscardsRequest ∧ Parts.LockRefusesRequest ∧ Parts.RefusedRequestLeavesPart

/-- A good SETUP REQUEST addressed to the part on port H is taken as the request its data bytes spell,
from its source, after the port has closed its run of damaged telegrams; one that spells no request is
answered UNKNOWN under its first data byte, or 0, whatever the lock, and counts as malformed when it has
no data. -/
def Parts.TelegramCarriesRequest : Prop :=
  ∀ (t : Telegram) (s : State),
    s.NothingToBegin → ¬t.Damaged → t.dst.toNat = s.address → t.kind = 0x51 →
      (∀ r, parseRequest t.data = some r →
        exec (.telegramReceived .h t) s = exec (r.command t.src) { s with portH :=
          { s.portH with counters := { s.portH.counters with consecutiveDamaged := 0 } } }) ∧
      (parseRequest t.data = none → s.answer = none →
        Answers (.telegramReceived .h t) t.src (t.data.headD 0) s { s with portH :=
          { s.portH with counters :=
            { s.portH.counters with
              consecutiveDamaged := 0
              malformed := if t.data = [] then min 255 (s.portH.counters.malformed + 1)
                else s.portH.counters.malformed } } } .unknown)

/-- The data bytes of each request (R158): multi-byte values high byte first, the value of WRITE FIELD
signed, surplus bytes ignored; a request shorter than its least length, with no data or of an unknown
code spells none. -/
def Parts.RequestLayout : Prop :=
  (∀ (t i f : Byte) (rest : List Byte),
    parseRequest (0x01 :: t :: i :: f :: rest) = some (.readField t.toNat i.toNat f.toNat)) ∧
  (∀ (t i f a b c d : Byte) (rest : List Byte),
    parseRequest (0x02 :: t :: i :: f :: a :: b :: c :: d :: rest) =
      some (.writeField t.toNat i.toNat f.toNat (a ++ b ++ c ++ d : BitVec 32).toInt)) ∧
  (∀ (l : Byte) (rest : List Byte),
    parseRequest (0x03 :: l :: rest) = some (.enableLoop l.toNat) ∧
    parseRequest (0x04 :: l :: rest) = some (.disableLoop l.toNat) ∧
    parseRequest (0x05 :: l :: rest) = some (.setMode l.toNat) ∧
    parseRequest (0x08 :: l :: rest) = some (.setLock l.toNat)) ∧
  (∀ (p a b c d : Byte) (rest : List Byte),
    parseRequest (0x06 :: 0x01 :: a :: b :: c :: d :: rest) =
      some (.startPattern (.identify a.toNat b.toNat (256 * c.toNat + d.toNat))) ∧
    parseRequest (0x06 :: 0x02 :: a :: b :: c :: d :: rest) =
      some (.startPattern (.sweep (256 * a.toNat + b.toNat) (256 * c.toNat + d.toNat))) ∧
    (p ≠ 0x01 → p ≠ 0x02 → parseRequest (0x06 :: p :: a :: b :: c :: d :: rest) =
      some (.startPattern (.other p.toNat)))) ∧
  (∀ rest : List Byte,
    parseRequest (0x07 :: rest) = some .stopPattern ∧
    parseRequest (0x09 :: rest) = some .takeNotice ∧
    parseRequest (0x0A :: rest) = some .readStatus ∧
    parseRequest (0x0B :: rest) = some .restart) ∧
  parseRequest [] = none ∧
  (∀ (code : Byte) (rest : List Byte), code = 0x00 ∨ 0x0B < code.toNat →
    parseRequest (code :: rest) = none) ∧
  (∀ rest : List Byte,
    (rest.length < 3 → parseRequest (0x01 :: rest) = none) ∧
    (rest.length < 7 → parseRequest (0x02 :: rest) = none) ∧
    (rest.length < 1 → ∀ code ∈ ([0x03, 0x04, 0x05, 0x08] : List Byte),
      parseRequest (code :: rest) = none) ∧
    (rest.length < 5 → parseRequest (0x06 :: rest) = none))

/-- From the bytes of a SETUP REQUEST telegram to the request that is carried out. -/
def Obligations.TelegramsSpellRequests : Prop :=
  Parts.TelegramCarriesRequest ∧ Parts.RequestLayout

/-- Each write command is the WRITE FIELD of its table, index, field number and value (R158, R159). -/
def Obligations.WriteRowsAreWriteFields : Prop :=
  ∀ (c : Instr) (src : Byte) (table index field : Nat) (v : Int) (s : State),
    c.writeNumbers = some (src, table, index, field, v) →
      exec c s = exec (.writeField src table index field v) s

/-- READ FIELD and WRITE FIELD of a table or field that is not listed answer UNKNOWN; of a listed field
at an index outside the table, RANGE; WRITE FIELD of a status field, UNKNOWN. The counts of rejected
samples are listed at index 1 of COUNTERS alone; at an index above 1 the index fails
(assumption 17). -/
def Obligations.UnlistedFieldsRefused : Prop :=
  ∀ (src : Byte) (table index field : Nat) (v : Int) (s : State), s.Takes →
    ((table = 0 ∨ 9 < table) →
      Answers (.readField src table index field) src 0x01 s s .unknown ∧
      Answers (.writeField src table index field v) src 0x02 s s .unknown) ∧
    (∀ size ranges,
      (table, size, ranges) ∈ ([(1, 1, [(1, 15), (20, 43)]), (2, 16, [(1, 13), (20, 37)]),
        (3, 12, [(1, 7), (20, 31)]), (4, 32, [(1, 7), (20, 25)]), (5, 24, [(1, 9)]),
        (6, 4, [(1, 3)]), (7, 4, [(1, 3)]), (8, 16, [(1, 3)]),
        (9, 2, if index = 0 then [(1, 7)] else [(1, 7), (20, 51)])] :
          List (Nat × Nat × List (Nat × Nat))) →
      ((∀ r ∈ ranges, ¬(r.1 ≤ field ∧ field ≤ r.2)) →
        Answers (.readField src table index field) src 0x01 s s .unknown ∧
        Answers (.writeField src table index field v) src 0x02 s s .unknown) ∧
      ((∃ r ∈ ranges, r.1 ≤ field ∧ field ≤ r.2) → size ≤ index →
        Answers (.readField src table index field) src 0x01 s s .range ∧
        Answers (.writeField src table index field v) src 0x02 s s .range) ∧
      (index < size → (table = 8 ∨ (table ≠ 9 ∧ 20 ≤ field)) →
        Answers (.writeField src table index field v) src 0x02 s s .unknown))

/-- A WRITE FIELD answered DONE or CLAMPED carries the value that a READ FIELD of the same field then
reads, after the transmissions that the write has brought about have begun. -/
def Obligations.WrittenValueReadsBack : Prop :=
  ∀ (src : Byte) (table index field : Nat) (v : Int) (s t : State) (o : AnswerCode)
    (content : List Byte),
    s.answer = none → (o = .done ∨ o = .clamped) →
    exec (.writeField src table index field v) s = .next (t.putAnswer src 0x02 o content) →
      exec (.readField src table index field) { t with answer := none } =
        .next ({ t with answer := none }.beginAll.putAnswer src 0x01 .done content)

/-- READ FIELD of GENERAL and LOOPS: each field number reads the field the table of R159 lists for it,
as a 32-bit value, and nothing changes; the lock does not matter. Codes, NONE as −1 and absent as the
least value follow R158. -/
def Parts.GeneralAndLoopFieldsRead : Prop :=
  ∀ (src : Byte) (s : State), s.NothingToBegin → s.answer = none →
    (
      Reads src 1 0 s 1 s.general.cycleLength ∧ Reads src 1 0 s 2 s.general.hmax ∧
      Reads src 1 0 s 3 s.general.fdef ∧ Reads src 1 0 s 4 s.general.defrostShedLevel ∧
      Reads src 1 0 s 5 s.general.probeStaleTime ∧ Reads src 1 0 s 6 s.general.faultStaleTime ∧
      Reads src 1 0 s 7 s.general.roomStaleTime ∧ Reads src 1 0 s 8 s.general.supplyStaleTime ∧
      Reads src 1 0 s 9 s.general.supplySource ∧
      Reads src 1 0 s 10 s.general.overflowPolicyH.code ∧
      Reads src 1 0 s 11 s.general.overflowPolicyM.code ∧
      Reads src 1 0 s 12 s.general.directionDefaultH.code ∧
      Reads src 1 0 s 13 s.general.directionDefaultM.code ∧
      Reads src 1 0 s 14 s.general.noticeAddress ∧ Reads src 1 0 s 15 s.general.manualShedLevel ∧
      Reads src 1 0 s 20 (112 + s.strap.toNat) ∧ Reads src 1 0 s 21 s.supply.allowance ∧
      Reads src 1 0 s 22 s.supply.source.code ∧
      Reads src 1 0 s 23 (min 65535 (s.now - s.supply.ageStart : Nat)) ∧
      Reads src 1 0 s 24 (flagCode s.supply.stale) ∧
      Reads src 1 0 s 25 (natOrAbsent s.supply.reportTemp) ∧
      Reads src 1 0 s 26 (min 65535 (s.now - s.supply.tempStart : Nat)) ∧
      Reads src 1 0 s 27 (natOrAbsent s.supplyInUse) ∧ Reads src 1 0 s 28 s.alloc.budget ∧
      Reads src 1 0 s 29 s.alloc.reservation ∧ Reads src 1 0 s 30 s.alloc.bavail ∧
      Reads src 1 0 s 31 s.alloc.committed ∧ Reads src 1 0 s 32 (natOrNone s.alloc.scaledLevel) ∧
      Reads src 1 0 s 33 (flagCode s.alloc.short) ∧ Reads src 1 0 s 34 s.pattern.kind.code ∧
      Reads src 1 0 s 35 s.pattern.stage.code ∧
      Reads src 1 0 s 36 (indexOrNone s.pattern.subject) ∧
      Reads src 1 0 s 37 s.pattern.togglesDone ∧ Reads src 1 0 s 38 s.pattern.arg1 ∧
      Reads src 1 0 s 39 s.pattern.arg2 ∧ Reads src 1 0 s 40 s.pattern.arg3 ∧
      Reads src 1 0 s 41 s.pattern.lastEnding.code ∧ Reads src 1 0 s 42 s.mode.code ∧
      Reads src 1 0 s 43 (flagCode s.lock)) ∧
    (∀ (i : Fin 16),
      Reads src 2 i s 1 (indexOrNone (s.loop i).room) ∧
      Reads src 2 i s 2 ((s.loop i).driverAddress) ∧ Reads src 2 i s 3 ((s.loop i).headChannel) ∧
      Reads src 2 i s 4 ((s.loop i).profile.val) ∧ Reads src 2 i s 5 ((s.loop i).floorClass.val) ∧
      Reads src 2 i s 6 ((s.loop i).weight) ∧ Reads src 2 i s 7 ((s.loop i).phase) ∧
      Reads src 2 i s 8 ((s.loop i).smin) ∧ Reads src 2 i s 9 ((s.loop i).smax) ∧
      Reads src 2 i s 10 ((s.loop i).fallbackDuty) ∧ Reads src 2 i s 11 ((s.loop i).level) ∧
      Reads src 2 i s 12 ((s.loop i).group) ∧ Reads src 2 i s 13 ((s.loop i).share) ∧
      Reads src 2 i s 20 ((s.loop i).state.code) ∧ Reads src 2 i s 21 ((s.loop i).causes.code) ∧
      Reads src 2 i s 22 ((s.loop i).activeDuty) ∧ Reads src 2 i s 23 ((s.loop i).bufferedDuty) ∧
      Reads src 2 i s 24 (flagCode (s.loop i).pendingFlag) ∧
      Reads src 2 i s 25 ((s.loop i).request) ∧ Reads src 2 i s 26 ((s.loop i).grant) ∧
      Reads src 2 i s 27 ((s.loop i).head.code) ∧
      Reads src 2 i s 28 (lastActionCode (s.loop i).lastAction) ∧
      Reads src 2 i s 29 (orAbsent (s.loop i).cooling) ∧ Reads src 2 i s 30 ((s.loop i).accSum) ∧
      Reads src 2 i s 31 ((s.loop i).accCount) ∧ Reads src 2 i s 32 ((s.loop i).misses) ∧
      Reads src 2 i s 33 ((s.loop i).goodRun) ∧ Reads src 2 i s 34 ((s.loop i).starvedRun) ∧
      Reads src 2 i s 35 ((s.loop i).achieved) ∧
      Reads src 2 i s 36 (flagCode (s.loop i).probeHeld) ∧
      Reads src 2 i s 37 (natOrAbsent (s.loopReturn i)))

/-- READ FIELD of the other tables, in the same way. -/
def Parts.OtherFieldsRead : Prop :=
  ∀ (src : Byte) (s : State), s.NothingToBegin → s.answer = none →
    (∀ (r : Fin 12),
      Reads src 3 r s 1 ((s.room r).unitAddress) ∧
      Reads src 3 r s 2 ((s.room r).demandSource.code) ∧ Reads src 3 r s 3 ((s.room r).band) ∧
      Reads src 3 r s 4 ((s.room r).setback) ∧ Reads src 3 r s 5 ((s.room r).setpointMin) ∧
      Reads src 3 r s 6 ((s.room r).setpointMax) ∧ Reads src 3 r s 7 ((s.room r).fallbackDemand) ∧
      Reads src 3 r s 20 (orAbsent (s.room r).measured) ∧
      Reads src 3 r s 21 (orAbsent (s.room r).setpoint) ∧
      Reads src 3 r s 22 ((s.room r).mode.code) ∧
      Reads src 3 r s 23 (orAbsent (s.room r).effective) ∧
      Reads src 3 r s 24 (if (s.room r).unitAddress = 0 then 0 else min 65535 (s.now - (s.room r).ageStart : Nat)) ∧
      Reads src 3 r s 25 (flagCode (s.room r).stale) ∧
      Reads src 3 r s 26 (flagCode (s.room r).call) ∧ Reads src 3 r s 27 ((s.room r).demand) ∧
      Reads src 3 r s 28 ((s.loopList r).length) ∧
      Reads src 3 r s 29 (indexOrNone (s.loopList r)[0]?) ∧
      Reads src 3 r s 30 (indexOrNone (s.loopList r)[1]?) ∧
      Reads src 3 r s 31 (indexOrNone (s.loopList r)[2]?)) ∧
    (∀ (e : Fin 32),
      Reads src 4 e s 1 (flagCode (s.probe e).valid) ∧
      Reads src 4 e s 2 ((s.probe e).moduleAddress) ∧ Reads src 4 e s 3 ((s.probe e).channel) ∧
      Reads src 4 e s 4 ((s.probe e).role.code) ∧ Reads src 4 e s 5 ((s.probe e).loop.val) ∧
      Reads src 4 e s 6 ((s.probe e).trim) ∧ Reads src 4 e s 7 ((s.probe e).depth) ∧
      Reads src 4 e s 20 ((s.probe e).accSum) ∧ Reads src 4 e s 21 ((s.probe e).accCount) ∧
      Reads src 4 e s 22 (natOrAbsent (s.probe e).published) ∧
      Reads src 4 e s 23 (if (s.probe e).valid = true then min 65535 (s.now - (s.probe e).ageStart : Nat) else 0) ∧
      Reads src 4 e s 24 (flagCode (s.probe e).stale) ∧ Reads src 4 e s 25 ((s.probe e).rejected)) ∧
    (∀ (r : Fin 24),
      Reads src 5 r s 1 (flagCode (s.rule r).valid) ∧
      Reads src 5 r s 2 ((s.rule r).direction.code) ∧
      Reads src 5 r s 3 (natOrNone (s.rule r).kind) ∧
      Reads src 5 r s 4 (natOrNone (s.rule r).source) ∧
      Reads src 5 r s 5 (natOrNone (s.rule r).destination) ∧
      Reads src 5 r s 6 (natOrNone (s.rule r).selector) ∧
      Reads src 5 r s 7 ((s.rule r).action.code) ∧ Reads src 5 r s 8 ((s.rule r).count) ∧
      Reads src 5 r s 9 ((s.rule r).hits)) ∧
    (∀ (c : Fin 4),
      Reads src 6 c s 1 ((s.floorClass c).target) ∧ Reads src 6 c s 2 ((s.floorClass c).gain) ∧
      Reads src 6 c s 3 ((s.floorClass c).limit)) ∧
    (∀ (q : Fin 4),
      Reads src 7 q s 1 ((s.profile q).polarity.code) ∧ Reads src 7 q s 2 ((s.profile q).opening) ∧
      Reads src 7 q s 3 ((s.profile q).closing)) ∧
    (∀ (i : Fin 16),
      Reads src 8 i s 1 ((s.sweepResult i).verdict.code) ∧
      Reads src 8 i s 2 (orAbsent (s.sweepResult i).rise) ∧
      Reads src 8 i s 3 (indexOrNone (s.sweepResult i).crossed)) ∧
    (∀ port : PortId,
      Reads src 9 (portCode port) s 1 ((s.port port).counters.forwarded) ∧
      Reads src 9 (portCode port) s 2 ((s.port port).counters.damaged) ∧
      Reads src 9 (portCode port) s 3 ((s.port port).counters.consecutiveDamaged) ∧
      Reads src 9 (portCode port) s 4 ((s.port port).counters.overflow) ∧
      Reads src 9 (portCode port) s 5 ((s.port port).counters.malformed) ∧
      Reads src 9 (portCode port) s 6 ((s.port port).counters.strayEcho) ∧
      Reads src 9 (portCode port) s 7 ((s.port port).counters.unmatched)) ∧
    (∀ e : Fin 32, Reads src 9 1 s (20 + e) (s.probe e).rejected)

/-- READ STATUS answers mode, lock, effective shed level, short flag and number of slot holders, one byte
each, and changes nothing. The effective shed level is the larger of the manual level and 0, the defrost
shed level or 7 by the source state. -/
def Parts.StatusRead : Prop :=
  ∀ (src : Byte) (s : State), s.NothingToBegin → s.answer = none →
    exec (.readStatus src) s = .next (s.putAnswer src 0x0A .done
      [match s.mode with
        | .passive => 0
        | .active => 1
        | .halting => 2
        | .test => 3,
       if s.lock = true then 1 else 0,
       BitVec.ofNat 8 (max s.general.manualShedLevel (match s.supply.source with
        | .run => 0
        | .defrost => s.general.defrostShedLevel
        | .block => 7)),
       if s.alloc.short = true then 1 else 0,
       BitVec.ofNat 8 (loopIds.countP fun i =>
        (s.loop i).head ∈ [.energisePending, .energiseSent, .energised, .silentEnergise,
          .releasePending])])

/-- Every field number reads the field the spec lists for it, READ STATUS its five bytes, and nothing
changes. The age of the report temperature is formed as assumption 9 says. -/
def Obligations.FieldsRead : Prop :=
  Parts.GeneralAndLoopFieldsRead ∧ Parts.OtherFieldsRead ∧ Parts.StatusRead

/-- The codes of R157 and R158: enumerations, notice kinds, ports, flags and cause sets; a value, an index
or a match field as it stands where it is present, −1 for NONE, none and ANY, and the least 32-bit value
for absent; and a 32-bit value as four bytes, high byte first. -/
def Obligations.CodesAndEncodings : Prop :=
  ([.passive, .active, .halting, .test].map Mode.code = [0, 1, 2, 3]) ∧
  ([.disabled, .standby, .running, .shed, .fault, .testing].map LoopState.code =
    [0, 1, 2, 3, 4, 5]) ∧
  ([.idleUnknown, .released, .energiseWait, .energisePending, .energiseSent, .energised,
    .silentEnergise, .releasePending, .releaseSent, .silentRelease].map HeadState.code =
    [0, 1, 2, 3, 4, 5, 6, 7, 8, 9]) ∧
  ([none, some .release, some .energise].map lastActionCode = [-1, 0, 1]) ∧
  ([.report, .call, .both].map DemandSource.code = [0, 1, 2]) ∧
  ([.comfort, .setback, .away, .off].map RoomMode.code = [0, 1, 2, 3]) ∧
  ([.run, .defrost, .block].map SourceState.code = [0, 1, 2]) ∧
  ([.returnWater, .supplyWater].map Role.code = [0, 1]) ∧
  ([.nc, .no].map Polarity.code = [0, 1]) ∧
  ([.hToM, .mToH, .both].map Direction.code = [0, 1, 2]) ∧
  ([.pass, .block, .ignore, .drop].map FilterAction.code = [0, 1, 2, 3]) ∧
  ([.discardNew, .discardOldest].map OverflowPolicy.code = [0, 1]) ∧
  ([.none, .noProbe, .noRise, .crossed, .confirmed].map Verdict.code = [0, 1, 2, 3, 4]) ∧
  ([.none, .identify, .sweep].map PatternKind.code = [0, 1, 2]) ∧
  ([.none, .completed, .stopped].map Ending.code = [0, 1, 2]) ∧
  ([.idle, .opening, .openHalf, .closing, .closedHalf, .closingAll, .clearing, .dwell, .closeWait,
    .windingDown].map Stage.code = [0, 1, 2, 3, 4, 5, 6, 7, 8, 9]) ∧
  ([.done, .clamped, .empty, .unknown, .range, .static, .locked, .state, .busy,
    .conflict].map AnswerCode.code = [0, 1, 2, 3, 4, 5, 6, 7, 8, 9]) ∧
  (∀ a b c : Bool, CauseSet.code ⟨a, b, c⟩ = a.toNat + 2 * b.toNat + 4 * c.toNat) ∧
  ([.loopFault, .loopRecovered, .probeStale, .roomStale, .supplyStale, .budgetShort, .starved,
    .ruleSpent, .queueDrop, .lineNoisy, .crossed, .patternDone].map NoticeKind.code =
    [1, 2, 3, 4, 5, 6, 7, 8, 9, 10, 11, 12]) ∧
  ([.release, .energise].map Machine.Action.code = [0, 1]) ∧ ([.h, .m].map portCode = [0, 1]) ∧
  flagCode true = 1 ∧ flagCode false = 0 ∧
  natOrNone none = -1 ∧ (∀ n : Nat, natOrNone (some n) = n) ∧
  natOrAbsent none = -2147483648 ∧ (∀ n : Nat, natOrAbsent (some n) = n) ∧
  orAbsent none = -2147483648 ∧ (∀ v : Int, orAbsent (some v) = v) ∧
  (∀ n : Nat, indexOrNone (none : Option (Fin n)) = -1 ∧
    ∀ i : Fin n, indexOrNone (some i) = i.val) ∧
  (∀ v : Int, -2147483648 ≤ v → v ≤ 2147483647 →
    ∃ a b c d, valueBytes v = [a, b, c, d] ∧ (a ++ b ++ c ++ d : BitVec 32).toInt = v)

/-! ## Writes of the loop table (01) -/

/-- A static field of a loop that is not DISABLED keeps its value, refused STATIC. Of a DISABLED loop an
index or address is stored, refused RANGE outside its range, and the head binding BUSY while an order of
the loop is under way; weight, phase and fallback duty are clamped and stored. No other field changes. That
a head order which a restart left behind on the line is no order under way is assumption 13. -/
def Parts.LoopStaticFieldWritten : Prop :=
  ∀ (src : Byte) (i : Fin 16) (v : Int) (s : State), s.Takes →
    ((s.loop i).state ≠ .disabled → ∀ field,
      Answers (.loopStaticFieldWrite src i field v) src 0x02 s s .static) ∧
    ((s.loop i).state = .disabled →
      (¬(0 ≤ v ∧ v ≤ 126) →
        Answers (.loopStaticFieldWrite src i .driverAddress v) src 0x02 s s .range) ∧
      (¬(0 ≤ v ∧ v ≤ 7) →
        Answers (.loopStaticFieldWrite src i .headChannel v) src 0x02 s s .range) ∧
      (s.OrderUnderWay i →
        (0 ≤ v → v ≤ 126 →
          Answers (.loopStaticFieldWrite src i .driverAddress v) src 0x02 s s .busy) ∧
        (0 ≤ v → v ≤ 7 →
          Answers (.loopStaticFieldWrite src i .headChannel v) src 0x02 s s .busy)) ∧
      (¬s.OrderUnderWay i → ∀ n : Nat, v = n →
        (n ≤ 126 → Stores (.loopStaticFieldWrite src i .driverAddress v) src s
          (s.setLoop i { s.loop i with driverAddress := n }) v v) ∧
        (n ≤ 7 → Stores (.loopStaticFieldWrite src i .headChannel v) src s
          (s.setLoop i { s.loop i with headChannel := n }) v v)) ∧
      (¬(0 ≤ v ∧ v ≤ 3) →
        Answers (.loopStaticFieldWrite src i .profile v) src 0x02 s s .range ∧
        Answers (.loopStaticFieldWrite src i .floorClass v) src 0x02 s s .range) ∧
      (∀ n : Fin 4, v = n.val →
        Stores (.loopStaticFieldWrite src i .profile v) src s
          (s.setLoop i { s.loop i with profile := n }) v v ∧
        Stores (.loopStaticFieldWrite src i .floorClass v) src s
          (s.setLoop i { s.loop i with floorClass := n }) v v) ∧
      (∀ w : Nat, (w : Int) = max 1 (min v 50) →
        Stores (.loopStaticFieldWrite src i .weight v) src s
          (s.setLoop i { s.loop i with weight := w }) v w) ∧
      (∀ w : Nat, (w : Int) = max 0 (min v 3599) →
        Stores (.loopStaticFieldWrite src i .phase v) src s
          (s.setLoop i { s.loop i with phase := w }) v w) ∧
      (∀ w : Nat, (w : Int) = max 0 (min v 4096) →
        Stores (.loopStaticFieldWrite src i .fallbackDuty v) src s
          (s.setLoop i { s.loop i with fallbackDuty := w }) v w))

/-- The room field of a DISABLED loop: NONE is always taken; a room that three other loops name is
refused CONFLICT; any other room is stored; a value that is no room is refused RANGE. -/
def Parts.LoopRoomWritten : Prop :=
  ∀ (src : Byte) (i : Fin 16) (v : Int) (s : State), s.Takes →
    ((s.loop i).state ≠ .disabled →
      Answers (.loopRoomWrite src i v) src 0x02 s s .static) ∧
    ((s.loop i).state = .disabled →
      (v = -1 → Stores (.loopRoomWrite src i v) src s
        (s.setLoop i { s.loop i with room := none }) v v) ∧
      (v < -1 ∨ 11 < v → Answers (.loopRoomWrite src i v) src 0x02 s s .range) ∧
      (∀ r : Fin 12, v = r.val →
        (3 ≤ (loopIds.filter fun j => j ≠ i ∧ (s.loop j).room = some r).length →
          Answers (.loopRoomWrite src i v) src 0x02 s s .conflict) ∧
        ((loopIds.filter fun j => j ≠ i ∧ (s.loop j).room = some r).length < 3 →
          Stores (.loopRoomWrite src i v) src s
            (s.setLoop i { s.loop i with room := some r }) v v)))

/-- Every static field of a loop but the two share limits. -/
def Obligations.LoopStaticFieldsWritten : Prop :=
  Parts.LoopStaticFieldWritten ∧ Parts.LoopRoomWritten

/-- Smin, Smax and S. Smin and Smax of a DISABLED loop are clamped to 64 to 4096 and against each other,
and S is at once clamped between them; the answer is CLAMPED where the value was altered or S moved. S
may be written in any state, clamped between the limits. -/
def Parts.ShareWritten : Prop :=
  ∀ (src : Byte) (i : Fin 16) (v : Int) (s : State), s.Takes →
    (s.loop i).smin ≤ (s.loop i).smax →
    ((s.loop i).state ≠ .disabled →
      Answers (.shareWrite src i .smin v) src 0x02 s s .static ∧
      Answers (.shareWrite src i .smax v) src 0x02 s s .static) ∧
    ((s.loop i).state = .disabled →
      (∀ w : Nat, (w : Int) = min (max 64 (min v 4096)) (s.loop i).smax →
        exec (.shareWrite src i .smin v) s = .next ((s.setLoop i
          { s.loop i with
            smin := w, share := max w (min (s.loop i).share (s.loop i).smax) }).putAnswer src 0x02
          (if w = v ∧ max w (min (s.loop i).share (s.loop i).smax) = (s.loop i).share
            then .done else .clamped) (valueBytes w))) ∧
      (∀ w : Nat, (w : Int) = max (max 64 (min v 4096)) (s.loop i).smin →
        exec (.shareWrite src i .smax v) s = .next ((s.setLoop i
          { s.loop i with
            smax := w, share := max (s.loop i).smin (min (s.loop i).share w) }).putAnswer src 0x02
          (if w = v ∧ max (s.loop i).smin (min (s.loop i).share w) = (s.loop i).share
            then .done else .clamped) (valueBytes w)))) ∧
    (∀ w : Nat, (w : Int) = max ((s.loop i).smin : Int) (min v (s.loop i).smax) →
      Stores (.shareWrite src i .share v) src s
        (s.setLoop i { s.loop i with share := w }) v w)

/-- Level and group are clamped and stored in every state and mode. A level write to a RUNNING, SHED or
FAULT loop in ACTIVE or HALTING mode recomputes the allocation; nothing else does. -/
def Parts.LevelAndGroupWritten : Prop :=
  ∀ (src : Byte) (i : Fin 16) (v : Int) (s : State), s.Takes →
    (∀ w : Nat, (w : Int) = max 0 (min v 7) →
      (((s.loop i).state ∈ [.running, .shed, .fault] ∧ (s.mode = .active ∨ s.mode = .halting)) →
        Stores (.levelWrite src i .level v) src s
          (s.setLoop i { s.loop i with level := w }).recompute v w) ∧
      (¬((s.loop i).state ∈ [.running, .shed, .fault] ∧
          (s.mode = .active ∨ s.mode = .halting)) →
        Stores (.levelWrite src i .level v) src s
          (s.setLoop i { s.loop i with level := w }) v w)) ∧
    (∀ w : Nat, (w : Int) = max 0 (min v 3) →
      Stores (.levelWrite src i .group v) src s (s.setLoop i { s.loop i with group := w }) v w)

/-- The share with its limits, the level and the group. -/
def Obligations.DynamicFieldsWritten : Prop :=
  Parts.ShareWritten ∧ Parts.LevelAndGroupWritten

/-- R7: the four floor classes at power-on, their writes in every mode with each value clamped into its
range, their keeping across a restart, and their use: a step takes the class as it stands at the step,
and with a gain of 0 it holds S within its limits while the cooling is still measured and stored. -/
def Obligations.FloorClassWritten : Prop :=
  (∀ c : Fin 4, State.reset.floorClass c = match c with
    | 0 => ⟨320, 40, 256⟩
    | 1 => ⟨320, 24, 160⟩
    | 2 => ⟨384, 16, 128⟩
    | 3 => ⟨256, 56, 320⟩) ∧
  (∀ (src : Byte) (c : Fin 4) (v : Int) (s : State), s.Takes →
    (∀ w : Nat, (w : Int) = max 192 (min v 640) →
      Stores (.floorClassWrite src c .target v) src s
        (s.setFloorClass c { s.floorClass c with target := w }) v w) ∧
    (∀ w : Nat, (w : Int) = max 0 (min v 255) →
      Stores (.floorClassWrite src c .gain v) src s
        (s.setFloorClass c { s.floorClass c with gain := w }) v w) ∧
    (∀ w : Nat, (w : Int) = max 16 (min v 1024) →
      Stores (.floorClassWrite src c .limit v) src s
        (s.setFloorClass c { s.floorClass c with limit := w }) v w)) ∧
  (∀ s : State, s.restart.classes = s.classes) ∧
  (∀ (s : State) (i : Fin 16),
    (s.balance i).loop i = ((s.loop i).balance (s.floorClass (s.loop i).floorClass)).emptyAcc) ∧
  (∀ (l : Loop) (k : FloorClass), k.gain = 0 → 1 ≤ l.accCount → l.smin ≤ l.share →
    l.share ≤ l.smax → (l.balance k).share = l.share ∧
      (l.balance k).cooling = some ((l.accSum + (l.accCount / 2 : Nat)) / l.accCount))

/-- Profile fields: refused STATIC outside PASSIVE mode. In PASSIVE mode a polarity other than NC or NO
is refused RANGE; the opening time is clamped to 30 to 600 and to at most half the cycle length; the
closing time is clamped to 30 to 600. A restart keeps the profiles. The polarity of the profile that a
loop names decides its actions (R8): NC opens with ENERGISE, closes with RELEASE and is open in ENERGISED;
NO opens with RELEASE, closes with ENERGISE and is open in RELEASED. -/
def Obligations.ProfileWritten : Prop :=
  (∀ (s : State) (i : Fin 16),
    s.profileOf i = s.profile (s.loop i).profile ∧
    ((s.profile (s.loop i).profile).polarity = .nc → s.openingAction i = .energise ∧
      s.closingAction i = .release ∧ s.openState i = .energised) ∧
    ((s.profile (s.loop i).profile).polarity = .no → s.openingAction i = .release ∧
      s.closingAction i = .energise ∧ s.openState i = .released)) ∧
  (∀ (src : Byte) (p : Fin 4) (v : Int) (s : State), s.Takes →
    (s.mode ≠ .passive → ∀ field,
      Answers (.profileWrite src p field v) src 0x02 s s .static) ∧
    (s.mode = .passive →
      (v ≠ 0 → v ≠ 1 → Answers (.profileWrite src p .polarity v) src 0x02 s s .range) ∧
      (v = 0 → Stores (.profileWrite src p .polarity v) src s
        (s.setProfile p { s.profile p with polarity := .nc }) v v) ∧
      (v = 1 → Stores (.profileWrite src p .polarity v) src s
        (s.setProfile p { s.profile p with polarity := .no }) v v) ∧
      (∀ w : Nat, (w : Int) = min (max 30 (min v 600)) (s.general.cycleLength / 2 : Nat) →
        Stores (.profileWrite src p .opening v) src s
          (s.setProfile p { s.profile p with opening := w }) v w) ∧
      (∀ w : Nat, (w : Int) = max 30 (min v 600) →
        Stores (.profileWrite src p .closing v) src s
          (s.setProfile p { s.profile p with closing := w }) v w))) ∧
  (∀ s : State, s.restart.profiles = s.profiles)

/-! ## Writes of rooms and probes (02, 03) -/

/-- Room fields other than the unit address, in every mode: the demand source is refused RANGE outside
its codes; band, setback, setpoint limits and fallback demand are clamped, the two limits also against
each other; the effective setpoint and the demand are recomputed at each taken write. -/
def Parts.RoomFieldWritten : Prop :=
  ∀ (src : Byte) (r : Fin 12) (v : Int) (s : State), s.Takes →
    (¬(0 ≤ v ∧ v ≤ 2) → Answers (.roomFieldWrite src r .demandSource v) src 0x02 s s .range) ∧
    (∀ d : DemandSource, v = d.code → Stores (.roomFieldWrite src r .demandSource v) src s
      (s.setRoom r { s.room r with demandSource := d }.recomputed) v v) ∧
    (∀ w : Nat, (w : Int) = max 32 (min v 256) →
      Stores (.roomFieldWrite src r .band v) src s
        (s.setRoom r { s.room r with band := w }.recomputed) v w) ∧
    (∀ w : Nat, (w : Int) = max 0 (min v 640) →
      Stores (.roomFieldWrite src r .setback v) src s
        (s.setRoom r { s.room r with setback := w }.recomputed) v w) ∧
    (∀ w : Nat, (w : Int) = min (max 0 (min v 3200)) (s.room r).setpointMax →
      Stores (.roomFieldWrite src r .setpointMin v) src s
        (s.setRoom r { s.room r with setpointMin := w }.recomputed) v w) ∧
    (∀ w : Nat, (w : Int) = max (max 0 (min v 3200)) (s.room r).setpointMin →
      Stores (.roomFieldWrite src r .setpointMax v) src s
        (s.setRoom r { s.room r with setpointMax := w }.recomputed) v w) ∧
    (∀ w : Nat, (w : Int) = max 0 (min v 1024) →
      Stores (.roomFieldWrite src r .fallbackDemand v) src s
        (s.setRoom r { s.room r with fallbackDemand := w }.recomputed) v w)

/-- A room's unit address: refused RANGE outside 0 to 126 and CONFLICT where another room has it; the
present address changes nothing; a new one starts the report state again, the call kept, and recomputes
the demand. -/
def Parts.UnitAddressWritten : Prop :=
  ∀ (src : Byte) (r : Fin 12) (v : Int) (s : State), s.Takes →
    (¬(0 ≤ v ∧ v ≤ 126) → Answers (.unitAddressWrite src r v) src 0x02 s s .range) ∧
    (∀ n : Nat, v = n → n ≤ 126 →
      (n ≠ 0 → (∃ q, q ≠ r ∧ (s.room q).unitAddress = n) →
        Answers (.unitAddressWrite src r v) src 0x02 s s .conflict) ∧
      ((n = 0 ∨ ∀ q, q ≠ r → (s.room q).unitAddress ≠ n) →
        ((s.room r).unitAddress = n → Stores (.unitAddressWrite src r v) src s s v v) ∧
        ((s.room r).unitAddress ≠ n → Stores (.unitAddressWrite src r v) src s
          (s.setRoom r { s.room r with
            unitAddress := n, measured := none, setpoint := none, mode := .comfort
            ageStart := s.now, stale := false }.recomputed) v v)))

/-- R22 for the room fields other than the unit address, and with them the write of the unit address. -/
def Obligations.RoomFieldsWritten : Prop :=
  Parts.RoomFieldWritten ∧ Parts.UnitAddressWritten

/-- Probe entry fields other than valid: the four identity fields are refused STATIC while the entry is
valid and RANGE outside their range; the trim is clamped; a depth other than 1, 2, 4 or 8 is refused
RANGE, and a taken depth write empties the accumulator. -/
def Parts.ProbeFieldWritten : Prop :=
  ∀ (src : Byte) (e : Fin 32) (v : Int) (s : State), s.Takes →
    ((s.probe e).valid = true → ∀ field ∈ [ProbeField.moduleAddress, .channel, .role, .loop],
      Answers (.probeFieldWrite src e field v) src 0x02 s s .static) ∧
    ((s.probe e).valid = false →
      (¬(0 ≤ v ∧ v ≤ 126) →
        Answers (.probeFieldWrite src e .moduleAddress v) src 0x02 s s .range) ∧
      (¬(0 ≤ v ∧ v ≤ 3) → Answers (.probeFieldWrite src e .channel v) src 0x02 s s .range) ∧
      (¬(0 ≤ v ∧ v ≤ 1) → Answers (.probeFieldWrite src e .role v) src 0x02 s s .range) ∧
      (¬(0 ≤ v ∧ v ≤ 15) → Answers (.probeFieldWrite src e .loop v) src 0x02 s s .range) ∧
      (∀ n : Nat, v = n →
        (n ≤ 126 → Stores (.probeFieldWrite src e .moduleAddress v) src s
          (s.setProbe e { s.probe e with moduleAddress := n }) v v) ∧
        (n ≤ 3 → Stores (.probeFieldWrite src e .channel v) src s
          (s.setProbe e { s.probe e with channel := n }) v v)) ∧
      (∀ k : Role, v = k.code → Stores (.probeFieldWrite src e .role v) src s
        (s.setProbe e { s.probe e with role := k }) v v) ∧
      (∀ i : Fin 16, v = i.val → Stores (.probeFieldWrite src e .loop v) src s
        (s.setProbe e { s.probe e with loop := i }) v v)) ∧
    Stores (.probeFieldWrite src e .trim v) src s
      (s.setProbe e { s.probe e with trim := max (-128) (min v 127) }) v
      (max (-128) (min v 127)) ∧
    (v ∉ [1, 2, 4, 8] → Answers (.probeFieldWrite src e .depth v) src 0x02 s s .range) ∧
    (∀ n : Nat, n ∈ [1, 2, 4, 8] → v = n → Stores (.probeFieldWrite src e .depth v) src s
      (s.setProbe e { s.probe e with depth := n, accSum := 0, accCount := 0 }) v v)

/-- The valid field of a probe entry: refused RANGE unless yes or no; a value already held changes
nothing; a validation is refused STATE at module address 0 and CONFLICT where the map would break its
limits; a taken change sets the status fields, starts both intervals of a valid entry, and re-evaluates
the probe-held flag and the PROBE condition of a RETURN entry's loop. -/
def Parts.ProbeValidWritten : Prop :=
  ∀ (src : Byte) (e : Fin 32) (v : Int) (s : State), s.Takes →
    (v ≠ 0 → v ≠ 1 → Answers (.probeValidWrite src e v) src 0x02 s s .range) ∧
    (∀ b : Bool, v = b.toNat →
      ((s.probe e).valid = b → Stores (.probeValidWrite src e v) src s s v v) ∧
      ((s.probe e).valid ≠ b →
        (b = true → (s.probe e).moduleAddress = 0 →
          Answers (.probeValidWrite src e v) src 0x02 s s .state) ∧
        (b = true → (s.probe e).moduleAddress ≠ 0 →
          ((∃ q, q ≠ e ∧ (s.probe q).valid = true ∧
              (s.probe q).moduleAddress = (s.probe e).moduleAddress ∧
              (s.probe q).channel = (s.probe e).channel) ∨
            2 ≤ (probeIds.filter fun q => q ≠ e ∧ (s.probe q).valid = true ∧
              (s.probe q).role = (s.probe e).role ∧
              ((s.probe e).role = .returnWater → (s.probe q).loop = (s.probe e).loop)).length) →
          Answers (.probeValidWrite src e v) src 0x02 s s .conflict) ∧
        ((b = false ∨ (s.probe e).moduleAddress ≠ 0 ∧
            (∀ q, q ≠ e → (s.probe q).valid = true →
              ¬((s.probe q).moduleAddress = (s.probe e).moduleAddress ∧
                (s.probe q).channel = (s.probe e).channel)) ∧
            (probeIds.filter fun q => q ≠ e ∧ (s.probe q).valid = true ∧
              (s.probe q).role = (s.probe e).role ∧
              ((s.probe e).role = .returnWater →
                (s.probe q).loop = (s.probe e).loop)).length < 2) →
          let changed := s.setProbe e { s.probe e with
            valid := b, accSum := 0, accCount := 0, published := none, ageStart := s.now
            stale := false, rejected := 0, faultRunning := b }
          ((s.probe e).role = .supplyWater →
            Stores (.probeValidWrite src e v) src s changed v v) ∧
          ((s.probe e).role = .returnWater →
            Stores (.probeValidWrite src e v) src s
              ((changed.updLoop (s.probe e).loop fun l =>
                { l with probeHeld := changed.probeHeldNow (s.probe e).loop }).evaluateProbe
                  (s.probe e).loop) v v))))

/-- Every writable field of a probe entry. -/
def Obligations.ProbeEntryWritten : Prop :=
  Parts.ProbeFieldWritten ∧ Parts.ProbeValidWritten

/-! ## Writes of GENERAL, rules and counters (03, 05, 08, 10) -/

/-- Every static field of GENERAL is refused STATIC outside PASSIVE mode. -/
def Parts.GeneralStaticOutsidePassive : Prop :=
  ∀ (src : Byte) (v : Int) (s : State), s.Takes → s.mode ≠ .passive →
    ∀ c ∈ [Instr.cycleLengthWrite src v, .writeField src 1 0 2 v, .fdefWrite src v,
        .writeField src 1 0 4 v, .probeStaleTimeWrite src v, .faultStaleTimeWrite src v,
        .roomStaleTimeWrite src v, .supplyStaleTimeWrite src v, .supplySourceAddressWrite src v,
        .overflowPolicyWrite src .h v, .overflowPolicyWrite src .m v,
        .directionDefaultWrite src .h v, .directionDefaultWrite src .m v,
        .noticeAddressWrite src v],
      Answers c src 0x02 s s .static

/-- The writes of GENERAL in PASSIVE mode that reach no other table: T is clamped and raised to twice the
largest opening time; Hmax and the defrost shed level are clamped; the supply source address, the
policies, the defaults and the notice address are stored, or refused RANGE outside their ranges and
codes. -/
def Parts.GeneralFieldsWritten : Prop :=
  ∀ (src : Byte) (v : Int) (s : State), s.Takes → s.mode = .passive →
    (∀ w : Nat, (w : Int) = max (max 600 (min v 3600)) (max
        (max (2 * (s.profile 0).opening) (2 * (s.profile 1).opening))
        (max (2 * (s.profile 2).opening) (2 * (s.profile 3).opening)) : Nat) →
      Stores (.cycleLengthWrite src v) src s
        { s with general := { s.general with cycleLength := w } } v w) ∧
    (∀ w : Nat, (w : Int) = max 1 (min v 16) →
      Stores (.writeField src 1 0 2 v) src s
        { s with general := { s.general with hmax := w } } v w) ∧
    (∀ w : Nat, (w : Int) = max 0 (min v 7) →
      Stores (.writeField src 1 0 4 v) src s
        { s with general := { s.general with defrostShedLevel := w } } v w) ∧
    (¬(0 ≤ v ∧ v ≤ 126) → Answers (.supplySourceAddressWrite src v) src 0x02 s s .range) ∧
    (∀ n : Nat, v = n → n ≤ 126 → Stores (.supplySourceAddressWrite src v) src s
      { s with general := { s.general with supplySource := n } } v v) ∧
    (¬(0 ≤ v ∧ v ≤ 127) → Answers (.noticeAddressWrite src v) src 0x02 s s .range) ∧
    (∀ n : Nat, v = n → n ≤ 127 → Stores (.noticeAddressWrite src v) src s
      { s with general := { s.general with noticeAddress := n } } v v) ∧
    (¬(0 ≤ v ∧ v ≤ 1) → ∀ p, Answers (.overflowPolicyWrite src p v) src 0x02 s s .range) ∧
    (∀ o : OverflowPolicy, v = o.code →
      Stores (.overflowPolicyWrite src .h v) src s
        { s with general := { s.general with overflowPolicyH := o } } v v ∧
      Stores (.overflowPolicyWrite src .m v) src s
        { s with general := { s.general with overflowPolicyM := o } } v v) ∧
    (¬(0 ≤ v ∧ v ≤ 3) → ∀ p, Answers (.directionDefaultWrite src p v) src 0x02 s s .range) ∧
    (∀ a : FilterAction, v = a.code →
      Stores (.directionDefaultWrite src .h v) src s
        { s with general := { s.general with directionDefaultH := a } } v v ∧
      Stores (.directionDefaultWrite src .m v) src s
        { s with general := { s.general with directionDefaultM := a } } v v)

/-- The manual shed level in every mode: clamped, stored, and the allocation recomputed, in the modes in
which a recompute runs. -/
def Parts.ManualShedLevelWritten : Prop :=
  ∀ (src : Byte) (v : Int) (w : Nat) (s : State), s.Takes → (w : Int) = max 0 (min v 7) →
    ((s.mode = .active ∨ s.mode = .halting) →
      Stores (.manualShedLevelWrite src v) src s
        { s with general := { s.general with manualShedLevel := w } }.recompute v w) ∧
    ((s.mode = .passive ∨ s.mode = .test) →
      Stores (.manualShedLevelWrite src v) src s
        { s with general := { s.general with manualShedLevel := w } } v w)

/-- The fields of GENERAL but those that reach another table. -/
def Obligations.GeneralFieldsWrittenInMode : Prop :=
  Parts.GeneralStaticOutsidePassive ∧ Parts.GeneralFieldsWritten ∧ Parts.ManualShedLevelWritten

/-- The stale times of probes and rooms in PASSIVE mode: clamped, the two probe times also against each
other. A shorter time makes each fresh entry or room that has reached it stale at once, in ascending
index, each with its notice. A fault stale time starts the fault interval of each valid entry that has not
reached it again (assumption 11), an entry that is not stale yet among them (assumption 30), and evaluates
the PROBE condition of every loop. -/
def Parts.ProbeAndRoomStaleTimesWritten : Prop :=
  ∀ (src : Byte) (v : Int) (s : State), s.Takes → s.mode = .passive →
    (∀ w : Nat, (w : Int) = min (max 60 (min v 1800)) s.general.faultStaleTime →
      Stores (.probeStaleTimeWrite src v) src s
        (probeIds.foldl
          (fun s e =>
            if (s.probe e).valid = true ∧ (s.probe e).stale = false ∧ w ≤ s.probeAge e then
              s.probeStale e else s)
          { s with general := { s.general with probeStaleTime := w } }) v w) ∧
    (∀ w : Nat, (w : Int) = max (max 600 (min v 7200)) s.general.probeStaleTime →
      Stores (.faultStaleTimeWrite src v) src s
        (loopIds.foldl State.evaluateProbe { s with
          general := { s.general with faultStaleTime := w }
          probes := Vector.ofFn fun e => { s.probe e with
            faultRunning := (s.probe e).valid &&
              (decide (s.probeAge e < w) || !(s.probe e).stale) } }) v w) ∧
    (∀ w : Nat, (w : Int) = max 300 (min v 7200) →
      Stores (.roomStaleTimeWrite src v) src s
        (roomIds.foldl
          (fun s r =>
            if (s.room r).unitAddress ≠ 0 ∧ (s.room r).stale = false ∧ w ≤ s.roomAge r then
              s.roomStale r else s)
          { s with general := { s.general with roomStaleTime := w } }) v w)

/-- Fdef and the supply stale time in PASSIVE mode. A stale record takes the new Fdef as its allowance at
once; a fresh one keeps its allowance. A supply stale time moves both expiries: the report temperature is
young while its age is below it (assumption 10), and a fresh record that has reached it becomes stale at
once, with its notice. No recompute runs in this mode. -/
def Parts.SupplyWritesTaken : Prop :=
  ∀ (src : Byte) (v : Int) (s : State), s.Takes → s.mode = .passive →
    (∀ w : Nat, (w : Int) = max 0 (min v 2000) →
      (s.supply.stale = true → Stores (.fdefWrite src v) src s
        { s with
          general := { s.general with fdef := w }, supply := { s.supply with allowance := w } }
        v w) ∧
      (s.supply.stale = false → Stores (.fdefWrite src v) src s
        { s with general := { s.general with fdef := w } } v w)) ∧
    (∀ w : Nat, (w : Int) = max 120 (min v 3600) →
      ((s.supply.stale = true ∨ min 65535 (s.now - s.supply.ageStart) < w) →
        Stores (.supplyStaleTimeWrite src v) src s
          { s with
            general := { s.general with supplyStaleTime := w }
            supply := { s.supply with
              young := s.supply.reportTemp.isSome &&
                decide (min 65535 (s.now - s.supply.tempStart) < w) } } v w) ∧
      ((s.supply.stale = false ∧ w ≤ min 65535 (s.now - s.supply.ageStart)) →
        Stores (.supplyStaleTimeWrite src v) src s
          { s with
            general := { s.general with supplyStaleTime := w }
            supply := { s.supply with
              stale := true, allowance := s.general.fdef, source := .run
              young := s.supply.reportTemp.isSome &&
                decide (min 65535 (s.now - s.supply.tempStart) < w) }
            notices := s.notices.raise .supplyStale none none } v w))

/-- The fields of GENERAL that reach the probes, the rooms and the supply record. -/
def Obligations.StaleTimesWritten : Prop :=
  Parts.ProbeAndRoomStaleTimesWritten ∧ Parts.SupplyWritesTaken

/-- R119, R120: each field of a rule, in every mode. Codes and match fields outside their range are
refused RANGE and change nothing; the count is clamped; hits store 0 whatever the value. Every taken
write sets the hits to 0, and only the field written changes otherwise. -/
def Obligations.RuleFieldWritten : Prop :=
  ∀ (src : Byte) (r : Fin 24) (v : Int) (s : State), s.Takes →
    (¬(0 ≤ v ∧ v ≤ 1) → Answers (.ruleFieldWrite src r .valid v) src 0x02 s s .range) ∧
    (∀ b : Bool, v = b.toNat → Stores (.ruleFieldWrite src r .valid v) src s
      (s.setRule r { s.rule r with valid := b, hits := 0 }) v v) ∧
    (¬(0 ≤ v ∧ v ≤ 2) → Answers (.ruleFieldWrite src r .direction v) src 0x02 s s .range) ∧
    (∀ d : Machine.Direction, v = d.code → Stores (.ruleFieldWrite src r .direction v) src s
      (s.setRule r { s.rule r with direction := d, hits := 0 }) v v) ∧
    (¬(0 ≤ v ∧ v ≤ 3) → Answers (.ruleFieldWrite src r .action v) src 0x02 s s .range) ∧
    (∀ a : FilterAction, v = a.code → Stores (.ruleFieldWrite src r .action v) src s
      (s.setRule r { s.rule r with action := a, hits := 0 }) v v) ∧
    (¬(-1 ≤ v ∧ v ≤ 255) →
      Answers (.ruleFieldWrite src r .kind v) src 0x02 s s .range ∧
      Answers (.ruleFieldWrite src r .selector v) src 0x02 s s .range) ∧
    (¬(-1 ≤ v ∧ v ≤ 127) →
      Answers (.ruleFieldWrite src r .source v) src 0x02 s s .range ∧
      Answers (.ruleFieldWrite src r .destination v) src 0x02 s s .range) ∧
    (∀ m : Option Nat, v = natOrNone m →
      ((∀ n, m = some n → n ≤ 255) →
        Stores (.ruleFieldWrite src r .kind v) src s
          (s.setRule r { s.rule r with kind := m, hits := 0 }) v v ∧
        Stores (.ruleFieldWrite src r .selector v) src s
          (s.setRule r { s.rule r with selector := m, hits := 0 }) v v) ∧
      ((∀ n, m = some n → n ≤ 127) →
        Stores (.ruleFieldWrite src r .source v) src s
          (s.setRule r { s.rule r with source := m, hits := 0 }) v v ∧
        Stores (.ruleFieldWrite src r .destination v) src s
          (s.setRule r { s.rule r with destination := m, hits := 0 }) v v)) ∧
    (∀ w : Nat, (w : Int) = max 0 (min v 255) → Stores (.ruleFieldWrite src r .count v) src s
      (s.setRule r { s.rule r with count := w, hits := 0 }) v w) ∧
    Stores (.hitsWrite src r v) src s (s.setRule r { s.rule r with hits := 0 }) 0 0

/-- A write of a port counter, at index 0 for port H and 1 for port M, sets it to 0 whatever the value
and is answered DONE, in every mode; so does a write of a rejected count at index 1. No other counter
changes. -/
def Obligations.CounterWritten : Prop :=
  ∀ (src : Byte) (p : PortId) (v : Int) (s : State), s.Takes →
    let k := s.port p
    let c := k.counters
    Stores (.counterWrite src (portCode p) .forwarded v) src s
      (s.setPort p { k with counters := { c with forwarded := 0 } }) 0 0 ∧
    Stores (.counterWrite src (portCode p) .damaged v) src s
      (s.setPort p { k with counters := { c with damaged := 0 } }) 0 0 ∧
    Stores (.counterWrite src (portCode p) .consecutiveDamaged v) src s
      (s.setPort p { k with counters := { c with consecutiveDamaged := 0 } }) 0 0 ∧
    Stores (.counterWrite src (portCode p) .overflow v) src s
      (s.setPort p { k with counters := { c with overflow := 0 } }) 0 0 ∧
    Stores (.counterWrite src (portCode p) .malformed v) src s
      (s.setPort p { k with counters := { c with malformed := 0 } }) 0 0 ∧
    Stores (.counterWrite src (portCode p) .strayEcho v) src s
      (s.setPort p { k with counters := { c with strayEcho := 0 } }) 0 0 ∧
    Stores (.counterWrite src (portCode p) .unmatched v) src s
      (s.setPort p { k with counters := { c with unmatched := 0 } }) 0 0 ∧
    (∀ e : Fin 32, Stores (.counterWrite src 1 (.rejected e) v) src s
      (s.setProbe e { s.probe e with rejected := 0 }) 0 0)

/-! ## Enabling, disabling, modes (01, 10) -/

/-- ENABLE LOOP (R10): the first check that fails gives the outcome, and the part is left as it was. That a
head order which a restart left behind on the line neither answers BUSY nor makes a CONFLICT is
assumption 13. -/
def Parts.EnableChecked : Prop :=
  ∀ (src : Byte) (i : Fin 16) (s : State), s.Takes →
    ((s.mode = .halting ∨ s.mode = .test) →
      Answers (.enableLoop src i) src 0x03 s s .busy) ∧
    ((s.mode = .passive ∨ s.mode = .active) →
      ((s.loop i).state ≠ .disabled → Answers (.enableLoop src i) src 0x03 s s .done) ∧
      ((s.loop i).state = .disabled →
        (s.OrderUnderWay i → Answers (.enableLoop src i) src 0x03 s s .busy) ∧
        (¬s.OrderUnderWay i →
          (((s.loop i).room = none ∨
              ¬(1 ≤ (s.loop i).driverAddress ∧ (s.loop i).driverAddress ≤ 126)) →
            Answers (.enableLoop src i) src 0x03 s s .state) ∧
          ((s.loop i).room ≠ none → 1 ≤ (s.loop i).driverAddress →
            (s.loop i).driverAddress ≤ 126 →
            (∃ j, j ≠ i ∧ (s.loop j).driverAddress = (s.loop i).driverAddress ∧
              (s.loop j).headChannel = (s.loop i).headChannel ∧
              ((s.loop j).state ≠ .disabled ∨ s.OrderUnderWay j)) →
            Answers (.enableLoop src i) src 0x03 s s .conflict))))

/-- ENABLE LOOP that passes the checks (R11): the loop leaves the wait list, its status fields take their
values after ENABLE, it enters STANDBY in PASSIVE mode and SHED or RUNNING in ACTIVE mode with its first
boundary, the allocation is recomputed in ACTIVE mode, and the PROBE condition is evaluated. Static and
dynamic fields stay. That the recompute comes before the evaluation is assumption 8, that a head order
which a restart left behind does not refuse the ENABLE is assumption 13, and that the first boundary may
fall at the moment of the ENABLE itself is assumption 18. -/
def Parts.EnableTaken : Prop :=
  ∀ (src : Byte) (i : Fin 16) (s : State), s.Takes →
    (s.mode = .passive ∨ s.mode = .active) → (s.loop i).state = .disabled →
    ¬s.OrderUnderWay i → (s.loop i).room ≠ none →
    1 ≤ (s.loop i).driverAddress → (s.loop i).driverAddress ≤ 126 →
    (∀ j, j ≠ i → (s.loop j).driverAddress = (s.loop i).driverAddress →
      (s.loop j).headChannel = (s.loop i).headChannel →
      (s.loop j).state = .disabled ∧ ¬s.OrderUnderWay j) →
    let fresh : Loop := { s.loop i with
      causes := ⟨false, false, false⟩, activeDuty := 0, bufferedDuty := 0, pendingFlag := false
      request := 0, grant := 0, head := .idleUnknown, lastAction := none, cooling := none
      accSum := 0, accCount := 0, misses := 0, goodRun := 0, starvedRun := 0, achieved := 0
      probeHeld := s.probeHeldNow i, wanted := none, onTime := 0, openPhase := false
      openCount := 0, inCycle := false, nextBoundary := none, settle := .stopped
      echoDue := none }
    let left := { s with waits := s.waits.filter (·.loop != i) }
    (s.mode = .passive →
      Answers (.enableLoop src i) src 0x03 s
        ((left.setLoop i { fresh with state := .standby }).addProbeCause i) .done) ∧
    (s.mode = .active →
      Answers (.enableLoop src i) src 0x03 s
        (((left.setLoop i { fresh with
          state := if s.inShedRange i = true then .shed else .running
          nextBoundary := s.firstBoundary i }).recompute).addProbeCause i) .done)

/-- ENABLE LOOP, refused and taken. -/
def Obligations.LoopEnabled : Prop :=
  Parts.EnableChecked ∧ Parts.EnableTaken

/-- DISABLE LOOP (R12): BUSY in HALTING and TEST modes; DONE with no change on a DISABLED loop; else the
record is cleared, the loop leaves the wait list, a RUNNING, SHED or FAULT loop sets off a recompute in
ACTIVE mode, and in ACTIVE mode RELEASE is wanted and placed. Causes, echo counts, ΔTm and head state are
kept by the clearing. A head in ENERGISE-WAIT leaves the wait list in the placing of the RELEASE. -/
def Obligations.LoopDisabled : Prop :=
  ∀ (src : Byte) (i : Fin 16) (s : State), s.Takes →
    ((s.mode = .halting ∨ s.mode = .test) →
      Answers (.disableLoop src i) src 0x04 s s .busy) ∧
    ((s.mode = .passive ∨ s.mode = .active) →
      ((s.loop i).state = .disabled → Answers (.disableLoop src i) src 0x04 s s .done) ∧
      ((s.loop i).state ≠ .disabled →
        let cleared : Loop := { s.loop i with
          state := .disabled, request := 0, grant := 0, activeDuty := 0, bufferedDuty := 0
          pendingFlag := false, accSum := 0, accCount := 0, onTime := 0, openPhase := false
          inCycle := false, nextBoundary := none }
        (s.mode = .passive →
          Answers (.disableLoop src i) src 0x04 s
            (({ s with waits := s.waits.filter (·.loop != i) }).setLoop i cleared) .done) ∧
        (s.mode = .active →
          let left := if (s.loop i).head = .energiseWait then s
            else { s with waits := s.waits.filter (·.loop != i) }
          ((s.loop i).state ∈ [.running, .shed, .fault] →
            Answers (.disableLoop src i) src 0x04 s
              ((left.setLoop i cleared).recompute.want i .release false) .done) ∧
          ((s.loop i).state ∉ [.running, .shed, .fault] →
            Answers (.disableLoop src i) src 0x04 s
              ((left.setLoop i cleared).want i .release false) .done))))

/-- SET MODE (R140, R141): the outcome by the present mode; START from PASSIVE with a loop enabled;
HALTING from ACTIVE, which passes to PASSIVE in the same event when every enabled loop is STANDBY and
nothing is left to send; any other requested value refused RANGE. -/
def Obligations.ModeSet : Prop :=
  ∀ (src : Byte) (n : Nat) (s : State), s.Takes →
    (n ≠ 0 → n ≠ 1 → Answers (.setMode src n) src 0x05 s s .range) ∧
    (n = 1 →
      (s.mode = .passive → (∀ i, (s.loop i).state = .disabled) →
        Answers (.setMode src n) src 0x05 s s .state) ∧
      (s.mode = .passive → (∃ i, (s.loop i).state ≠ .disabled) →
        Answers (.setMode src n) src 0x05 s s.start .done) ∧
      (s.mode = .active → Answers (.setMode src n) src 0x05 s s .done) ∧
      ((s.mode = .halting ∨ s.mode = .test) → Answers (.setMode src n) src 0x05 s s .busy)) ∧
    (n = 0 →
      ((s.mode = .passive ∨ s.mode = .halting) →
        Answers (.setMode src n) src 0x05 s s .done) ∧
      (s.mode = .test → Answers (.setMode src n) src 0x05 s s .busy) ∧
      (s.mode = .active →
        ((s.headsQuiet = true ∧ ∀ i, (s.loop i).state = .disabled ∨ (s.loop i).state = .standby) →
          Answers (.setMode src n) src 0x05 s { s with mode := .passive, t0 := none } .done) ∧
        (¬(s.headsQuiet = true ∧
            ∀ i, (s.loop i).state = .disabled ∨ (s.loop i).state = .standby) →
          Answers (.setMode src n) src 0x05 s { s with mode := .halting } .done)))

/-- START (R140, R13, R89, R95): ACTIVE mode with t0 the present moment; each STANDBY loop is in FAULT
where it holds a cause, else in SHED or RUNNING by the effective shed level, without a request, a grant or
a wanted action, its head and orders as they were, its first boundary at t0 + (phase mod T), or a cycle
later where that is t0. Its active duty is 0, and so is its buffered duty but for a FAULT loop out of the
shed range, which the recompute gives its fallback duty. LOOP FAULT is raised for each loop to which the
PROBE cause is added, in ascending index, and nothing else is raised; one recompute follows the placing,
which finds no request and so is not short. Every other table, queue and record is left. That START adds
the PROBE cause where the condition holds and takes it out of no loop is assumption 26. -/
def Obligations.StartPlacesLoops : Prop :=
  ∀ s : State, s.mode = .passive → s.ModesConsistent → s.IdleLoopsWithoutDuty →
    0 < s.general.cycleLength →
    s.start.mode = .active ∧ s.start.t0 = some s.now ∧ s.start.orders = s.orders ∧
    s.start.waits = s.waits ∧ s.start.portH = s.portH ∧ s.start.portM = s.portM ∧
    s.start.general = s.general ∧ s.start.classes = s.classes ∧ s.start.profiles = s.profiles ∧
    s.start.rooms = s.rooms ∧ s.start.probes = s.probes ∧ s.start.supply = s.supply ∧
    s.start.rules = s.rules ∧ s.start.pattern = s.pattern ∧ s.start.sweep = s.sweep ∧
    s.start.answer = s.answer ∧ s.start.lock = s.lock ∧ s.start.now = s.now ∧
    s.start.strap = s.strap ∧ s.start.pending = s.pending ∧
    (let joins := fun i : Fin 16 => (s.loop i).state = .standby ∧ s.probeCondition i = true ∧
        (s.loop i).causes.probe = false
      let placed : State := { s with
        mode := .active, t0 := some s.now
        notices := (loopIds.filter fun i => joins i).foldl
          (fun q i => q.raise .loopFault (some i.val)
            (some (CauseSet.code ⟨(s.loop i).causes.silent, (s.loop i).causes.damage, true⟩ : Int)))
          s.notices
        loops := Vector.ofFn fun i =>
          if (s.loop i).state = .standby then
            let causes : CauseSet := ⟨(s.loop i).causes.silent, (s.loop i).causes.damage,
              (s.loop i).causes.probe || s.probeCondition i⟩
            { s.loop i with
              causes := causes
              state := if causes ≠ ⟨false, false, false⟩ then .fault
                else if s.inShedRange i = true then .shed else .running
              wanted := none, onTime := 0, openPhase := false, openCount := 0, inCycle := false
              nextBoundary := some (s.boundaryFrom i s.now (s.now + 1)) }
          else s.loop i }
      s.start = placed.recompute ∧ s.start.notices = placed.notices) ∧
    s.start.alloc.budget = 4096 * s.supply.allowance ∧ s.start.alloc.committed = 0 ∧
    s.start.alloc.scaledLevel = none ∧ s.start.alloc.short = false ∧
    s.start.alloc.reservation = (loopIds.map fun i =>
      if (s.start.loop i).state = .fault ∧ s.inShedRange i = false then
        (s.loop i).fallbackDuty * (s.loop i).weight else 0).sum ∧
    s.start.alloc.bavail = s.start.alloc.budget - s.start.alloc.reservation ∧
    (∀ i, (s.loop i).state = .disabled → s.start.loop i = s.loop i) ∧
    ∀ i, (s.loop i).state = .standby →
      let l := s.start.loop i
      (l.state = .fault ↔ l.causes.isEmpty = false) ∧
      (l.causes.isEmpty = true →
        (l.state = .shed ↔ s.inShedRange i = true) ∧
        (l.state = .running ↔ s.inShedRange i = false)) ∧
      l.causes.silent = (s.loop i).causes.silent ∧ l.causes.damage = (s.loop i).causes.damage ∧
      l.causes.probe = ((s.loop i).causes.probe || s.probeCondition i) ∧
      l.head = (s.loop i).head ∧ l.wanted = none ∧ l.request = 0 ∧ l.grant = 0 ∧
      l.activeDuty = 0 ∧
      l.bufferedDuty = (if l.state = .fault ∧ s.inShedRange i = false
        then (s.loop i).fallbackDuty else 0) ∧
      (l.pendingFlag = true ↔ l.bufferedDuty ≠ 0) ∧ l.openCount = 0 ∧ l.inCycle = false ∧
      l.onTime = 0 ∧ l.openPhase = false ∧
      l.nextBoundary = some (s.now + (if (s.loop i).phase % s.general.cycleLength = 0
        then s.general.cycleLength else (s.loop i).phase % s.general.cycleLength))

/-- SET LOCK sets and clears the lock in every mode, under the lock too, and refuses any other value
RANGE; RESTART is answered DONE and does nothing else when it is taken. -/
def Obligations.LockSetAndRestartAnswered : Prop :=
  ∀ (src : Byte) (n : Nat) (s : State), s.NothingToBegin → s.answer = none →
    Answers (.setLock src 1) src 0x08 s { s with lock := true } .done ∧
    Answers (.setLock src 0) src 0x08 s { s with lock := false } .done ∧
    (n ≠ 0 → n ≠ 1 → Answers (.setLock src n) src 0x08 s s .range) ∧
    Answers (.restartRequest src) src 0x0B s s .done

/-- TAKE NOTICE (R153): EMPTY while the notice address is not 0 or no entry waits; else the oldest entry
not in transmission is removed and answered as the six data bytes of a NOTICE with the overflow flag,
which is then cleared. -/
def Obligations.NoticeTaken : Prop :=
  ∀ (src : Byte) (s : State), s.NothingToBegin → s.answer = none →
    ((s.general.noticeAddress ≠ 0 ∨ ∀ e ∈ s.notices.entries, e.inTransmission = true) →
      Answers (.takeNotice src) src 0x09 s s .empty) ∧
    (∀ (before after : List NoticeEntry) (e : NoticeEntry),
      s.general.noticeAddress = 0 → s.notices.entries = before ++ e :: after →
      (∀ x ∈ before, x.inTransmission = true) → e.inTransmission = false →
        exec (.takeNotice src) s = .next (({ s with notices :=
          { s.notices with entries := before ++ after, overflow := false } }).putAnswer src 0x09
          .done (noticeBytes e s.notices.overflow))) ∧
    (∀ (kind : NoticeKind) (subject : Option Nat) (count : Nat) (value : Option Int)
        (sending overflow : Bool),
      noticeBytes ⟨kind, subject, count, value, sending⟩ overflow =
        [BitVec.ofNat 8 kind.code, BitVec.ofNat 8 (subject.getD 255), BitVec.ofNat 8 count,
          BitVec.ofNat 8 ((if value.isSome = true then 1 else 0) + 2 * overflow.toNat),
          (BitVec.ofInt 16 (value.getD 0)).extractLsb' 8 8,
          (BitVec.ofInt 16 (value.getD 0)).extractLsb' 0 8])

/-! ## Patterns (09) -/

/-- START PATTERN (R129): STATE outside PASSIVE mode; RANGE for an unknown pattern, a loop that is none
or is not enabled; STATE for a SWEEP with no loop enabled, or with Hmax or more NO loops enabled; else the
pattern starts with its arguments clamped, answered CLAMPED where one was altered. -/
def Parts.PatternChecked : Prop :=
  ∀ (src : Byte) (s : State), s.Takes →
    (s.mode ≠ .passive → ∀ request,
      Answers (.startPattern src request) src 0x06 s s .state) ∧
    (s.mode = .passive →
      (∀ code, Answers (.startPattern src (.other code)) src 0x06 s s .range) ∧
      (∀ loop toggles interval, (∀ i : Fin 16, i.val = loop → (s.loop i).state = .disabled) →
        Answers (.startPattern src (.identify loop toggles interval)) src 0x06 s s .range) ∧
      (∀ (i : Fin 16) (toggles interval : Nat), (s.loop i).state ≠ .disabled →
        Answers (.startPattern src (.identify i toggles interval)) src 0x06 s
          (s.startIdentify i (max 1 (min toggles 20)) (max 30 (min interval 600)))
          (if max 1 (min toggles 20) = toggles ∧ max 30 (min interval 600) = interval
            then .done else .clamped)) ∧
      (∀ dwell threshold,
        ((∀ i, (s.loop i).state = .disabled) ∨
          s.general.hmax ≤ (loopIds.filter fun i =>
            (s.loop i).state ≠ .disabled ∧ (s.profileOf i).polarity = .no).length →
          Answers (.startPattern src (.sweep dwell threshold)) src 0x06 s s .state) ∧
        ((∃ i, (s.loop i).state ≠ .disabled) →
          (loopIds.filter fun i =>
            (s.loop i).state ≠ .disabled ∧ (s.profileOf i).polarity = .no).length <
              s.general.hmax →
          Answers (.startPattern src (.sweep dwell threshold)) src 0x06 s
            (s.startSweep (max 300 (min dwell 3600)) (max 32 (min threshold 320)))
            (if max 300 (min dwell 3600) = dwell ∧ max 32 (min threshold 320) = threshold
              then .done else .clamped))))

/-- What a pattern's start leaves (R129, R130, R136): TEST mode, every STANDBY loop TESTING with its cause
set, the record with pattern and arguments and no toggle done; IDENTIFY opens the named loop and leaves
the sweep table, SWEEP clears it. No other loop's head moves at the start of an IDENTIFY. IDENTIFY enters
the stage OPENING on the named loop, with its opening action wanted and placed (R132); SWEEP enters
CLOSING ALL without a subject, with the closing action of each TESTING loop wanted and placed in ascending
index (R133); the first settlement may follow at once (R131). -/
def Parts.PatternStartLeaves : Prop :=
  ∀ (s : State) (k : Fin 16) (a b : Nat), s.mode = .passive →
    (∀ t, (t = s.startIdentify k a b ∨ t = s.startSweep a b) →
      t.mode = .test ∧ t.pattern.togglesDone = 0 ∧ t.rules = s.rules ∧ t.rooms = s.rooms ∧
      t.probes = s.probes ∧ t.supply = s.supply ∧ t.alloc = s.alloc ∧ t.notices = s.notices ∧
      ∀ i, (t.loop i).state =
          (if (s.loop i).state = .standby then .testing else (s.loop i).state) ∧
        (t.loop i).causes = (s.loop i).causes) ∧
    (s.startIdentify k a b).pattern.kind = .identify ∧
    (s.startIdentify k a b).pattern.subject = some k ∧
    ((s.startIdentify k a b).pattern.arg1, (s.startIdentify k a b).pattern.arg2,
      (s.startIdentify k a b).pattern.arg3) = (k.val, a, b) ∧
    ((s.startIdentify k a b).loop k).wanted = some (s.openingAction k) ∧
    (s.startIdentify k a b).sweep = s.sweep ∧
    (∀ i, i ≠ k → ((s.startIdentify k a b).loop i).head = (s.loop i).head) ∧
    (s.startSweep a b).pattern.kind = .sweep ∧ (s.startSweep a b).pattern.subject = none ∧
    ((s.startSweep a b).pattern.arg1, (s.startSweep a b).pattern.arg2,
      (s.startSweep a b).pattern.arg3) = (a, b, 0) ∧
    (∀ i, (s.startSweep a b).sweepResult i = ⟨.none, none, none⟩) ∧
    (∀ i, (s.loop i).state = .standby ∨ (s.loop i).state = .testing →
      ((s.startSweep a b).loop i).wanted = some (s.closingAction i)) ∧
    (let testing : State := { s with
        mode := .test
        loops := Vector.ofFn fun i => { s.loop i with
          state := if (s.loop i).state = .standby then .testing else (s.loop i).state } }
      let identifying : State := { testing with pattern := { s.pattern with
        kind := .identify, arg1 := k.val, arg2 := a, arg3 := b, togglesDone := 0 } }
      let sweeping : State := { testing with
        sweep := Vector.ofFn fun _ => ⟨.none, none, none⟩
        pattern := { s.pattern with
          kind := .sweep, arg1 := a, arg2 := b, arg3 := 0, togglesDone := 0
          stage := .closingAll, subject := none, intervalDue := none } }
      s.startIdentify k a b = identifying.driveStage .opening k (s.openingAction k) ∧
      s.startSweep a b = ((loopIds.filter fun i =>
        (s.loop i).state = .standby ∨ (s.loop i).state = .testing).foldl
          (fun u i => u.want i (s.closingAction i) false) sweeping).patternSettle)

/-- START PATTERN, refused and taken. -/
def Obligations.PatternStarted : Prop :=
  Parts.PatternChecked ∧ Parts.PatternStartLeaves

/-- STOP PATTERN (R137): STATE in ACTIVE and HALTING modes; DONE with no change in PASSIVE mode and in a
wind-down; else the pattern ends as STOPPED. -/
def Parts.StopAnswered : Prop :=
  ∀ (src : Byte) (s : State), s.Takes →
    ((s.mode = .active ∨ s.mode = .halting) →
      Answers (.stopPattern src) src 0x07 s s .state) ∧
    ((s.mode = .passive ∨ s.mode = .test ∧ s.pattern.stage = .windingDown) →
      Answers (.stopPattern src) src 0x07 s s .done) ∧
    (s.mode = .test → s.pattern.stage ≠ .idle → s.pattern.stage ≠ .windingDown →
      Answers (.stopPattern src) src 0x07 s (s.endPattern .stopped) .done)

/-- The ending of a pattern (R137): RELEASE is wanted of every TESTING loop, which returns to STANDBY with
its cause set; the last ending is written and no interval runs; the stage is WINDING DOWN in TEST mode
while something is left to send or a TESTING loop was RELEASE-SENT, whose RELEASE waits for that echo
(assumption 29), and otherwise the mode is PASSIVE, the pattern NONE, the stage IDLE, and PATTERN DONE is
raised with 0 for COMPLETED and 1 for STOPPED. The arguments and the toggles done stay (assumption 32). -/
def Parts.PatternEnded : Prop :=
  ∀ (s : State) (ending : Ending), s.mode = .test → ending ≠ .none →
    let t := s.endPattern ending
    let held := fun i : Fin 16 => (s.loop i).state = .testing ∧ (s.loop i).head = .releaseSent
    t.pattern.arg1 = s.pattern.arg1 ∧ t.pattern.arg2 = s.pattern.arg2 ∧
    t.pattern.arg3 = s.pattern.arg3 ∧ t.pattern.togglesDone = s.pattern.togglesDone ∧
    t.pattern.lastEnding = ending ∧ t.pattern.subject = none ∧ t.pattern.intervalDue = none ∧
    t.sweep = s.sweep ∧
    (∀ i, (s.loop i).state = .testing →
      (t.loop i).state = .standby ∧ (t.loop i).wanted = some .release ∧
      (t.loop i).causes = (s.loop i).causes) ∧
    (∀ i, (s.loop i).state ≠ .testing → t.loop i = s.loop i) ∧
    ((t.headsQuiet = false ∨ ∃ i, held i) → t.mode = .test ∧ t.pattern.kind = s.pattern.kind ∧
      t.pattern.stage = .windingDown ∧ t.notices = s.notices ∧
      ∀ i, t.pattern.heldBy.get i = true ↔ held i) ∧
    ((t.headsQuiet = true ∧ ∀ i, ¬held i) → t.mode = .passive ∧ t.pattern.kind = .none ∧
      t.pattern.stage = .idle ∧ t.notices = s.notices.raise .patternDone none
        (some (if ending = .stopped then 1 else 0)))

/-- STOP PATTERN and what any ending of a pattern does. -/
def Obligations.PatternStopped : Prop :=
  Parts.StopAnswered ∧ Parts.PatternEnded

/-! ## Transmissions (07, 06, 11) -/

/-- A free transmitter takes by its precedence (R112 to R114): port H the answer first, then the oldest
telegram of its pass queue, then the oldest notice entry; port M the oldest head order, outside PASSIVE
mode, then the oldest telegram of its pass queue. The part's own telegrams are composed then, from the
part's address, with the byte sum zero (R97, R152). -/
def Parts.BeginsByPrecedence : Prop :=
  ∀ s : State,
    (∀ a : Answer, s.portH.tx = none → s.answer = some a → a.begun = false →
      ∃ t : Telegram, ¬(t.dst + t.src + t.kind + BitVec.ofNat 8 t.data.length +
          t.data.foldl (· + ·) 0 + t.check ≠ 0) ∧
        t.dst = a.dst ∧ t.src.toNat = s.address ∧ t.kind = 0x52 ∧
        t.data = a.code :: BitVec.ofNat 8 a.outcome.code :: a.content ∧
        exec (.transmissionBegin .h) s = .next { s with
          answer := some { a with begun := true }
          portH := { s.portH with tx := some (.answer t) } }) ∧
    (∀ (t : Telegram) (rest : List Telegram), s.portH.tx = none →
      (∀ a, s.answer = some a → a.begun = true) → s.portH.queue = t :: rest →
      exec (.transmissionBegin .h) s = .next { s with
        portH := { s.portH with tx := some (.forward t false), queue := rest } }) ∧
    (∀ (t : Telegram) (rest : List Telegram), s.portM.tx = none →
      (s.mode = .passive ∨ s.orders = []) → s.portM.queue = t :: rest →
      exec (.transmissionBegin .m) s = .next { s with
        portM := { s.portM with tx := some (.forward t false), queue := rest } }) ∧
    (∀ (o : HeadOrder) (rest : List HeadOrder), s.portM.tx = none → s.mode ≠ .passive →
      s.orders = o :: rest →
      ∃ t : Telegram, ¬(t.dst + t.src + t.kind + BitVec.ofNat 8 t.data.length +
          t.data.foldl (· + ·) 0 + t.check ≠ 0) ∧
        t.dst = BitVec.ofNat 8 (s.loop o.loop).driverAddress ∧ t.src.toNat = s.address ∧
        t.kind = 0x32 ∧
        t.data = [BitVec.ofNat 8 (s.loop o.loop).headChannel,
          if o.action = .energise then 1 else 0] ∧
        exec .headOrderTransmissionBegin s = .next (({ s with
          orders := rest
          portM := { s.portM with tx := some (.headOrder o.loop o.action t false) } }).setLoop
            o.loop { s.loop o.loop with lastAction := some o.action })) ∧
    (∀ (e : NoticeEntry) (rest : List NoticeEntry), s.portH.tx = none →
      (∀ a, s.answer = some a → a.begun = true) → s.portH.queue = [] →
      s.general.noticeAddress ≠ 0 → s.notices.spacingDue = none →
      s.notices.entries = e :: rest → e.inTransmission = false →
      ∃ t : Telegram, ¬(t.dst + t.src + t.kind + BitVec.ofNat 8 t.data.length +
          t.data.foldl (· + ·) 0 + t.check ≠ 0) ∧
        t.dst = BitVec.ofNat 8 s.general.noticeAddress ∧ t.src.toNat = s.address ∧
        t.kind = 0x61 ∧ t.data = noticeBytes e s.notices.overflow ∧
        exec .noticeTransmissionBegin s = .next { s with
          portH := { s.portH with tx := some (.notice t) }
          notices := { s.notices with
            entries := { e with inTransmission := true, count := 0 } :: rest
            overflow := false } })

/-- A transmitter that is busy, and the head-order list in PASSIVE mode, begin nothing (R112, R142). -/
def Parts.NothingBeginsOutOfTurn : Prop :=
  ∀ s : State,
    (∀ p, (s.port p).tx ≠ none → exec (.transmissionBegin p) s = .next s) ∧
    (s.portM.tx ≠ none → exec .headOrderTransmissionBegin s = .next s) ∧
    (s.portH.tx ≠ none → exec .noticeTransmissionBegin s = .next s) ∧
    (s.mode = .passive → exec .headOrderTransmissionBegin s = .next s) ∧
    (s.portM.tx = none → s.mode ≠ .passive → s.orders ≠ [] →
      exec (.transmissionBegin .m) s = .next s) ∧
    (∀ a, s.answer = some a → a.begun = false → exec .noticeTransmissionBegin s = .next s) ∧
    (s.portH.queue ≠ [] → exec .noticeTransmissionBegin s = .next s)

/-- A transmitter that is free begins at once (R112, R116): every command but the beginnings themselves and
POWER_ON finds the part as the four beginnings leave it, each with its own precedence and without effect
where it is not due, and then nothing is due to begin. So a telegram that has come to a free transmitter
is begun before any other event, whatever joins after it. The statements about the other commands are
made where nothing is due to begin; this one carries them to every other state. That all that one event
adds is there when the transmitter takes is assumption 28. -/
def Parts.BeginsComeFirst : Prop :=
  ∀ (c : Instr) (s : State), (∀ p, c ≠ .transmissionBegin p) → c ≠ .headOrderTransmissionBegin →
    c ≠ .noticeTransmissionBegin → (∀ b, c ≠ .powerOn b) →
    ∃ x y z t : State, exec (.transmissionBegin .h) s = .next x ∧
      exec .noticeTransmissionBegin x = .next y ∧ exec .headOrderTransmissionBegin y = .next z ∧
      exec (.transmissionBegin .m) z = .next t ∧ t = s.beginAll ∧ t.NothingToBegin ∧
      exec c s = exec c t ∧ (s.NothingToBegin → t = s)

/-- What begins on each port, what does not (assumption 3 for a beginning that is not due), and that what
is due begins before any other event. -/
def Obligations.TransmissionsBegin : Prop :=
  Parts.BeginsByPrecedence ∧ Parts.NothingBeginsOutOfTurn ∧ Parts.BeginsComeFirst

/-- Completions (R97, R98, R113, R114, R143, R152): the transmitter is free; a forwarded telegram is
counted, modulo 65536; the answer buffer is empty; a notice entry into which nothing merged leaves, one
into which something merged stays, and the spacing interval runs 2 s; a head order awaits its echo for
2 s and a RELEASE returns its slot, after which the halting and wind-down conditions are checked. A
transmission that a restart left behind frees the transmitter and changes no loop and no counter (R104,
R117); that the completion of a head order so left behind still checks those conditions is assumption 13. -/
def Parts.Completions : Prop :=
  ∀ s : State, s.NothingToBegin →
    (∀ (p : PortId) (t : Telegram), (s.port p).tx = some (.forward t false) →
      exec (.forwardTransmissionComplete p) s = .next (s.setPort p { s.port p with
        tx := none
        counters := { (s.port p).counters with
          forwarded := ((s.port p).counters.forwarded + 1) % 65536 } })) ∧
    (∀ (p : PortId) (t : Telegram), (s.port p).tx = some (.forward t true) →
      exec (.forwardTransmissionComplete p) s =
        .next (s.setPort p { s.port p with tx := none })) ∧
    (∀ (t : Telegram) (e : NoticeEntry) (rest : List NoticeEntry),
      s.portH.tx = some (.notice t) → s.notices.entries = e :: rest → e.inTransmission = true →
      (∀ x ∈ rest, x.inTransmission = false) →
      exec .noticeTransmissionComplete s = .next { s with
        portH := { s.portH with tx := none }
        notices := { s.notices with
          entries := if e.count = 0 then rest else { e with inTransmission := false } :: rest
          spacingDue := some (s.now + 2) } }) ∧
    (∀ (t : Telegram) (a : Answer), s.portH.tx = some (.answer t) → s.answer = some a →
      ¬(a.code = 0x0B ∧ a.outcome = .done) →
      exec .answerTransmissionComplete s = .next { s with
        portH := { s.portH with tx := none }, answer := none }) ∧
    (∀ (i : Fin 16) (a : Machine.Action) (t : Telegram),
      s.portM.tx = some (.headOrder i a t false) →
      let freed : State := { s with portM := { s.portM with tx := none } }
      let sent : State := freed.setLoop i { s.loop i with
        head := if a = .energise then .energiseSent else .releaseSent
        settle := .stopped, echoDue := some (s.now + 2) }
      exec .headOrderTransmissionComplete s = .next
        (if a = .energise then sent else sent.grantSlot).checkHalting.checkWindDown) ∧
    (∀ (i : Fin 16) (a : Machine.Action) (t : Telegram),
      s.portM.tx = some (.headOrder i a t true) →
      exec .headOrderTransmissionComplete s = .next
        ({ s with portM := { s.portM with tx := none } }).checkHalting.checkWindDown)

/-- A slot that is returned is granted at once to a waiting loop, of the highest level, then the highest
group, then the lowest index (R98): it leaves the wait list, its head is pending and its order joins the
tail of the list. With nobody waiting nothing changes. That the grant takes no further look at Hmax is
assumption 22. -/
def Parts.SlotGranted : Prop :=
  ∀ s : State,
    (s.waits = [] → s.grantSlot = s) ∧
    (∀ w : WaitEntry, w ∈ s.waits → (s.waits.map (·.loop)).Nodup →
      (∀ x : WaitEntry, x ∈ s.waits → x.loop ≠ w.loop →
        (s.loop x.loop).level < (s.loop w.loop).level ∨
          ((s.loop x.loop).level = (s.loop w.loop).level ∧
            ((s.loop x.loop).group < (s.loop w.loop).group ∨
              ((s.loop x.loop).group = (s.loop w.loop).group ∧ w.loop < x.loop)))) →
      let listed : State := { s with
        waits := s.waits.filter (·.loop != w.loop)
        orders := s.orders ++ [⟨w.loop, w.action⟩] }
      s.grantSlot = listed.setLoop w.loop { s.loop w.loop with
        head := if w.action = .energise then .energisePending else .releasePending
        settle := .stopped })

/-- What the completion of a transmission does, the grant of a slot among it. -/
def Obligations.TransmissionsComplete : Prop :=
  Parts.Completions ∧ Parts.SlotGranted

/-- The completion of the DONE of a RESTART is the restart (R147): PASSIVE mode, the lock off, the answer
buffer, lists, pass queues, notice queue and pattern record empty, counters, hits, accumulators and
rejected counts 0; each loop keeps its static fields, level, group, S, ΔTm and probe-held flag, enabled
loops are STANDBY; GENERAL, classes, profiles, rooms, the probe map's configuration, values, ages and
stale flags, the supply record, the rules with their counts and the sweep table are kept; a transmission
under way on port M is sent whole. -/
def Obligations.RestartKeepsAndClears : Prop :=
  ∀ (s : State) (a : Answer) (t : Telegram), s.NothingToBegin →
    s.portH.tx = some (.answer t) → s.answer = some a → a.code = 0x0B → a.outcome = .done →
    exec .answerTransmissionComplete s = .next { s with
      mode := .passive, lock := false, t0 := none, answer := none, orders := [], waits := []
      loops := Vector.ofFn fun i => { s.loop i with
        state := if (s.loop i).state = .disabled then .disabled else .standby
        causes := ⟨false, false, false⟩, activeDuty := 0, bufferedDuty := 0, pendingFlag := false
        request := 0, grant := 0, head := .idleUnknown, lastAction := none, accSum := 0
        accCount := 0, misses := 0, goodRun := 0, starvedRun := 0, achieved := 0, wanted := none
        onTime := 0, openPhase := false, openCount := 0, inCycle := false, nextBoundary := none
        lastBoundary := none, settle := .stopped, echoDue := none }
      probes := Vector.ofFn fun e => { s.probe e with accSum := 0, accCount := 0, rejected := 0 }
      rules := Vector.ofFn fun r => { s.rule r with hits := 0 }
      alloc := ⟨0, 0, 0, 0, none, false⟩
      portH := ⟨none, [], ⟨0, 0, 0, 0, 0, 0, 0⟩⟩
      portM := ⟨s.portM.tx.map fun
        | .forward t _ => .forward t true
        | .headOrder i a t _ => .headOrder i a t true
        | .answer t => .answer t
        | .notice t => .notice t, [], ⟨0, 0, 0, 0, 0, 0, 0⟩⟩
      pattern := ⟨.none, .idle, none, 0, 0, 0, 0, .none, Vector.replicate 16 none, none,
        Vector.replicate 16 false⟩
      notices := ⟨[], false, none⟩ }

/-! ## Reception (07, 08) -/

/-- A damaged telegram (R106) changes two counters of its port, each up to 255, and nothing else but the
notice LINE NOISY, which is raised when the run passes from 7 to 8, with the port and its damaged count. -/
def Parts.DamagedTelegramCounted : Prop :=
  ∀ (p : PortId) (t : Telegram) (s : State), s.NothingToBegin → t.Damaged →
    let counted := s.setPort p { s.port p with counters := { (s.port p).counters with
      damaged := min 255 ((s.port p).counters.damaged + 1)
      consecutiveDamaged := min 255 ((s.port p).counters.consecutiveDamaged + 1) } }
    ((s.port p).counters.consecutiveDamaged ≠ 7 →
      exec (.telegramReceived p t) s = .next counted) ∧
    ((s.port p).counters.consecutiveDamaged = 7 →
      exec (.telegramReceived p t) s = .next { counted with
        notices := s.notices.raise .lineNoisy (some (if p = .h then 0 else 1))
          (some (min 255 ((s.port p).counters.damaged + 1) : Nat)) })

/-- A good telegram addressed to the part is consumed by its port and neither forwarded nor read (R107 to
R110): any kind but SETUP REQUEST and HEAD ECHO on port H, and any kind but HEAD ECHO on port M, is
counted as unmatched; a HEAD ECHO on port H is stray unless malformed; a malformed HEAD ECHO is counted
as malformed only; another on port M goes to the drive timers. -/
def Parts.AddressedTelegramConsumed : Prop :=
  ∀ (t : Telegram) (s : State), s.NothingToBegin → ¬t.Damaged → t.dst.toNat = s.address →
    (t.kind ≠ 0x51 → t.kind ≠ 0x33 →
      exec (.telegramReceived .h t) s = .next ((s.afterGood .h t).oneUnmatched .h)) ∧
    (t.kind ≠ 0x33 →
      exec (.telegramReceived .m t) s = .next ((s.afterGood .m t).oneUnmatched .m)) ∧
    (t.kind = 0x33 → t.data.length < 3 → ∀ p,
      exec (.telegramReceived p t) s = .next (s.afterGood p t)) ∧
    (t.kind = 0x33 → 3 ≤ t.data.length →
      exec (.telegramReceived .h t) s = .next ((s.afterGood .h t).oneStray .h) ∧
      exec (.telegramReceived .m t) s = .next ((s.afterGood .m t).readEcho t))

/-- What a port does with a telegram that does not reach the filter. -/
def Obligations.TelegramsJudged : Prop :=
  Parts.DamagedTelegramCounted ∧ Parts.AddressedTelegramConsumed

/-- R121 to R124: a good telegram not addressed to the part. In PASSIVE mode it is given PASS and no rule
changes. In the other modes the first rule, in ascending index, that is valid, has a count above 0 and
matches gives its action, its hits go up by one modulo 65536, and a count from 1 to 254 goes down by one,
RULE SPENT being raised with rule and hits as it passes from 1 to 0; where no rule applies the direction
default of the port of arrival gives the action. PASS forwards and reads, BLOCK reads, IGNORE forwards,
DROP does neither; the forward comes first (R110). -/
def Obligations.FilterDecides : Prop :=
  ∀ (p : PortId) (t : Telegram) (s : State), s.NothingToBegin → ¬t.Damaged →
    t.dst.toNat ≠ s.address →
    let g := s.afterGood p t
    (s.mode = .passive →
      exec (.telegramReceived p t) s = .next (g.decided p t .pass)) ∧
    (s.mode ≠ .passive →
      (∀ r : Fin 24, (s.rule r).Applies p t → (∀ q, q < r → ¬(s.rule q).Applies p t) →
        let served := g.setRule r { s.rule r with
          hits := ((s.rule r).hits + 1) % 65536
          count := if (s.rule r).count = 255 then 255 else (s.rule r).count - 1 }
        ((s.rule r).count ≠ 1 →
          exec (.telegramReceived p t) s = .next (served.decided p t (s.rule r).action)) ∧
        ((s.rule r).count = 1 →
          exec (.telegramReceived p t) s = .next
            (({ served with
              notices := s.notices.raise .ruleSpent (some r.val)
                (some (((s.rule r).hits + 1) % 65536 : Nat)) }).decided p t
                  (s.rule r).action))) ∧
      ((∀ r, ¬(s.rule r).Applies p t) →
        exec (.telegramReceived p t) s = .next (g.decided p t
          (if p = .h then s.general.directionDefaultH else s.general.directionDefaultM))))

/-- A forwarded telegram joins the tail of the pass queue it is placed in (R111). In a queue of 8 the
overflow policy drops the new telegram or the oldest, the overflow is counted up to 255, and QUEUE DROP is
raised with the port and the count. -/
def Obligations.ForwardPlaced : Prop :=
  ∀ (p : PortId) (t : Telegram) (s : State),
    ((s.port p).queue.length < 8 →
      s.placeForward p t = s.setPort p { s.port p with queue := (s.port p).queue ++ [t] }) ∧
    ((s.port p).queue.length = 8 →
      let policy := if p = .h then s.general.overflowPolicyH else s.general.overflowPolicyM
      let dropped := s.setPort p { s.port p with
        queue := if policy = .discardNew then (s.port p).queue
          else (s.port p).queue.drop 1 ++ [t]
        counters := { (s.port p).counters with
          overflow := min 255 ((s.port p).counters.overflow + 1) } }
      s.placeForward p t = { dropped with
        notices := s.notices.raise .queueDrop (some (if p = .h then 0 else 1))
          (some (min 255 ((s.port p).counters.overflow + 1) : Nat)) })

/-- A raised notice (R151) is merged into the entry of its kind and subject, whose count goes up to at
most 255 and whose value is replaced, at its place; else it joins the tail of fewer than 16 entries with
count 1; else it is lost and the overflow flag is set. -/
def Obligations.NoticeRaised : Prop :=
  ∀ (q : Notices) (kind : NoticeKind) (subject : Option Nat) (value : Option Int),
    (∀ (before after : List NoticeEntry) (e : NoticeEntry),
      q.entries = before ++ e :: after → e.kind = kind → e.subject = subject → q.Distinct →
      q.raise kind subject value = { q with entries :=
        before ++ { e with count := min 255 (e.count + 1), value := value } :: after }) ∧
    ((∀ e ∈ q.entries, ¬(e.kind = kind ∧ e.subject = subject)) →
      (q.entries.length < 16 → q.raise kind subject value = { q with entries :=
        q.entries ++ [{ kind := kind, subject := subject, count := 1, value := value
                        inTransmission := false }] }) ∧
      (16 ≤ q.entries.length → q.raise kind subject value = { q with overflow := true }))

/-! ## Reading (02, 03, 05) -/

/-- A ROOM REPORT handed to intake (R26, R27): read into the room whose nonzero unit address is its
source: a temperature from −640 to 3200 is stored, the setpoint is stored whatever it is, a mode code of
0 to 3 sets the mode, the age starts again, the stale flag is cleared, and effective setpoint and demand
are recomputed. With no such room port H's unmatched count goes up. -/
def Parts.RoomReportRead : Prop :=
  ∀ (t : Telegram) (s : State), s.UnitsUnique →
    (∀ (r : Fin 12) (a b c d m : Byte) (rest : List Byte),
      t.data = a :: b :: c :: d :: m :: rest → (s.room r).unitAddress ≠ 0 →
      (s.room r).unitAddress = t.src.toNat →
      s.readRoomReport t = s.setRoom r { s.room r with
        measured := if -640 ≤ (a ++ b : BitVec 16).toInt ∧ (a ++ b : BitVec 16).toInt ≤ 3200
          then some (a ++ b : BitVec 16).toInt else (s.room r).measured
        setpoint := some (c ++ d : BitVec 16).toInt
        mode := if m = 0 then .comfort else if m = 1 then .setback else if m = 2 then .away
          else if m = 3 then .off else (s.room r).mode
        ageStart := s.now, stale := false }.recomputed) ∧
    ((∀ r, (s.room r).unitAddress ≠ 0 → (s.room r).unitAddress ≠ t.src.toNat) →
      s.readRoomReport t = s.oneUnmatched .h)

/-- A ZONE ORDER handed to intake (R31): the enabled loop on its destination and channel sets its room's
call, off for 0 and on for 1, and the demand is recomputed when the call changes; any other call value,
or no such loop, counts as unmatched. -/
def Parts.ZoneOrderRead : Prop :=
  ∀ (t : Telegram) (c v : Byte) (rest : List Byte) (s : State),
    t.data = c :: v :: rest → s.HeadsUnshared →
    (∀ (i : Fin 16) (r : Fin 12), (s.loop i).state ≠ .disabled →
      (s.loop i).driverAddress = t.dst.toNat → (s.loop i).headChannel = c.toNat →
      (s.loop i).room = some r →
      (v.toNat ≤ 1 → (s.room r).call = (v == 1) → s.readZoneOrder t = s) ∧
      (v.toNat ≤ 1 → (s.room r).call ≠ (v == 1) →
        s.readZoneOrder t = s.setRoom r { s.room r with call := v == 1 }.recomputed) ∧
      (1 < v.toNat → s.readZoneOrder t = s.oneUnmatched .h)) ∧
    ((∀ i, (s.loop i).state ≠ .disabled →
        ¬((s.loop i).driverAddress = t.dst.toNat ∧ (s.loop i).headChannel = c.toNat)) →
      s.readZoneOrder t = s.oneUnmatched .h)

/-- The two telegrams that intake hands to the room demand unit. -/
def Obligations.RoomTelegramsRead : Prop :=
  Parts.RoomReportRead ∧ Parts.ZoneOrderRead

/-- The effective setpoint and the demand of a room (R28 to R30): in SETBACK mode the offset is taken off
before the clamp, AWAY and OFF take the lower limit; the demand is the fallback while stale or unformed,
the frost decision in OFF mode, else 512 plus the floored error over the band, within 0 and 1024; CALL
takes the call, BOTH the larger. -/
def Obligations.DemandFormed : Prop :=
  ∀ k : Room, k.setpointMin ≤ k.setpointMax → 0 < k.band →
    (k.recomputed.effective = match k.mode with
      | .comfort => k.setpoint.map fun v => max (k.setpointMin : Int) (min v k.setpointMax)
      | .setback => k.setpoint.map fun v =>
          max (k.setpointMin : Int) (min (v - k.setback) k.setpointMax)
      | .away => some (k.setpointMin : Int)
      | .off => some (k.setpointMin : Int)) ∧
    (∀ D : Nat,
      (k.stale = true → D = k.fallbackDemand) →
      (k.stale = false → (k.measured = none ∨ k.recomputed.effective = none) →
        D = k.fallbackDemand) →
      (∀ m e : Int, k.stale = false → k.measured = some m → k.recomputed.effective = some e →
        (k.mode = .off → D = if m < k.setpointMin then 1024 else 0) ∧
        (k.mode ≠ .off → (D : Int) = max 0 (min (512 + (e - m) * 1024 / k.band) 1024))) →
      (k.demandSource = .report → k.recomputed.demand = D) ∧
      (k.demandSource = .call → k.recomputed.demand = if k.call = true then 1024 else 0) ∧
      (k.demandSource = .both →
        k.recomputed.demand = max D (if k.call = true then 1024 else 0))) ∧
    k.recomputed = { k with effective := k.recomputed.effective, demand := k.recomputed.demand }

/-- A SUPPLY REPORT handed to intake (R73, R51): one that fails the source filter counts as unmatched; one
that passes stores the allowance, at most 2000, the source state of a known code, the age, freshness, and
a temperature from 0 to 5760 with its own age; a recompute follows where the allowance or the source state
changed or staleness ended. -/
def Obligations.SupplyReportRead : Prop :=
  ∀ (t : Telegram) (a b c d e : Byte) (rest : List Byte) (s : State),
    t.data = a :: b :: c :: d :: e :: rest →
    ((s.general.supplySource ≠ 0 ∧ s.general.supplySource ≠ t.src.toNat) →
      s.readSupplyReport t = s.oneUnmatched .h) ∧
    ((s.general.supplySource = 0 ∨ s.general.supplySource = t.src.toNat) →
      let inRange := 0 ≤ (a ++ b : BitVec 16).toInt ∧ (a ++ b : BitVec 16).toInt ≤ 5760
      let k : Supply := {
        allowance := min (256 * c.toNat + d.toNat) 2000
        source := if e = 0 then .run else if e = 1 then .defrost else if e = 2 then .block
          else s.supply.source
        ageStart := s.now, stale := false
        reportTemp := if inRange then some (a ++ b : BitVec 16).toInt.toNat
          else s.supply.reportTemp
        tempStart := if inRange then s.now else s.supply.tempStart
        young := if inRange then true else s.supply.young }
      ((k.allowance ≠ s.supply.allowance ∨ k.source ≠ s.supply.source ∨
          s.supply.stale = true) →
        s.readSupplyReport t = { s with supply := k }.recompute) ∧
      (¬(k.allowance ≠ s.supply.allowance ∨ k.source ≠ s.supply.source ∨
          s.supply.stale = true) →
        s.readSupplyReport t = { s with supply := k }))

/-- A sample that reaches a valid entry (R42, R43, R47, R48, R50): trimmed; outside 0 to 5760 it is
rejected and counted up to 255; else it joins the accumulator, starts both intervals and clears the stale
flag, the loop's probe-held flag and PROBE cause being re-evaluated for a RETURN entry; the sample that
fills the depth publishes the rounded mean, empties the accumulator, and hands a RETURN publication to
the balancer. -/
def Parts.SampleTaken : Prop :=
  ∀ (s : State) (e : Fin 32) (sample : Int),
    let p := s.probe e
    let x := sample + p.trim
    (¬(0 ≤ x ∧ x ≤ 5760) →
      s.takeSample e sample = s.setProbe e { p with rejected := min 255 (p.rejected + 1) }) ∧
    (∀ v : Nat, x = v → v ≤ 5760 →
      let accepted : Probe := { p with
        accSum := p.accSum + v, accCount := p.accCount + 1, ageStart := s.now, stale := false
        faultRunning := true }
      let published : Probe := { accepted with
        published := some ((p.accSum + v + p.depth / 2) / p.depth), accSum := 0, accCount := 0 }
      (p.role = .supplyWater → s.takeSample e sample =
        if p.accCount + 1 < p.depth then s.setProbe e accepted else s.setProbe e published) ∧
      (p.role = .returnWater →
        let fed := ((s.setProbe e accepted).evaluateHeld p.loop).removeProbeCause p.loop
        s.takeSample e sample =
          if p.accCount + 1 < p.depth then fed
          else ((fed.setProbe e published).evaluateHeld p.loop).offerReturn p.loop))

/-- A PROBE REPORT handed to intake (R41, R157): it carries floor(LEN / 2) temperatures, up to four, an odd
last byte and bytes from 8 on being ignored. Position p carries bytes 2 p and 2 p + 1, signed, high byte
first. The positions are taken in ascending order, each by the valid entry on the module's channel p, and
passed over where there is none; where no position has an entry port M's unmatched count goes up. The
second and third clauses write the first two positions out. -/
def Parts.ProbeReportRead : Prop :=
  ∀ (t : Telegram) (s : State), s.MapSound →
    (∀ on : Nat → Option (Fin 32),
      (∀ p e, on p = some e ↔ (s.probe e).valid = true ∧
        (s.probe e).moduleAddress = t.src.toNat ∧ (s.probe e).channel = p) →
      let positions := List.range (min 4 (t.data.length / 2))
      let temperature := fun p : Nat =>
        (t.data.getD (2 * p) 0 ++ t.data.getD (2 * p + 1) 0 : BitVec 16).toInt
      ((∃ p ∈ positions, on p ≠ none) → s.readProbeReport t = positions.foldl
        (fun u p => match on p with
          | some e => u.takeSample e (temperature p)
          | none => u) s) ∧
      ((∀ p ∈ positions, on p = none) → s.readProbeReport t = s.oneUnmatched .m)) ∧
    ((∀ e, (s.probe e).valid = true → (s.probe e).moduleAddress = t.src.toNat →
        min 4 (t.data.length / 2) ≤ (s.probe e).channel) →
      s.readProbeReport t = s.oneUnmatched .m) ∧
    (∀ (a b : Byte), t.data = [a, b] → ∀ e, (s.probe e).valid = true →
      (s.probe e).moduleAddress = t.src.toNat → (s.probe e).channel = 0 →
      s.readProbeReport t = s.takeSample e (a ++ b : BitVec 16).toInt) ∧
    (∀ (a b c d : Byte) (f g : Fin 32), t.data = [a, b, c, d] →
      (s.probe f).valid = true → (s.probe f).moduleAddress = t.src.toNat →
      (s.probe f).channel = 0 → (s.probe g).valid = true →
      (s.probe g).moduleAddress = t.src.toNat → (s.probe g).channel = 1 →
      s.readProbeReport t =
        (s.takeSample f (a ++ b : BitVec 16).toInt).takeSample g (c ++ d : BitVec 16).toInt)

/-- From a PROBE REPORT to the entries its positions reach. -/
def Obligations.SamplesTaken : Prop :=
  Parts.SampleTaken ∧ Parts.ProbeReportRead

/-- The loop return and the supply temperature in use (R46, R52): the rounded mean of two usable entries,
the value of one, none of none; the supply falls back on a young report temperature. A publication is
taken as a cooling sample exactly when the loop is RUNNING or FAULT, in a cycle, open-settled, with both
temperatures known and fewer than 255 samples (R58, R59). -/
def Parts.ReturnsFormed : Prop :=
  ∀ (s : State) (i : Fin 16),
    let returns := (probeIds.filter fun e => (s.probe e).valid = true ∧
      (s.probe e).role = .returnWater ∧ (s.probe e).loop = i ∧
      (s.probe e).stale = false).filterMap fun e => (s.probe e).published
    let supplies := (probeIds.filter fun e => (s.probe e).valid = true ∧
      (s.probe e).role = .supplyWater ∧ (s.probe e).stale = false).filterMap
        fun e => (s.probe e).published
    (returns = [] → s.loopReturn i = none) ∧
    (∀ a, returns = [a] → s.loopReturn i = some a) ∧
    (∀ a b, returns = [a, b] → s.loopReturn i = some ((a + b + 1) / 2)) ∧
    (∀ a b, supplies = [a, b] → s.supplyInUse = some ((a + b + 1) / 2)) ∧
    (∀ a, supplies = [a] → s.supplyInUse = some a) ∧
    (supplies = [] → s.supply.young = true → s.supplyInUse = s.supply.reportTemp) ∧
    (supplies = [] → s.supply.young = false → s.supplyInUse = none) ∧
    (∀ a b : Nat, s.loopReturn i = some a → s.supplyInUse = some b →
      ((s.loop i).state = .running ∨ (s.loop i).state = .fault) → (s.loop i).inCycle = true →
      (s.loop i).settle = .settled → (s.loop i).head = s.openState i →
      (s.loop i).accCount < 255 →
      s.offerReturn i = s.setLoop i { s.loop i with
        accSum := (s.loop i).accSum + ((b : Int) - a), accCount := (s.loop i).accCount + 1 }) ∧
    (¬(s.loopReturn i ≠ none ∧ s.supplyInUse ≠ none ∧
        ((s.loop i).state = .running ∨ (s.loop i).state = .fault) ∧ (s.loop i).inCycle = true ∧
        (s.loop i).settle = .settled ∧ (s.loop i).head = s.openState i ∧
        (s.loop i).accCount < 255) →
      s.offerReturn i = s)

/-! ## Heads and orders (06) -/

/-- A HEAD ECHO addressed to the part on port M (R99 to R101). The first loop on the echo's source and
channel whose head is SENT or SILENT on the echoed action takes it: the head is confirmed, the echo
timeout stops, and in its open-state the settle interval runs for the opening time. A good echo clears the
misses, adds to the good-echo run and takes SILENT out at 2; a condition other than OK adds DAMAGE; a
wanted action that differs is placed; then a pattern's settlement and the completions are checked. An echo
that no loop takes, or with a code outside its range, is stray and changes no loop. -/
def Parts.EchoTaken : Prop :=
  ∀ (t : Telegram) (ch act cond : Byte) (rest : List Byte) (s : State),
    s.NothingToBegin → ¬t.Damaged → t.dst.toNat = s.address → t.kind = 0x33 →
    t.data = ch :: act :: cond :: rest →
    let g := s.afterGood .m t
    (∀ (i : Fin 16) (a : Machine.Action), act.toNat = a.code → cond.toNat ≤ 2 →
      s.TakesEcho t.src ch a i → (∀ j, j < i → ¬s.TakesEcho t.src ch a j) →
      let confirmed := g.setLoop i { s.loop i with
        head := a.target, echoDue := none
        settle := if a = s.openingAction i then .running (s.now + (s.profileOf i).opening)
          else .stopped }
      let counted := confirmed.setLoop i { confirmed.loop i with
        misses := 0, goodRun := min 255 ((s.loop i).goodRun + 1) }
      let cleared :=
        if (s.loop i).head = a.silent then confirmed
        else if 1 ≤ (s.loop i).goodRun then counted.removeCause i .silent
        else counted
      let damaged := if cond = 0 then cleared else cleared.addCause i .damage
      let placed :=
        if (damaged.loop i).wanted = none ∨ (damaged.loop i).wanted = some a then damaged
        else damaged.place i (if a = .energise then .release else .energise) false
      exec (.telegramReceived .m t) s =
        .next placed.patternSettle.checkHalting.checkWindDown) ∧
    ((1 < act.toNat ∨ 2 < cond.toNat ∨
        ∀ (i : Fin 16) (a : Machine.Action), act.toNat = a.code → ¬s.TakesEcho t.src ch a i) →
      exec (.telegramReceived .m t) s = .next (g.oneStray .m))

/-- ECHO_TIMEOUT (R102): a head still SENT when its timeout has run becomes SILENT, a miss is counted up
to 255 and the good-echo run is 0; as the misses pass from 2 to 3 SILENT is added; a wanted action that
differs is placed; then a pattern's settlement and the completions are checked. A timeout that has not
run out changes nothing (assumption 3). -/
def Parts.EchoTimeoutTaken : Prop :=
  ∀ (i : Fin 16) (a : Machine.Action) (s : State),
    s.NothingToBegin → (s.loop i).head = (if a = .energise then .energiseSent else .releaseSent) →
    (∀ due, (s.loop i).echoDue = some due → due ≤ s.now →
      let silent := s.setLoop i { s.loop i with
        head := if a = .energise then .silentEnergise else .silentRelease
        settle := .stopped, echoDue := none
        misses := min 255 ((s.loop i).misses + 1), goodRun := 0 }
      let caused := if (s.loop i).misses = 2 then silent.addCause i .silent else silent
      let placed :=
        if (caused.loop i).wanted = none ∨ (caused.loop i).wanted = some a then caused
        else caused.place i (if a = .energise then .release else .energise) false
      exec (.echoTimeout i) s = .next placed.patternSettle.checkHalting.checkWindDown) ∧
    ((∀ due, (s.loop i).echoDue = some due → s.now < due) →
      exec (.echoTimeout i) s = .next s)

/-- An echo, and its timeout. -/
def Obligations.EchoesTaken : Prop :=
  Parts.EchoTaken ∧ Parts.EchoTimeoutTaken

/-- Placing ENERGISE (R96), outside PASSIVE mode: a head in a state that holds no slot asks for one, which
is granted while fewer than Hmax are held and waited for otherwise; a queued RELEASE is replaced at its
place; a SILENT-ENERGISE is ordered again at the retry; every other head state is left. In PASSIVE mode
nothing is placed (R142). -/
def Parts.EnergisePlaced : Prop :=
  ∀ (i : Fin 16) (retry : Bool) (s : State),
    (s.mode = .passive → s.place i .energise retry = s) ∧
    (s.mode ≠ .passive →
      ((s.loop i).head ∈ [.released, .idleUnknown, .silentRelease] →
        let left : State := { s with waits := s.waits.filter (·.loop != i) }
        let listed : State := { left with orders := s.orders ++ [⟨i, .energise⟩] }
        let waiting : State := { left with
          waits := left.waits ++ [⟨i, .energise, (s.loop i).head == .silentRelease⟩] }
        (s.holders < s.general.hmax → s.place i .energise retry =
          listed.setLoop i { s.loop i with head := .energisePending, settle := .stopped }) ∧
        (s.general.hmax ≤ s.holders → s.place i .energise retry =
          waiting.setLoop i { s.loop i with head := .energiseWait, settle := .stopped })) ∧
      ((s.loop i).head = .releasePending →
        let replaced : State := { s with
          orders := s.orders.map fun o => if o.loop = i then ⟨i, .energise⟩ else o }
        ((∃ o ∈ s.orders, o.loop = i) → s.place i .energise retry =
          replaced.setLoop i { s.loop i with head := .energisePending, settle := .stopped }) ∧
        ((∀ o ∈ s.orders, o.loop ≠ i) → s.place i .energise retry = s)) ∧
      ((s.loop i).head = .silentEnergise →
        let listed : State := { s with orders := s.orders ++ [⟨i, .energise⟩] }
        s.place i .energise true =
          listed.setLoop i { s.loop i with head := .energisePending, settle := .stopped } ∧
        s.place i .energise false = s) ∧
      ((s.loop i).head ∈ [.energised, .energisePending, .energiseWait, .energiseSent,
          .releaseSent] → s.place i .energise retry = s))

/-- Placing RELEASE (R96), outside PASSIVE mode: a powered head is ordered, keeping its slot; a queued
ENERGISE is replaced at its place; a head that waits to energise leaves the wait list without an order
where its last action is RELEASE; a head of unknown state, and a SILENT-RELEASE at the retry, ask for a
slot, which is waited for with the head state kept, once; every other head state is left. A head that
waits to energise and whose last action is not RELEASE goes on as IDLE-UNKNOWN (assumption 14). -/
def Parts.ReleasePlaced : Prop :=
  ∀ (i : Fin 16) (retry : Bool) (s : State),
    (s.mode = .passive → s.place i .release retry = s) ∧
    (s.mode ≠ .passive →
      let listed : State := { s with orders := s.orders ++ [⟨i, .release⟩] }
      let waiting : State := { s with waits := s.waits ++ [⟨i, .release, false⟩] }
      let pending := listed.setLoop i { s.loop i with head := .releasePending, settle := .stopped }
      let asked :=
        if ∃ w ∈ s.waits, w.loop = i then s
        else if s.holders < s.general.hmax then pending else waiting
      ((s.loop i).head ∈ [.energised, .silentEnergise] → s.place i .release retry = pending) ∧
      ((s.loop i).head = .energisePending →
        let replaced : State := { s with
          orders := s.orders.map fun o => if o.loop = i then ⟨i, .release⟩ else o }
        ((∃ o ∈ s.orders, o.loop = i) → s.place i .release retry =
          replaced.setLoop i { s.loop i with head := .releasePending, settle := .stopped }) ∧
        ((∀ o ∈ s.orders, o.loop ≠ i) → s.place i .release retry = s)) ∧
      ((s.loop i).head = .energiseWait → (s.loop i).lastAction = some .release →
        let left : State := { s with waits := s.waits.filter (·.loop != i) }
        s.place i .release retry = left.setLoop i { s.loop i with
          head := if ∃ w ∈ s.waits, w.loop = i ∧ w.wasSilentRelease = true then .silentRelease
            else .released
          settle := .stopped }) ∧
      ((s.loop i).head = .energiseWait → (s.loop i).lastAction ≠ some .release →
        let left : State := { s with waits := s.waits.filter (·.loop != i) }
        s.place i .release retry = (left.setLoop i { s.loop i with
          head := .idleUnknown, settle := .stopped }).place i .release retry) ∧
      ((s.loop i).head = .idleUnknown → s.place i .release retry = asked) ∧
      ((s.loop i).head = .silentRelease →
        s.place i .release true = asked ∧ s.place i .release false = s) ∧
      ((s.loop i).head ∈ [.released, .releasePending, .energiseSent, .releaseSent] →
        s.place i .release retry = s))

/-- What the placing of each action does at each head state. -/
def Obligations.OrdersPlaced : Prop :=
  Parts.EnergisePlaced ∧ Parts.ReleasePlaced

/-- R89: the boundaries of a loop fall at t0 + (phase mod T) + k T, after t0; the next one from an instant
is the first of them not before it. A loop enabled in ACTIVE mode has its first boundary at the moment of
the ENABLE itself only where no boundary event of that moment has been taken (assumption 18). -/
def Parts.BoundaryInstants : Prop :=
  ∀ (s : State) (i : Fin 16) (t0 from_ : Nat), 0 < s.general.cycleLength →
    let T := s.general.cycleLength
    let first := (s.loop i).phase % T + t0
    (t0 < s.boundaryFrom i t0 from_ ∧ from_ ≤ s.boundaryFrom i t0 from_ ∧
      (∃ k, s.boundaryFrom i t0 from_ = first + k * T) ∧
      ∀ k, t0 < first + k * T → from_ ≤ first + k * T →
        s.boundaryFrom i t0 from_ ≤ first + k * T) ∧
    (s.t0 = some t0 → s.firstBoundary i = some (s.boundaryFrom i t0
      (if (s.loop i).lastBoundary = some s.now then s.now + 1 else s.now)))

/-- LOOP_BOUNDARY (R90): at a due boundary of a loop that takes part the next boundary is set a cycle
later, and in ACTIVE mode the work is done in the order capture with starvation check, FAULT exit, state
work, swap, phase start. A boundary that is not due changes at most the record of the latest boundary
instant (assumptions 3 and 18). -/
def Parts.BoundaryWorked : Prop :=
  ∀ (i : Fin 16) (s : State), s.NothingToBegin →
    (∀ due : Nat, (s.mode = .active ∨ s.mode = .halting) →
      (s.loop i).state ∈ [.running, .shed, .fault] → (s.loop i).nextBoundary = some due →
      due ≤ s.now →
      let begun := s.setLoop i { s.loop i with
        nextBoundary := some (due + s.general.cycleLength), lastBoundary := some s.now }
      (s.mode = .active → exec (.loopBoundary i) s =
        .next (((((begun.capture i).faultExit i).stateWork i).updLoop i Loop.swap).phaseStart i)) ∧
      (s.mode = .halting → exec (.loopBoundary i) s = .next (begun.haltingBoundary i))) ∧
    (¬((s.mode = .active ∨ s.mode = .halting) ∧
        (s.loop i).state ∈ [.running, .shed, .fault] ∧
        ∃ due, (s.loop i).nextBoundary = some due ∧ due ≤ s.now) →
      exec (.loopBoundary i) s = .next s ∨
      exec (.loopBoundary i) s =
        .next (s.setLoop i { s.loop i with lastBoundary := some s.now }))

/-- The parts of a boundary's work (R90 to R92, R103). The capture stores the confirmed open time; a cycle
with O above 0 and less than half of it achieved is starved, the starved run goes up to 255 or back to 0,
and STARVED is raised as it passes from 2 to 3. A FAULT loop without causes leaves FAULT for SHED or
RUNNING and the allocation is recomputed. A RUNNING loop takes its step, empties its accumulator, posts
its request and the allocation is recomputed; another loop only empties its accumulator. The swap takes
the buffered duty where pending is set. The new on-time is floor(duty × T / 4096), the open-time count is
0, and the opening action is wanted where it is above 0, else the closing action, with the retry. In
HALTING mode the step is taken, RELEASE is wanted, and the loop enters STANDBY. -/
def Parts.BoundaryParts : Prop :=
  ∀ (i : Fin 16) (s : State),
    let l := s.loop i
    let starved := 0 < l.onTime ∧ l.openCount * 2 < l.onTime
    (¬starved → s.capture i = s.setLoop i { l with achieved := l.openCount, starvedRun := 0 }) ∧
    (starved → l.starvedRun ≠ 2 → s.capture i = s.setLoop i { l with
      achieved := l.openCount, starvedRun := min 255 (l.starvedRun + 1) }) ∧
    (starved → l.starvedRun = 2 → s.capture i = (s.setLoop i { l with
      achieved := l.openCount, starvedRun := 3 }).raise .starved (some i.val)
        (some (l.openCount : Int))) ∧
    ((l.state = .fault ∧ l.causes = ⟨false, false, false⟩) → s.faultExit i =
      (s.setLoop i { l with
        state := if s.inShedRange i = true then .shed else .running }).recompute) ∧
    (¬(l.state = .fault ∧ l.causes = ⟨false, false, false⟩) → s.faultExit i = s) ∧
    (l.state = .running →
      let stepped := s.setLoop i { l.balance (s.floorClass l.floorClass) with
        accSum := 0, accCount := 0 }
      s.stateWork i = (stepped.setLoop i { stepped.loop i with
        request := stepped.requestOf i }).recompute) ∧
    (l.state ≠ .running → s.stateWork i = s.setLoop i { l with accSum := 0, accCount := 0 }) ∧
    (l.pendingFlag = true → l.swap = { l with
      activeDuty := l.bufferedDuty, pendingFlag := false }) ∧
    (l.pendingFlag = false → l.swap = l) ∧
    (let O := l.activeDuty * s.general.cycleLength / 4096
      let begun := s.setLoop i { l with
        onTime := O, openPhase := decide (0 < O), openCount := 0, inCycle := true }
      s.phaseStart i = begun.want i (if 0 < O then s.openingAction i else s.closingAction i) true) ∧
    (∀ a retry, s.want i a retry = (s.setLoop i { l with wanted := some a }).place i a retry) ∧
    (let worked := (s.capture i).setLoop i { (s.capture i).loop i with
        share := if l.state = .running then
            (((s.capture i).loop i).balance (s.floorClass l.floorClass)).share
          else l.share
        cooling := if l.state = .running then
            (((s.capture i).loop i).balance (s.floorClass l.floorClass)).cooling
          else l.cooling
        accSum := 0, accCount := 0 }
      let released := worked.want i .release false
      s.haltingBoundary i = ((released.setLoop i { released.loop i with
        state := .standby, request := 0, grant := 0, activeDuty := 0, bufferedDuty := 0
        pendingFlag := false, onTime := 0, openPhase := false, inCycle := false
        nextBoundary := none }).recompute).checkHalting)

/-- When a boundary falls and what it does. -/
def Obligations.BoundariesWorked : Prop :=
  Parts.BoundaryInstants ∧ Parts.BoundaryWorked ∧ Parts.BoundaryParts

/-- The completions (R103, R137, R141). While nothing is left to send, HALTING passes to PASSIVE when
every enabled loop is STANDBY, t0 forgotten. Nothing is left to send when the head-order list and the wait
list are empty, no head order is in transmission, and no RELEASE waits behind an ENERGISE that awaits its
echo. A wind-down in TEST mode ends in PASSIVE mode with the pattern NONE, the stage IDLE and PATTERN DONE,
when besides that no RELEASE of the ending waits behind a RELEASE that awaited its echo then. Which RELEASE
waits behind an echo is the model's reading (assumption 29); that the arguments stay in the record is
assumption 32. -/
def Obligations.CompletionsChecked : Prop :=
  ∀ s : State,
    (s.headsQuiet = true ↔ s.orders = [] ∧ s.waits = [] ∧
      (∀ i a t o, s.portM.tx ≠ some (.headOrder i a t o)) ∧
      ∀ i, ¬((s.loop i).head = .energiseSent ∧ (s.loop i).wanted = some .release)) ∧
    ((s.mode = .halting ∧ s.headsQuiet = true ∧
        ∀ i, (s.loop i).state = .disabled ∨ (s.loop i).state = .standby) →
      s.checkHalting = { s with mode := .passive, t0 := none }) ∧
    (¬(s.mode = .halting ∧ s.headsQuiet = true ∧
        ∀ i, (s.loop i).state = .disabled ∨ (s.loop i).state = .standby) →
      s.checkHalting = s) ∧
    (s.windDownQuiet = true ↔ s.headsQuiet = true ∧
      ∀ i, ¬(s.pattern.heldBy.get i = true ∧ (s.loop i).head = .releaseSent)) ∧
    ((s.mode = .test ∧ s.pattern.stage = .windingDown ∧ s.windDownQuiet = true) →
      s.checkWindDown = { s with
        mode := .passive
        pattern := { s.pattern with
          kind := .none, stage := .idle, heldBy := Vector.replicate 16 false }
        notices := s.notices.raise .patternDone none
          (some (if s.pattern.lastEnding = .stopped then 1 else 0)) }) ∧
    (¬(s.mode = .test ∧ s.pattern.stage = .windingDown ∧ s.windDownQuiet = true) →
      s.checkWindDown = s)

/-! ## Balancing and allocation (04, 05) -/

/-- R63 to R67. The measured cooling is the mean rounded to the nearest, kept across a restart, absent at
ENABLE and power-on; the share change is the error times the gain over 64, rounded toward zero, within the
step limit; the new share is clamped between the limits and stored; without samples no step is taken. The
unfloored request is floor(S × D / 1024), within 0 and 4096; the request floor is the opening time in
units of 1/4096 of the cycle, rounded up, between 1 and 2048, and gives an on-time of at least the opening
time; R0 is kept from the floor on, raised to it from half of it on, else dropped. -/
def Obligations.BalancingArithmetic : Prop :=
  (∀ (l : Loop) (k : FloorClass), 1 ≤ l.accCount → l.smin ≤ l.smax →
    let cooling := (l.accSum + (l.accCount / 2 : Nat)) / (l.accCount : Int)
    let raw := ((cooling - k.target) * k.gain).tdiv 64
    let change := max (-(k.limit : Int)) (min raw k.limit)
    ∃ share : Nat, (share : Int) = max (l.smin : Int) (min (l.share + change) l.smax) ∧
      l.balance k = { l with cooling := some cooling, share := share } ∧
      (-5760 * (l.accCount : Int) ≤ l.accSum → l.accSum ≤ 5760 * l.accCount →
        -5760 ≤ cooling ∧ cooling ≤ 5760)) ∧
  (∀ (l : Loop) (k : FloorClass), l.accCount = 0 → l.balance k = l) ∧
  (∀ (s : State) (i : Fin 16), (s.restart.loop i).cooling = (s.loop i).cooling ∧
    (s.enabledLoop i).cooling = none ∧ (State.reset.loop i).cooling = none) ∧
  (∀ S D : Nat, unflooredRequest S D = S * D / 1024 ∧
    (S ≤ 4096 → D ≤ 1024 → unflooredRequest S D ≤ 4096)) ∧
  (∀ (s : State) (i : Fin 16), let T := s.general.cycleLength
    let opening := (s.profileOf i).opening
    0 < T → 0 < opening → 2 * opening ≤ T →
      4096 * opening ≤ s.requestFloor i * T ∧
      (s.requestFloor i - 1) * T < 4096 * opening ∧
      1 ≤ s.requestFloor i ∧ s.requestFloor i ≤ 2048 ∧
      opening ≤ s.requestFloor i * T / 4096) ∧
  (∀ r0 rf : Nat,
    (rf ≤ r0 → flooredRequest r0 rf = r0) ∧
    (rf / 2 ≤ r0 → r0 < rf → flooredRequest r0 rf = rf) ∧
    (r0 < rf / 2 → flooredRequest r0 rf = 0)) ∧
  (∀ (s : State) (i : Fin 16) (r : Fin 12), (s.loop i).room = some r →
    s.requestOf i = flooredRequest (unflooredRequest (s.loop i).share (s.room r).demand)
      (s.requestFloor i))

/-- Step 2 of a recompute for one loop (R16, R77, R94): in the shed range a RUNNING loop enters SHED with
R, G and duties 0 and a FAULT loop has its duties 0, and of either an open phase ends with the on-time 0
and the closing action wanted; out of it a SHED loop enters RUNNING; every other loop is left. A loop in
its closed phase places nothing (assumption 27). -/
def Parts.LoopShed : Prop :=
  ∀ (s : State) (i : Fin 16) (shedLevel : Nat),
    let l := s.loop i
    let inRange := l.level = 0 ∨ l.level ≤ shedLevel
    let shed : Loop := { l with
      state := if l.state = .running then .shed else l.state
      request := if l.state = .running then 0 else l.request
      grant := if l.state = .running then 0 else l.grant
      activeDuty := 0, bufferedDuty := 0, pendingFlag := false, onTime := 0, openPhase := false }
    ((l.state = .running ∨ l.state = .fault) → inRange →
      (l.openPhase = false → State.shedStep shedLevel s i = s.setLoop i shed) ∧
      (l.openPhase = true → State.shedStep shedLevel s i =
        (s.setLoop i shed).want i (s.closingAction i) false)) ∧
    (l.state = .shed → ¬inRange →
      State.shedStep shedLevel s i = s.setLoop i { l with state := .running }) ∧
    (¬((l.state = .running ∨ l.state = .fault) ∧ inRange) → ¬(l.state = .shed ∧ ¬inRange) →
      State.shedStep shedLevel s i = s)

/-- A recompute (R76 to R81, R85, R86). Outside ACTIVE and HALTING modes nothing changes. Else, with Q of a
level the sum of R × W of its RUNNING loops after step 2, and Bavail the budget less the fallback of the
FAULT loops out of the shed range: a level is met in full while the levels from it up fit in Bavail, the
first that does not fit is scaled by what is left over its Q, floored, and levels below it get 0; a grant
below the request floor is 0; grants go into the buffers, pending where they differ from the active duty;
the summary and the short flag are written, and BUDGET SHORT is raised as the flag is set. That the pending
flag of a FAULT loop out of the shed range says whether the two duties differ (R81), also at a fallback duty
of 0 (R16), is assumption 12. -/
def Obligations.GrantsFormed : Prop :=
  ∀ s : State,
    (¬(s.mode = .active ∨ s.mode = .halting) → s.recompute = s) ∧
    ((s.mode = .active ∨ s.mode = .halting) →
      let u := loopIds.foldl (State.shedStep s.shedLevel) s
      let t := s.recompute
      let Q := fun level : Nat => (loopIds.map fun i =>
        if (u.loop i).state = .running ∧ (u.loop i).level = level then
          (u.loop i).request * (u.loop i).weight else 0).sum
      let upTo := fun level : Nat => (([1, 2, 3, 4, 5, 6, 7].filter (level ≤ ·)).map Q).sum
      let reserved := (loopIds.map fun i =>
        if (u.loop i).state = .fault ∧
            ¬((u.loop i).level = 0 ∨ (u.loop i).level ≤ s.shedLevel) then
          (u.loop i).fallbackDuty * (u.loop i).weight else 0).sum
      let bavail := s.supply.allowance * 4096 - reserved
      (∀ i, (u.loop i).state = .running → 1 ≤ (u.loop i).level → (u.loop i).level ≤ 7 →
        let level := (u.loop i).level
        let full := if upTo level ≤ bavail then (u.loop i).request
          else if upTo (level + 1) ≤ bavail then
            (u.loop i).request * (bavail - upTo (level + 1)) / Q level
          else 0
        let grant := if full < s.requestFloor i then 0 else full
        t.loop i = { u.loop i with
          grant := grant, bufferedDuty := grant
          pendingFlag := grant != (u.loop i).activeDuty }) ∧
      (∀ i, (u.loop i).state = .fault →
        ¬((u.loop i).level = 0 ∨ (u.loop i).level ≤ s.shedLevel) →
        t.loop i = { u.loop i with
          grant := 0, bufferedDuty := (u.loop i).fallbackDuty
          pendingFlag := (u.loop i).fallbackDuty != (u.loop i).activeDuty }) ∧
      (∀ i, ((u.loop i).state = .shed ∨ (u.loop i).state = .standby ∨
          ((u.loop i).state = .fault ∧
            ((u.loop i).level = 0 ∨ (u.loop i).level ≤ s.shedLevel))) →
        t.loop i = { u.loop i with
          grant := 0, activeDuty := 0, bufferedDuty := 0, pendingFlag := false }) ∧
      (∀ i, ((u.loop i).state = .disabled ∨ (u.loop i).state = .testing) →
        t.loop i = u.loop i) ∧
      t.alloc.budget = s.supply.allowance * 4096 ∧ t.alloc.reservation = reserved ∧
      t.alloc.bavail = bavail ∧
      t.alloc.committed = (loopIds.map fun i =>
        if (t.loop i).state = .running then (t.loop i).grant * (t.loop i).weight else 0).sum ∧
      (upTo 1 ≤ bavail → t.alloc.scaledLevel = none ∧ t.alloc.short = false ∧
        t.notices = u.notices) ∧
      (∀ level, 1 ≤ level → level ≤ 7 → bavail < upTo level → upTo (level + 1) ≤ bavail →
        t.alloc.scaledLevel = some level ∧ t.alloc.short = true ∧
        (s.alloc.short = true → t.notices = u.notices) ∧
        (s.alloc.short = false → t.notices = u.notices.raise .budgetShort none (some level))) ∧
      t = { u with loops := t.loops, alloc := t.alloc, notices := t.notices })

/-- A cause added to a loop (R14): nothing where the loop is DISABLED or holds it; a STANDBY, TESTING or
FAULT loop has it join the set; a RUNNING or SHED loop enters FAULT with R and G 0 and its fallback duty
buffered, or duties 0 in the shed range, and the allocation is recomputed. LOOP FAULT is raised with loop
and set, before the recompute (assumption 7). A cause taken out (R15) raises LOOP RECOVERED when the set
becomes empty, and moves no state. -/
def Parts.CausesChanged : Prop :=
  ∀ (s : State) (i : Fin 16) (c : Cause),
    let l := s.loop i
    let held := match c with
      | .silent => l.causes.silent
      | .damage => l.causes.damage
      | .probe => l.causes.probe
    let set (b : Bool) : CauseSet := match c with
      | .silent => { l.causes with silent := b }
      | .damage => { l.causes with damage := b }
      | .probe => { l.causes with probe := b }
    ((l.state = .disabled ∨ held = true) → s.addCause i c = s) ∧
    (l.state ∈ [.standby, .testing, .fault] → held = false →
      s.addCause i c = (s.setLoop i { l with causes := set true }).raise .loopFault
        (some i.val) (some ((set true).code : Int))) ∧
    (l.state ∈ [.running, .shed] → held = false →
      (s.inShedRange i = false → s.addCause i c = ((s.setLoop i { l with
          causes := set true, state := .fault, request := 0, grant := 0
          bufferedDuty := l.fallbackDuty, pendingFlag := l.fallbackDuty != l.activeDuty }).raise
        .loopFault (some i.val) (some ((set true).code : Int))).recompute) ∧
      (s.inShedRange i = true → s.addCause i c = ((s.setLoop i { l with
          causes := set true, state := .fault, request := 0, grant := 0
          activeDuty := 0, bufferedDuty := 0, pendingFlag := false }).raise
        .loopFault (some i.val) (some ((set true).code : Int))).recompute)) ∧
    ((l.state = .disabled ∨ held = false) → s.removeCause i c = s) ∧
    (l.state ≠ .disabled → held = true →
      (set false ≠ ⟨false, false, false⟩ →
        s.removeCause i c = s.setLoop i { l with causes := set false }) ∧
      (set false = ⟨false, false, false⟩ →
        s.removeCause i c = (s.setLoop i { l with causes := set false }).raise .loopRecovered
          (some i.val) none))

/-- The evaluations at a loop (R47, R49, R50): where the PROBE condition holds PROBE is added, where it does
not hold PROBE is taken out, each alone or both as the event asks; the probe-held flag is set to whether
the loop has no usable RETURN entry. -/
def Parts.ProbeCauseEvaluated : Prop :=
  ∀ (s : State) (i : Fin 16),
    (s.probeCondition i = true → s.addProbeCause i = s.addCause i .probe ∧
      s.removeProbeCause i = s ∧ s.evaluateProbe i = s.addCause i .probe) ∧
    (s.probeCondition i = false → s.addProbeCause i = s ∧
      s.removeProbeCause i = s.removeCause i .probe ∧
      s.evaluateProbe i = s.removeCause i .probe) ∧
    s.evaluateHeld i = s.setLoop i { s.loop i with probeHeld := s.probeHeldNow i }

/-- R18: the FLT pin is low exactly while an enabled loop is in FAULT. That the pin is formed and not
stored is assumption 23. -/
def Parts.FltPinFollowsFaults : Prop :=
  ∀ s : State, s.fltLow = true ↔ ∃ i, (s.loop i).state = .fault

/-- How a loop moves between RUNNING, SHED and FAULT, what evaluates its PROBE cause, and the FLT pin. -/
def Obligations.ShedAndFaultMovesMade : Prop :=
  Parts.LoopShed ∧ Parts.CausesChanged ∧ Parts.ProbeCauseEvaluated ∧ Parts.FltPinFollowsFaults

/-! ## Expiries (02 to 06, 11) -/

/-- The expiries of the drive timer (R57, R93): confirmed open time that has reached an on-time of less
than a full cycle ends the open phase and places the closing action; a settle interval that has run makes
the loop open-settled. Before that they change nothing (assumption 3). -/
def Parts.DriveExpiriesTaken : Prop :=
  ∀ (i : Fin 16) (s : State), s.NothingToBegin →
    ((s.loop i).openPhase = true → (s.loop i).onTime < s.general.cycleLength →
      (s.loop i).onTime ≤ (s.loop i).openCount →
      exec (.onTimeExpiry i) s = .next ((s.setLoop i { s.loop i with
        openPhase := false, wanted := some (s.closingAction i) }).place i (s.closingAction i)
          false)) ∧
    (((s.loop i).openPhase = false ∨ (s.loop i).openCount < (s.loop i).onTime ∨
        s.general.cycleLength ≤ (s.loop i).onTime) →
      exec (.onTimeExpiry i) s = .next s) ∧
    (∀ due, (s.loop i).settle = .running due → due ≤ s.now →
      exec (.settleIntervalExpiry i) s =
        .next (s.setLoop i { s.loop i with settle := .settled })) ∧
    ((∀ due, (s.loop i).settle = .running due → s.now < due) →
      exec (.settleIntervalExpiry i) s = .next s)

/-- The expiries of the rooms, probes, supply record and notice queue (R32, R44, R51, R74, R152), each due
when its interval runs and has reached its length, with everything it does; before that nothing changes
(assumption 3). Where both expiries of a probe fall at one instant, the fault expiry is due after the stale
expiry (assumption 30). The stale supply record takes Fdef and RUN, and the allocation is recomputed. -/
def Parts.TableExpiriesTaken : Prop :=
  ∀ s : State, s.NothingToBegin →
    (∀ r : Fin 12,
      let due := (s.room r).unitAddress ≠ 0 ∧ (s.room r).stale = false ∧
        s.general.roomStaleTime ≤ min 65535 (s.now - (s.room r).ageStart)
      (due → exec (.roomStaleExpiry r) s = .next ((s.setRoom r
        { s.room r with stale := true }.recomputed).raise .roomStale (some r.val) none)) ∧
      (¬due → exec (.roomStaleExpiry r) s = .next s)) ∧
    (∀ e : Fin 32,
      let p := s.probe e
      let due := p.valid = true ∧ p.stale = false ∧
        s.general.probeStaleTime ≤ min 65535 (s.now - p.ageStart)
      let marked := (s.setProbe e { p with stale := true }).raise .probeStale (some e.val) none
      (due → exec (.probeStaleExpiry e) s = .next
        (if p.role = .supplyWater then marked
          else marked.setLoop p.loop { marked.loop p.loop with
            probeHeld := marked.probeHeldNow p.loop })) ∧
      (¬due → exec (.probeStaleExpiry e) s = .next s)) ∧
    (∀ e : Fin 32,
      let p := s.probe e
      let due := p.valid = true ∧ p.faultRunning = true ∧ p.stale = true ∧
        s.general.faultStaleTime ≤ min 65535 (s.now - p.ageStart)
      let marked := s.setProbe e { p with faultRunning := false }
      (due → exec (.probeFaultExpiry e) s = .next
        (if p.role = .returnWater ∧ marked.probeCondition p.loop = true
          then marked.addCause p.loop .probe else marked)) ∧
      (¬due → exec (.probeFaultExpiry e) s = .next s)) ∧
    ((s.supply.young = true ∧
        s.general.supplyStaleTime ≤ min 65535 (s.now - s.supply.tempStart)) →
      exec .reportTemperatureExpiry s =
        .next { s with supply := { s.supply with young := false } }) ∧
    (¬(s.supply.young = true ∧
        s.general.supplyStaleTime ≤ min 65535 (s.now - s.supply.tempStart)) →
      exec .reportTemperatureExpiry s = .next s) ∧
    ((s.supply.stale = false ∧
        s.general.supplyStaleTime ≤ min 65535 (s.now - s.supply.ageStart)) →
      exec .supplyStaleExpiry s = .next (({ s with supply := { s.supply with
        stale := true, allowance := s.general.fdef, source := .run } }.raise .supplyStale none
          none).recompute)) ∧
    (¬(s.supply.stale = false ∧
        s.general.supplyStaleTime ≤ min 65535 (s.now - s.supply.ageStart)) →
      exec .supplyStaleExpiry s = .next s) ∧
    (∀ due, s.notices.spacingDue = some due →
      (due ≤ s.now → exec .spacingIntervalExpiry s =
        .next { s with notices := { s.notices with spacingDue := none } }) ∧
      (s.now < due → exec .spacingIntervalExpiry s = .next s)) ∧
    (s.notices.spacingDue = none → exec .spacingIntervalExpiry s = .next s)

/-- The expiries outside the patterns. -/
def Obligations.IntervalExpiriesTaken : Prop :=
  Parts.DriveExpiriesTaken ∧ Parts.TableExpiriesTaken

/-- The PROBE condition (R49): at least one valid RETURN entry names the loop, and each of them is stale and
has an age of at least the fault stale time. The flag adds nothing where the probe stale time is at most the
fault stale time (R45) and no stale expiry of the loop's entries stands untaken; while one does, its entry
has not reached the fault stale time (assumption 30). The condition never holds while the loop return is
formed (R45). The probe-held flag (R47): none of the entries is fresh with a value. -/
def Parts.ProbeConditionFormed : Prop :=
  ∀ (s : State) (i : Fin 16),
    let feeds := fun e : Fin 32 => (s.probe e).valid = true ∧
      (s.probe e).role = .returnWater ∧ (s.probe e).loop = i
    let age := fun e : Fin 32 => min 65535 (s.now - (s.probe e).ageStart)
    (s.probeCondition i = true ↔ (∃ e, feeds e) ∧ ∀ e, feeds e →
      (s.probe e).stale = true ∧ s.general.faultStaleTime ≤ age e) ∧
    (s.general.probeStaleTime ≤ s.general.faultStaleTime →
      (∀ e, feeds e → (s.probe e).stale = false → age e < s.general.probeStaleTime) →
      (s.probeCondition i = true ↔ (∃ e, feeds e) ∧ ∀ e, feeds e →
        s.general.faultStaleTime ≤ age e)) ∧
    (s.probeCondition i = true → s.loopReturn i = none) ∧
    (s.probeHeldNow i = true ↔
      ∀ e, feeds e → (s.probe e).stale = true ∨ (s.probe e).published = none)

/-- What is formed from the probe entries. -/
def Obligations.TemperaturesFormed : Prop :=
  Parts.ReturnsFormed ∧ Parts.ProbeConditionFormed

/-! ## Pattern stages (09) -/

/-- The expiries of the pattern intervals (R132 to R134): the end of an OPEN HALF closes the subject loop;
the end of a CLOSED HALF counts a toggle and opens it again, or ends the pattern as COMPLETED when the
toggles are done; the end of CLEARING begins the test of the lowest TESTING loop; the end of a DWELL
writes the verdict and closes the loop; the end of a CLOSE WAIT begins the test of the next TESTING loop,
or ends the pattern as COMPLETED. Before the interval has run nothing changes (assumption 3). -/
def Parts.PatternIntervalsExpire : Prop :=
  ∀ (s : State) (k : Fin 16) (due : Nat), s.NothingToBegin →
    s.pattern.intervalDue = some due → s.pattern.subject = some k →
    (due ≤ s.now → s.pattern.kind = .identify →
      (s.pattern.stage = .openHalf → exec .identifyHalfExpiry s =
        .next (s.driveStage .closing k (s.closingAction k))) ∧
      (s.pattern.stage = .closedHalf →
        let counted : State := { s with pattern := { s.pattern with
          togglesDone := s.pattern.togglesDone + 1 } }
        (s.pattern.togglesDone + 1 < s.pattern.arg2 → exec .identifyHalfExpiry s =
          .next (counted.driveStage .opening k (s.openingAction k))) ∧
        (s.pattern.arg2 ≤ s.pattern.togglesDone + 1 → exec .identifyHalfExpiry s =
          .next (counted.endPattern .completed)))) ∧
    (due ≤ s.now → s.pattern.kind = .sweep →
      (s.pattern.stage = .dwell → exec .dwellExpiry s =
        .next ((s.writeVerdict k).driveStage .closing k (s.closingAction k))) ∧
      (s.pattern.stage = .closeWait →
        (∀ j, (s.loop j).state = .testing → k < j →
          (∀ i, (s.loop i).state = .testing → k < i → j ≤ i) →
          exec .closeWaitExpiry s = .next (s.beginTest j)) ∧
        ((∀ j, (s.loop j).state = .testing → j ≤ k) →
          exec .closeWaitExpiry s = .next (s.endPattern .completed)))) ∧
    (s.now < due → exec .identifyHalfExpiry s = .next s ∧ exec .dwellExpiry s = .next s ∧
      exec .closeWaitExpiry s = .next s)

/-- The first test of a SWEEP, and what a test begins with (R133, R134): at the end of CLEARING the lowest
TESTING loop is tested; a test takes the snapshot of the returns of the TESTING loops, then opens its
loop. -/
def Parts.SweepTestsBegin : Prop :=
  ∀ (s : State) (k : Fin 16), s.NothingToBegin →
    (∀ due, s.pattern.kind = .sweep → s.pattern.stage = .clearing →
      s.pattern.intervalDue = some due → due ≤ s.now → (s.loop k).state = .testing →
      (∀ i, (s.loop i).state = .testing → k ≤ i) →
      exec .clearingExpiry s = .next (s.beginTest k)) ∧
    (∀ due, s.pattern.intervalDue = some due → s.now < due →
      exec .clearingExpiry s = .next s) ∧
    (let returns : Vector (Option Nat) 16 := Vector.ofFn fun i =>
        if (s.loop i).state = .testing then s.loopReturn i else none
      let read : State := { s with pattern := { s.pattern with snapshot := returns } }
      s.beginTest k = read.driveStage .opening k (s.openingAction k))

/-- Stages (R131 to R134): a stage that drives a head takes its subject, stops the interval, places its
action and may settle at once; when the awaited action is settled, with the head in the state it aims at
or in its SILENT state, the interval of the next stage starts: the half, the clearing of the largest
closing time among the TESTING loops, the dwell, or the wait of the subject's closing time. While it is
not settled nothing changes. -/
def Parts.StagesSettle : Prop :=
  ∀ (s : State) (k : Fin 16),
    (∀ (stage : Stage) (a : Machine.Action),
      let entered : State := { s with pattern := { s.pattern with
        stage := stage, subject := some k, intervalDue := none } }
      s.driveStage stage k a = (entered.want k a false).patternSettle) ∧
    (∀ a : Machine.Action, s.settledOn k a = true ↔
      (a = .energise → (s.loop k).head = .energised ∨ (s.loop k).head = .silentEnergise) ∧
      (a = .release → (s.loop k).head = .released ∨ (s.loop k).head = .silentRelease)) ∧
    (s.pattern.subject = some k →
      (s.pattern.stage = .opening →
        (s.settledOn k (s.openingAction k) = false → s.patternSettle = s) ∧
        (s.settledOn k (s.openingAction k) = true →
          (s.pattern.kind = .identify → s.patternSettle = { s with pattern := { s.pattern with
            stage := .openHalf, intervalDue := some (s.now + s.pattern.arg3) } }) ∧
          (s.pattern.kind = .sweep → s.patternSettle = { s with pattern := { s.pattern with
            stage := .dwell, intervalDue := some (s.now + s.pattern.arg1) } }))) ∧
      (s.pattern.stage = .closing →
        (s.settledOn k (s.closingAction k) = false → s.patternSettle = s) ∧
        (s.settledOn k (s.closingAction k) = true →
          (s.pattern.kind = .identify → s.patternSettle = { s with pattern := { s.pattern with
            stage := .closedHalf, intervalDue := some (s.now + s.pattern.arg3) } }) ∧
          (s.pattern.kind = .sweep → s.patternSettle = { s with pattern := { s.pattern with
            stage := .closeWait
            intervalDue := some (s.now + (s.profileOf k).closing) } })))) ∧
    (s.pattern.kind = .sweep → s.pattern.stage = .closingAll →
      ((∃ i, (s.loop i).state = .testing ∧ s.settledOn i (s.closingAction i) = false) →
        s.patternSettle = s) ∧
      ((∀ i, (s.loop i).state = .testing → s.settledOn i (s.closingAction i) = true) →
        ∃ m, (∀ i, (s.loop i).state = .testing → (s.profileOf i).closing ≤ m) ∧
          (m = 0 ∨ ∃ i, (s.loop i).state = .testing ∧ (s.profileOf i).closing = m) ∧
          s.patternSettle = { s with pattern := { s.pattern with
            stage := .clearing, intervalDue := some (s.now + m) } }))

/-- The stages of the two patterns. -/
def Obligations.PatternStagesWorked : Prop :=
  Parts.PatternIntervalsExpire ∧ Parts.SweepTestsBegin ∧ Parts.StagesSettle

/-- The verdict of a test (R135, R136): NO PROBE where a reading of the tested loop was stale, NO RISE
below the threshold, CROSSED by the TESTING loop with the largest rise above the tested loop's and at or
above the threshold, the lowest index on equal rises, else CONFIRMED; the rise is written but for NO
PROBE, the crossed loop for CROSSED only, which raises its notice. -/
def Obligations.VerdictFormed : Prop :=
  ∀ (s : State) (k : Fin 16), (s.loop k).state = .testing →
    let rise := fun j : Fin 16 => match s.loopReturn j, s.pattern.snapshot[j] with
      | some now, some before => some ((now : Int) - before)
      | _, _ => none
    let qualifies := fun (j : Fin 16) (own r : Int) => j ≠ k ∧ (s.loop j).state = .testing ∧
      rise j = some r ∧ own < r ∧ (s.pattern.arg2 : Int) ≤ r
    (rise k = none → s.writeVerdict k = s.setSweepResult k ⟨.noProbe, none, none⟩) ∧
    (∀ own : Int, rise k = some own →
      (own < s.pattern.arg2 →
        s.writeVerdict k = s.setSweepResult k ⟨.noRise, some own, none⟩) ∧
      ((s.pattern.arg2 : Int) ≤ own →
        ((∀ j r, ¬qualifies j own r) →
          s.writeVerdict k = s.setSweepResult k ⟨.confirmed, some own, none⟩) ∧
        (∀ (j : Fin 16) (r : Int), qualifies j own r →
          (∀ i q, qualifies i own q → q < r ∨ (q = r ∧ j ≤ i)) →
          s.writeVerdict k = (s.setSweepResult k ⟨.crossed, some own, some j⟩).raise .crossed
            (some k.val) (some (j.val : Int)))))

/-! ## What every step keeps -/

/-- Every configuration value stays in its range (R1, R3, R5, R7 to R9, R21, R37, R45, R118, R146). -/
def Obligations.ConfigurationStaysInRange : Prop :=
  ∀ s t : State, s.ConfigInRange → step s = .next t → t.ConfigInRange

/-- Published values and the report temperature stay within 0 to 5760, accumulators within the samples
they hold (R40, R53), so every loop return and supply in use lies there too. -/
def Obligations.TemperaturesStayInRange : Prop :=
  (∀ s t : State, s.TemperaturesInRange → step s = .next t → t.TemperaturesInRange) ∧
  (∀ (s : State) (i : Fin 16) (v : Nat), s.TemperaturesInRange →
    (s.loopReturn i = some v ∨ s.supplyInUse = some v) → v ≤ 5760)

/-- The pass queues never hold more than 8 telegrams, the notice queue never more than 16 entries and
never two of the same kind and subject (R111, R151). -/
def Obligations.QueuesStayBounded : Prop :=
  ∀ s t : State, s.QueuesBounded → step s = .next t → t.QueuesBounded

/-- No two enabled loops share a head, no room has more than three loops, nonzero unit addresses stay
unique, and the probe map stays free of conflicts (R4, R10, R23, R39). -/
def Obligations.TablesStayRelated : Prop :=
  ∀ s t : State, s.TablesRelated → step s = .next t → t.TablesRelated

/-- R82 and R83: 0 ≤ G ≤ R ≤ 4096 with G 0 unless the loop is RUNNING, and the sum of G × W over RUNNING
loops never exceeds Bavail of the latest allocation, in every state whose configuration is in range. -/
def Obligations.GrantsStayWithinBudget : Prop :=
  ∀ s t : State, s.ConfigInRange → s.GrantsBounded → s.FlowWithinBudget → step s = .next t →
    t.GrantsBounded ∧ t.FlowWithinBudget

/-- R84: in ACTIVE and HALTING modes every loop in the shed range has active and buffered duty 0; with it
the law that a loop out of the drive has no duty and no request. -/
def Obligations.ShedLoopsKeepNoDuty : Prop :=
  ∀ s t : State, s.IdleLoopsWithoutDuty → s.ShedLoopsWithoutDuty → step s = .next t →
    t.IdleLoopsWithoutDuty ∧ t.ShedLoopsWithoutDuty

/-- R98: the number of loops whose head holds a slot never exceeds Hmax; with everything it rests on: the
modes, the head-order list and the wait list in agreement with the heads, PASSIVE mode with nothing left
to send, and every loop out of the drive on its way to unpowered. -/
def Obligations.HeadArbiterStaysSound : Prop :=
  ∀ s t : State, s.ArbiterSound → step s = .next t → t.ArbiterSound

/-- The part right after reset satisfies every law above. -/
def Obligations.ResetSatisfiesEveryLaw : Prop :=
  State.reset.ConfigInRange ∧ State.reset.TemperaturesInRange ∧ State.reset.QueuesBounded ∧
  State.reset.TablesRelated ∧ State.reset.GrantsBounded ∧ State.reset.FlowWithinBudget ∧
  State.reset.IdleLoopsWithoutDuty ∧ State.reset.ShedLoopsWithoutDuty ∧ State.reset.ArbiterSound

/-- While the mode is PASSIVE no HEAD ORDER begins transmission: a head order that is on port M after a
step from PASSIVE mode was there before it, but for the mark a restart leaves on it (R142). -/
def Obligations.NoHeadOrderInPassive : Prop :=
  ∀ (s t : State) (i : Fin 16) (a : Machine.Action) (x : Telegram) (o : Bool),
    s.mode = .passive → step s = .next t → t.portM.tx = some (.headOrder i a x o) →
      ∃ o', s.portM.tx = some (.headOrder i a x o')
end

