-- ==== Sys2Proof/Laws/State.lean ====
section
/-! SUPPORT. One lemma for each field and each update of State: an update leaves every other field, and
an accessor after an update reads what was stored. -/

namespace Sys2Proof.Machine

open Sys2Proof

variable (s : State)

/-! ### setLoop -/

@[simp] theorem State.now_setLoop (i : Fin 16) (l : Loop) :
    (s.setLoop i l).now = s.now := rfl
@[simp] theorem State.pending_setLoop (i : Fin 16) (l : Loop) :
    (s.setLoop i l).pending = s.pending := rfl
@[simp] theorem State.strap_setLoop (i : Fin 16) (l : Loop) :
    (s.setLoop i l).strap = s.strap := rfl
@[simp] theorem State.mode_setLoop (i : Fin 16) (l : Loop) :
    (s.setLoop i l).mode = s.mode := rfl
@[simp] theorem State.lock_setLoop (i : Fin 16) (l : Loop) :
    (s.setLoop i l).lock = s.lock := rfl
@[simp] theorem State.t0_setLoop (i : Fin 16) (l : Loop) :
    (s.setLoop i l).t0 = s.t0 := rfl
@[simp] theorem State.general_setLoop (i : Fin 16) (l : Loop) :
    (s.setLoop i l).general = s.general := rfl
@[simp] theorem State.classes_setLoop (i : Fin 16) (l : Loop) :
    (s.setLoop i l).classes = s.classes := rfl
@[simp] theorem State.profiles_setLoop (i : Fin 16) (l : Loop) :
    (s.setLoop i l).profiles = s.profiles := rfl
@[simp] theorem State.rooms_setLoop (i : Fin 16) (l : Loop) :
    (s.setLoop i l).rooms = s.rooms := rfl
@[simp] theorem State.probes_setLoop (i : Fin 16) (l : Loop) :
    (s.setLoop i l).probes = s.probes := rfl
@[simp] theorem State.supply_setLoop (i : Fin 16) (l : Loop) :
    (s.setLoop i l).supply = s.supply := rfl
@[simp] theorem State.alloc_setLoop (i : Fin 16) (l : Loop) :
    (s.setLoop i l).alloc = s.alloc := rfl
@[simp] theorem State.orders_setLoop (i : Fin 16) (l : Loop) :
    (s.setLoop i l).orders = s.orders := rfl
@[simp] theorem State.waits_setLoop (i : Fin 16) (l : Loop) :
    (s.setLoop i l).waits = s.waits := rfl
@[simp] theorem State.portH_setLoop (i : Fin 16) (l : Loop) :
    (s.setLoop i l).portH = s.portH := rfl
@[simp] theorem State.portM_setLoop (i : Fin 16) (l : Loop) :
    (s.setLoop i l).portM = s.portM := rfl
@[simp] theorem State.rules_setLoop (i : Fin 16) (l : Loop) :
    (s.setLoop i l).rules = s.rules := rfl
@[simp] theorem State.pattern_setLoop (i : Fin 16) (l : Loop) :
    (s.setLoop i l).pattern = s.pattern := rfl
@[simp] theorem State.sweep_setLoop (i : Fin 16) (l : Loop) :
    (s.setLoop i l).sweep = s.sweep := rfl
@[simp] theorem State.answer_setLoop (i : Fin 16) (l : Loop) :
    (s.setLoop i l).answer = s.answer := rfl
@[simp] theorem State.notices_setLoop (i : Fin 16) (l : Loop) :
    (s.setLoop i l).notices = s.notices := rfl

@[simp] theorem State.floorClass_setLoop (i : Fin 16) (l : Loop) (j : Fin 4) :
    (s.setLoop i l).floorClass j = s.floorClass j := rfl
@[simp] theorem State.profile_setLoop (i : Fin 16) (l : Loop) (j : Fin 4) :
    (s.setLoop i l).profile j = s.profile j := rfl
@[simp] theorem State.room_setLoop (i : Fin 16) (l : Loop) (j : Fin 12) :
    (s.setLoop i l).room j = s.room j := rfl
@[simp] theorem State.probe_setLoop (i : Fin 16) (l : Loop) (j : Fin 32) :
    (s.setLoop i l).probe j = s.probe j := rfl
@[simp] theorem State.rule_setLoop (i : Fin 16) (l : Loop) (j : Fin 24) :
    (s.setLoop i l).rule j = s.rule j := rfl
@[simp] theorem State.sweepResult_setLoop (i : Fin 16) (l : Loop) (j : Fin 16) :
    (s.setLoop i l).sweepResult j = s.sweepResult j := rfl
@[simp] theorem State.port_setLoop (i : Fin 16) (l : Loop) (q : PortId) :
    (s.setLoop i l).port q = s.port q := by cases q <;> rfl

/-! ### updLoop -/

@[simp] theorem State.now_updLoop (i : Fin 16) (f : Loop → Loop) :
    (s.updLoop i f).now = s.now := rfl
@[simp] theorem State.pending_updLoop (i : Fin 16) (f : Loop → Loop) :
    (s.updLoop i f).pending = s.pending := rfl
@[simp] theorem State.strap_updLoop (i : Fin 16) (f : Loop → Loop) :
    (s.updLoop i f).strap = s.strap := rfl
@[simp] theorem State.mode_updLoop (i : Fin 16) (f : Loop → Loop) :
    (s.updLoop i f).mode = s.mode := rfl
@[simp] theorem State.lock_updLoop (i : Fin 16) (f : Loop → Loop) :
    (s.updLoop i f).lock = s.lock := rfl
@[simp] theorem State.t0_updLoop (i : Fin 16) (f : Loop → Loop) :
    (s.updLoop i f).t0 = s.t0 := rfl
@[simp] theorem State.general_updLoop (i : Fin 16) (f : Loop → Loop) :
    (s.updLoop i f).general = s.general := rfl
@[simp] theorem State.classes_updLoop (i : Fin 16) (f : Loop → Loop) :
    (s.updLoop i f).classes = s.classes := rfl
@[simp] theorem State.profiles_updLoop (i : Fin 16) (f : Loop → Loop) :
    (s.updLoop i f).profiles = s.profiles := rfl
@[simp] theorem State.rooms_updLoop (i : Fin 16) (f : Loop → Loop) :
    (s.updLoop i f).rooms = s.rooms := rfl
@[simp] theorem State.probes_updLoop (i : Fin 16) (f : Loop → Loop) :
    (s.updLoop i f).probes = s.probes := rfl
@[simp] theorem State.supply_updLoop (i : Fin 16) (f : Loop → Loop) :
    (s.updLoop i f).supply = s.supply := rfl
@[simp] theorem State.alloc_updLoop (i : Fin 16) (f : Loop → Loop) :
    (s.updLoop i f).alloc = s.alloc := rfl
@[simp] theorem State.orders_updLoop (i : Fin 16) (f : Loop → Loop) :
    (s.updLoop i f).orders = s.orders := rfl
@[simp] theorem State.waits_updLoop (i : Fin 16) (f : Loop → Loop) :
    (s.updLoop i f).waits = s.waits := rfl
@[simp] theorem State.portH_updLoop (i : Fin 16) (f : Loop → Loop) :
    (s.updLoop i f).portH = s.portH := rfl
@[simp] theorem State.portM_updLoop (i : Fin 16) (f : Loop → Loop) :
    (s.updLoop i f).portM = s.portM := rfl
@[simp] theorem State.rules_updLoop (i : Fin 16) (f : Loop → Loop) :
    (s.updLoop i f).rules = s.rules := rfl
@[simp] theorem State.pattern_updLoop (i : Fin 16) (f : Loop → Loop) :
    (s.updLoop i f).pattern = s.pattern := rfl
@[simp] theorem State.sweep_updLoop (i : Fin 16) (f : Loop → Loop) :
    (s.updLoop i f).sweep = s.sweep := rfl
@[simp] theorem State.answer_updLoop (i : Fin 16) (f : Loop → Loop) :
    (s.updLoop i f).answer = s.answer := rfl
@[simp] theorem State.notices_updLoop (i : Fin 16) (f : Loop → Loop) :
    (s.updLoop i f).notices = s.notices := rfl

@[simp] theorem State.floorClass_updLoop (i : Fin 16) (f : Loop → Loop) (j : Fin 4) :
    (s.updLoop i f).floorClass j = s.floorClass j := rfl
@[simp] theorem State.profile_updLoop (i : Fin 16) (f : Loop → Loop) (j : Fin 4) :
    (s.updLoop i f).profile j = s.profile j := rfl
@[simp] theorem State.room_updLoop (i : Fin 16) (f : Loop → Loop) (j : Fin 12) :
    (s.updLoop i f).room j = s.room j := rfl
@[simp] theorem State.probe_updLoop (i : Fin 16) (f : Loop → Loop) (j : Fin 32) :
    (s.updLoop i f).probe j = s.probe j := rfl
@[simp] theorem State.rule_updLoop (i : Fin 16) (f : Loop → Loop) (j : Fin 24) :
    (s.updLoop i f).rule j = s.rule j := rfl
@[simp] theorem State.sweepResult_updLoop (i : Fin 16) (f : Loop → Loop) (j : Fin 16) :
    (s.updLoop i f).sweepResult j = s.sweepResult j := rfl
@[simp] theorem State.port_updLoop (i : Fin 16) (f : Loop → Loop) (q : PortId) :
    (s.updLoop i f).port q = s.port q := by cases q <;> rfl

/-! ### mapLoops -/

@[simp] theorem State.now_mapLoops (f : Fin 16 → Loop → Loop) :
    (s.mapLoops f).now = s.now := by
  unfold State.mapLoops; rfl
@[simp] theorem State.pending_mapLoops (f : Fin 16 → Loop → Loop) :
    (s.mapLoops f).pending = s.pending := by
  unfold State.mapLoops; rfl
@[simp] theorem State.strap_mapLoops (f : Fin 16 → Loop → Loop) :
    (s.mapLoops f).strap = s.strap := by
  unfold State.mapLoops; rfl
@[simp] theorem State.mode_mapLoops (f : Fin 16 → Loop → Loop) :
    (s.mapLoops f).mode = s.mode := by
  unfold State.mapLoops; rfl
@[simp] theorem State.lock_mapLoops (f : Fin 16 → Loop → Loop) :
    (s.mapLoops f).lock = s.lock := by
  unfold State.mapLoops; rfl
@[simp] theorem State.t0_mapLoops (f : Fin 16 → Loop → Loop) :
    (s.mapLoops f).t0 = s.t0 := by
  unfold State.mapLoops; rfl
@[simp] theorem State.general_mapLoops (f : Fin 16 → Loop → Loop) :
    (s.mapLoops f).general = s.general := by
  unfold State.mapLoops; rfl
@[simp] theorem State.classes_mapLoops (f : Fin 16 → Loop → Loop) :
    (s.mapLoops f).classes = s.classes := by
  unfold State.mapLoops; rfl
@[simp] theorem State.profiles_mapLoops (f : Fin 16 → Loop → Loop) :
    (s.mapLoops f).profiles = s.profiles := by
  unfold State.mapLoops; rfl
@[simp] theorem State.rooms_mapLoops (f : Fin 16 → Loop → Loop) :
    (s.mapLoops f).rooms = s.rooms := by
  unfold State.mapLoops; rfl
@[simp] theorem State.probes_mapLoops (f : Fin 16 → Loop → Loop) :
    (s.mapLoops f).probes = s.probes := by
  unfold State.mapLoops; rfl
@[simp] theorem State.supply_mapLoops (f : Fin 16 → Loop → Loop) :
    (s.mapLoops f).supply = s.supply := by
  unfold State.mapLoops; rfl
@[simp] theorem State.alloc_mapLoops (f : Fin 16 → Loop → Loop) :
    (s.mapLoops f).alloc = s.alloc := by
  unfold State.mapLoops; rfl
@[simp] theorem State.orders_mapLoops (f : Fin 16 → Loop → Loop) :
    (s.mapLoops f).orders = s.orders := by
  unfold State.mapLoops; rfl
@[simp] theorem State.waits_mapLoops (f : Fin 16 → Loop → Loop) :
    (s.mapLoops f).waits = s.waits := by
  unfold State.mapLoops; rfl
@[simp] theorem State.portH_mapLoops (f : Fin 16 → Loop → Loop) :
    (s.mapLoops f).portH = s.portH := by
  unfold State.mapLoops; rfl
@[simp] theorem State.portM_mapLoops (f : Fin 16 → Loop → Loop) :
    (s.mapLoops f).portM = s.portM := by
  unfold State.mapLoops; rfl
@[simp] theorem State.rules_mapLoops (f : Fin 16 → Loop → Loop) :
    (s.mapLoops f).rules = s.rules := by
  unfold State.mapLoops; rfl
@[simp] theorem State.pattern_mapLoops (f : Fin 16 → Loop → Loop) :
    (s.mapLoops f).pattern = s.pattern := by
  unfold State.mapLoops; rfl
@[simp] theorem State.sweep_mapLoops (f : Fin 16 → Loop → Loop) :
    (s.mapLoops f).sweep = s.sweep := by
  unfold State.mapLoops; rfl
@[simp] theorem State.answer_mapLoops (f : Fin 16 → Loop → Loop) :
    (s.mapLoops f).answer = s.answer := by
  unfold State.mapLoops; rfl
@[simp] theorem State.notices_mapLoops (f : Fin 16 → Loop → Loop) :
    (s.mapLoops f).notices = s.notices := by
  unfold State.mapLoops; rfl

@[simp] theorem State.floorClass_mapLoops (f : Fin 16 → Loop → Loop) (j : Fin 4) :
    (s.mapLoops f).floorClass j = s.floorClass j := by
  unfold State.mapLoops; rfl
@[simp] theorem State.profile_mapLoops (f : Fin 16 → Loop → Loop) (j : Fin 4) :
    (s.mapLoops f).profile j = s.profile j := by
  unfold State.mapLoops; rfl
@[simp] theorem State.room_mapLoops (f : Fin 16 → Loop → Loop) (j : Fin 12) :
    (s.mapLoops f).room j = s.room j := by
  unfold State.mapLoops; rfl
@[simp] theorem State.probe_mapLoops (f : Fin 16 → Loop → Loop) (j : Fin 32) :
    (s.mapLoops f).probe j = s.probe j := by
  unfold State.mapLoops; rfl
@[simp] theorem State.rule_mapLoops (f : Fin 16 → Loop → Loop) (j : Fin 24) :
    (s.mapLoops f).rule j = s.rule j := by
  unfold State.mapLoops; rfl
@[simp] theorem State.sweepResult_mapLoops (f : Fin 16 → Loop → Loop) (j : Fin 16) :
    (s.mapLoops f).sweepResult j = s.sweepResult j := by
  unfold State.mapLoops; rfl
@[simp] theorem State.port_mapLoops (f : Fin 16 → Loop → Loop) (q : PortId) :
    (s.mapLoops f).port q = s.port q := by cases q <;> rfl

/-! ### setFloorClass -/

@[simp] theorem State.now_setFloorClass (c : Fin 4) (k : FloorClass) :
    (s.setFloorClass c k).now = s.now := rfl
@[simp] theorem State.pending_setFloorClass (c : Fin 4) (k : FloorClass) :
    (s.setFloorClass c k).pending = s.pending := rfl
@[simp] theorem State.strap_setFloorClass (c : Fin 4) (k : FloorClass) :
    (s.setFloorClass c k).strap = s.strap := rfl
@[simp] theorem State.mode_setFloorClass (c : Fin 4) (k : FloorClass) :
    (s.setFloorClass c k).mode = s.mode := rfl
@[simp] theorem State.lock_setFloorClass (c : Fin 4) (k : FloorClass) :
    (s.setFloorClass c k).lock = s.lock := rfl
@[simp] theorem State.t0_setFloorClass (c : Fin 4) (k : FloorClass) :
    (s.setFloorClass c k).t0 = s.t0 := rfl
@[simp] theorem State.general_setFloorClass (c : Fin 4) (k : FloorClass) :
    (s.setFloorClass c k).general = s.general := rfl
@[simp] theorem State.loops_setFloorClass (c : Fin 4) (k : FloorClass) :
    (s.setFloorClass c k).loops = s.loops := rfl
@[simp] theorem State.profiles_setFloorClass (c : Fin 4) (k : FloorClass) :
    (s.setFloorClass c k).profiles = s.profiles := rfl
@[simp] theorem State.rooms_setFloorClass (c : Fin 4) (k : FloorClass) :
    (s.setFloorClass c k).rooms = s.rooms := rfl
@[simp] theorem State.probes_setFloorClass (c : Fin 4) (k : FloorClass) :
    (s.setFloorClass c k).probes = s.probes := rfl
@[simp] theorem State.supply_setFloorClass (c : Fin 4) (k : FloorClass) :
    (s.setFloorClass c k).supply = s.supply := rfl
@[simp] theorem State.alloc_setFloorClass (c : Fin 4) (k : FloorClass) :
    (s.setFloorClass c k).alloc = s.alloc := rfl
@[simp] theorem State.orders_setFloorClass (c : Fin 4) (k : FloorClass) :
    (s.setFloorClass c k).orders = s.orders := rfl
@[simp] theorem State.waits_setFloorClass (c : Fin 4) (k : FloorClass) :
    (s.setFloorClass c k).waits = s.waits := rfl
@[simp] theorem State.portH_setFloorClass (c : Fin 4) (k : FloorClass) :
    (s.setFloorClass c k).portH = s.portH := rfl
@[simp] theorem State.portM_setFloorClass (c : Fin 4) (k : FloorClass) :
    (s.setFloorClass c k).portM = s.portM := rfl
@[simp] theorem State.rules_setFloorClass (c : Fin 4) (k : FloorClass) :
    (s.setFloorClass c k).rules = s.rules := rfl
@[simp] theorem State.pattern_setFloorClass (c : Fin 4) (k : FloorClass) :
    (s.setFloorClass c k).pattern = s.pattern := rfl
@[simp] theorem State.sweep_setFloorClass (c : Fin 4) (k : FloorClass) :
    (s.setFloorClass c k).sweep = s.sweep := rfl
@[simp] theorem State.answer_setFloorClass (c : Fin 4) (k : FloorClass) :
    (s.setFloorClass c k).answer = s.answer := rfl
@[simp] theorem State.notices_setFloorClass (c : Fin 4) (k : FloorClass) :
    (s.setFloorClass c k).notices = s.notices := rfl

@[simp] theorem State.loop_setFloorClass (c : Fin 4) (k : FloorClass) (j : Fin 16) :
    (s.setFloorClass c k).loop j = s.loop j := rfl
@[simp] theorem State.profile_setFloorClass (c : Fin 4) (k : FloorClass) (j : Fin 4) :
    (s.setFloorClass c k).profile j = s.profile j := rfl
@[simp] theorem State.room_setFloorClass (c : Fin 4) (k : FloorClass) (j : Fin 12) :
    (s.setFloorClass c k).room j = s.room j := rfl
@[simp] theorem State.probe_setFloorClass (c : Fin 4) (k : FloorClass) (j : Fin 32) :
    (s.setFloorClass c k).probe j = s.probe j := rfl
@[simp] theorem State.rule_setFloorClass (c : Fin 4) (k : FloorClass) (j : Fin 24) :
    (s.setFloorClass c k).rule j = s.rule j := rfl
@[simp] theorem State.sweepResult_setFloorClass (c : Fin 4) (k : FloorClass) (j : Fin 16) :
    (s.setFloorClass c k).sweepResult j = s.sweepResult j := rfl
@[simp] theorem State.port_setFloorClass (c : Fin 4) (k : FloorClass) (q : PortId) :
    (s.setFloorClass c k).port q = s.port q := by cases q <;> rfl

/-! ### setProfile -/

@[simp] theorem State.now_setProfile (p : Fin 4) (k : Profile) :
    (s.setProfile p k).now = s.now := rfl
@[simp] theorem State.pending_setProfile (p : Fin 4) (k : Profile) :
    (s.setProfile p k).pending = s.pending := rfl
@[simp] theorem State.strap_setProfile (p : Fin 4) (k : Profile) :
    (s.setProfile p k).strap = s.strap := rfl
@[simp] theorem State.mode_setProfile (p : Fin 4) (k : Profile) :
    (s.setProfile p k).mode = s.mode := rfl
@[simp] theorem State.lock_setProfile (p : Fin 4) (k : Profile) :
    (s.setProfile p k).lock = s.lock := rfl
@[simp] theorem State.t0_setProfile (p : Fin 4) (k : Profile) :
    (s.setProfile p k).t0 = s.t0 := rfl
@[simp] theorem State.general_setProfile (p : Fin 4) (k : Profile) :
    (s.setProfile p k).general = s.general := rfl
@[simp] theorem State.loops_setProfile (p : Fin 4) (k : Profile) :
    (s.setProfile p k).loops = s.loops := rfl
@[simp] theorem State.classes_setProfile (p : Fin 4) (k : Profile) :
    (s.setProfile p k).classes = s.classes := rfl
@[simp] theorem State.rooms_setProfile (p : Fin 4) (k : Profile) :
    (s.setProfile p k).rooms = s.rooms := rfl
@[simp] theorem State.probes_setProfile (p : Fin 4) (k : Profile) :
    (s.setProfile p k).probes = s.probes := rfl
@[simp] theorem State.supply_setProfile (p : Fin 4) (k : Profile) :
    (s.setProfile p k).supply = s.supply := rfl
@[simp] theorem State.alloc_setProfile (p : Fin 4) (k : Profile) :
    (s.setProfile p k).alloc = s.alloc := rfl
@[simp] theorem State.orders_setProfile (p : Fin 4) (k : Profile) :
    (s.setProfile p k).orders = s.orders := rfl
@[simp] theorem State.waits_setProfile (p : Fin 4) (k : Profile) :
    (s.setProfile p k).waits = s.waits := rfl
@[simp] theorem State.portH_setProfile (p : Fin 4) (k : Profile) :
    (s.setProfile p k).portH = s.portH := rfl
@[simp] theorem State.portM_setProfile (p : Fin 4) (k : Profile) :
    (s.setProfile p k).portM = s.portM := rfl
@[simp] theorem State.rules_setProfile (p : Fin 4) (k : Profile) :
    (s.setProfile p k).rules = s.rules := rfl
@[simp] theorem State.pattern_setProfile (p : Fin 4) (k : Profile) :
    (s.setProfile p k).pattern = s.pattern := rfl
@[simp] theorem State.sweep_setProfile (p : Fin 4) (k : Profile) :
    (s.setProfile p k).sweep = s.sweep := rfl
@[simp] theorem State.answer_setProfile (p : Fin 4) (k : Profile) :
    (s.setProfile p k).answer = s.answer := rfl
@[simp] theorem State.notices_setProfile (p : Fin 4) (k : Profile) :
    (s.setProfile p k).notices = s.notices := rfl

@[simp] theorem State.loop_setProfile (p : Fin 4) (k : Profile) (j : Fin 16) :
    (s.setProfile p k).loop j = s.loop j := rfl
@[simp] theorem State.floorClass_setProfile (p : Fin 4) (k : Profile) (j : Fin 4) :
    (s.setProfile p k).floorClass j = s.floorClass j := rfl
@[simp] theorem State.room_setProfile (p : Fin 4) (k : Profile) (j : Fin 12) :
    (s.setProfile p k).room j = s.room j := rfl
@[simp] theorem State.probe_setProfile (p : Fin 4) (k : Profile) (j : Fin 32) :
    (s.setProfile p k).probe j = s.probe j := rfl
@[simp] theorem State.rule_setProfile (p : Fin 4) (k : Profile) (j : Fin 24) :
    (s.setProfile p k).rule j = s.rule j := rfl
@[simp] theorem State.sweepResult_setProfile (p : Fin 4) (k : Profile) (j : Fin 16) :
    (s.setProfile p k).sweepResult j = s.sweepResult j := rfl
@[simp] theorem State.port_setProfile (p : Fin 4) (k : Profile) (q : PortId) :
    (s.setProfile p k).port q = s.port q := by cases q <;> rfl

/-! ### setRoom -/

@[simp] theorem State.now_setRoom (r : Fin 12) (k : Room) :
    (s.setRoom r k).now = s.now := rfl
@[simp] theorem State.pending_setRoom (r : Fin 12) (k : Room) :
    (s.setRoom r k).pending = s.pending := rfl
@[simp] theorem State.strap_setRoom (r : Fin 12) (k : Room) :
    (s.setRoom r k).strap = s.strap := rfl
@[simp] theorem State.mode_setRoom (r : Fin 12) (k : Room) :
    (s.setRoom r k).mode = s.mode := rfl
@[simp] theorem State.lock_setRoom (r : Fin 12) (k : Room) :
    (s.setRoom r k).lock = s.lock := rfl
@[simp] theorem State.t0_setRoom (r : Fin 12) (k : Room) :
    (s.setRoom r k).t0 = s.t0 := rfl
@[simp] theorem State.general_setRoom (r : Fin 12) (k : Room) :
    (s.setRoom r k).general = s.general := rfl
@[simp] theorem State.loops_setRoom (r : Fin 12) (k : Room) :
    (s.setRoom r k).loops = s.loops := rfl
@[simp] theorem State.classes_setRoom (r : Fin 12) (k : Room) :
    (s.setRoom r k).classes = s.classes := rfl
@[simp] theorem State.profiles_setRoom (r : Fin 12) (k : Room) :
    (s.setRoom r k).profiles = s.profiles := rfl
@[simp] theorem State.probes_setRoom (r : Fin 12) (k : Room) :
    (s.setRoom r k).probes = s.probes := rfl
@[simp] theorem State.supply_setRoom (r : Fin 12) (k : Room) :
    (s.setRoom r k).supply = s.supply := rfl
@[simp] theorem State.alloc_setRoom (r : Fin 12) (k : Room) :
    (s.setRoom r k).alloc = s.alloc := rfl
@[simp] theorem State.orders_setRoom (r : Fin 12) (k : Room) :
    (s.setRoom r k).orders = s.orders := rfl
@[simp] theorem State.waits_setRoom (r : Fin 12) (k : Room) :
    (s.setRoom r k).waits = s.waits := rfl
@[simp] theorem State.portH_setRoom (r : Fin 12) (k : Room) :
    (s.setRoom r k).portH = s.portH := rfl
@[simp] theorem State.portM_setRoom (r : Fin 12) (k : Room) :
    (s.setRoom r k).portM = s.portM := rfl
@[simp] theorem State.rules_setRoom (r : Fin 12) (k : Room) :
    (s.setRoom r k).rules = s.rules := rfl
@[simp] theorem State.pattern_setRoom (r : Fin 12) (k : Room) :
    (s.setRoom r k).pattern = s.pattern := rfl
@[simp] theorem State.sweep_setRoom (r : Fin 12) (k : Room) :
    (s.setRoom r k).sweep = s.sweep := rfl
@[simp] theorem State.answer_setRoom (r : Fin 12) (k : Room) :
    (s.setRoom r k).answer = s.answer := rfl
@[simp] theorem State.notices_setRoom (r : Fin 12) (k : Room) :
    (s.setRoom r k).notices = s.notices := rfl

@[simp] theorem State.loop_setRoom (r : Fin 12) (k : Room) (j : Fin 16) :
    (s.setRoom r k).loop j = s.loop j := rfl
@[simp] theorem State.floorClass_setRoom (r : Fin 12) (k : Room) (j : Fin 4) :
    (s.setRoom r k).floorClass j = s.floorClass j := rfl
@[simp] theorem State.profile_setRoom (r : Fin 12) (k : Room) (j : Fin 4) :
    (s.setRoom r k).profile j = s.profile j := rfl
@[simp] theorem State.probe_setRoom (r : Fin 12) (k : Room) (j : Fin 32) :
    (s.setRoom r k).probe j = s.probe j := rfl
@[simp] theorem State.rule_setRoom (r : Fin 12) (k : Room) (j : Fin 24) :
    (s.setRoom r k).rule j = s.rule j := rfl
@[simp] theorem State.sweepResult_setRoom (r : Fin 12) (k : Room) (j : Fin 16) :
    (s.setRoom r k).sweepResult j = s.sweepResult j := rfl
@[simp] theorem State.port_setRoom (r : Fin 12) (k : Room) (q : PortId) :
    (s.setRoom r k).port q = s.port q := by cases q <;> rfl

/-! ### setProbe -/

@[simp] theorem State.now_setProbe (e : Fin 32) (k : Probe) :
    (s.setProbe e k).now = s.now := rfl
@[simp] theorem State.pending_setProbe (e : Fin 32) (k : Probe) :
    (s.setProbe e k).pending = s.pending := rfl
@[simp] theorem State.strap_setProbe (e : Fin 32) (k : Probe) :
    (s.setProbe e k).strap = s.strap := rfl
@[simp] theorem State.mode_setProbe (e : Fin 32) (k : Probe) :
    (s.setProbe e k).mode = s.mode := rfl
@[simp] theorem State.lock_setProbe (e : Fin 32) (k : Probe) :
    (s.setProbe e k).lock = s.lock := rfl
@[simp] theorem State.t0_setProbe (e : Fin 32) (k : Probe) :
    (s.setProbe e k).t0 = s.t0 := rfl
@[simp] theorem State.general_setProbe (e : Fin 32) (k : Probe) :
    (s.setProbe e k).general = s.general := rfl
@[simp] theorem State.loops_setProbe (e : Fin 32) (k : Probe) :
    (s.setProbe e k).loops = s.loops := rfl
@[simp] theorem State.classes_setProbe (e : Fin 32) (k : Probe) :
    (s.setProbe e k).classes = s.classes := rfl
@[simp] theorem State.profiles_setProbe (e : Fin 32) (k : Probe) :
    (s.setProbe e k).profiles = s.profiles := rfl
@[simp] theorem State.rooms_setProbe (e : Fin 32) (k : Probe) :
    (s.setProbe e k).rooms = s.rooms := rfl
@[simp] theorem State.supply_setProbe (e : Fin 32) (k : Probe) :
    (s.setProbe e k).supply = s.supply := rfl
@[simp] theorem State.alloc_setProbe (e : Fin 32) (k : Probe) :
    (s.setProbe e k).alloc = s.alloc := rfl
@[simp] theorem State.orders_setProbe (e : Fin 32) (k : Probe) :
    (s.setProbe e k).orders = s.orders := rfl
@[simp] theorem State.waits_setProbe (e : Fin 32) (k : Probe) :
    (s.setProbe e k).waits = s.waits := rfl
@[simp] theorem State.portH_setProbe (e : Fin 32) (k : Probe) :
    (s.setProbe e k).portH = s.portH := rfl
@[simp] theorem State.portM_setProbe (e : Fin 32) (k : Probe) :
    (s.setProbe e k).portM = s.portM := rfl
@[simp] theorem State.rules_setProbe (e : Fin 32) (k : Probe) :
    (s.setProbe e k).rules = s.rules := rfl
@[simp] theorem State.pattern_setProbe (e : Fin 32) (k : Probe) :
    (s.setProbe e k).pattern = s.pattern := rfl
@[simp] theorem State.sweep_setProbe (e : Fin 32) (k : Probe) :
    (s.setProbe e k).sweep = s.sweep := rfl
@[simp] theorem State.answer_setProbe (e : Fin 32) (k : Probe) :
    (s.setProbe e k).answer = s.answer := rfl
@[simp] theorem State.notices_setProbe (e : Fin 32) (k : Probe) :
    (s.setProbe e k).notices = s.notices := rfl

@[simp] theorem State.loop_setProbe (e : Fin 32) (k : Probe) (j : Fin 16) :
    (s.setProbe e k).loop j = s.loop j := rfl
@[simp] theorem State.floorClass_setProbe (e : Fin 32) (k : Probe) (j : Fin 4) :
    (s.setProbe e k).floorClass j = s.floorClass j := rfl
@[simp] theorem State.profile_setProbe (e : Fin 32) (k : Probe) (j : Fin 4) :
    (s.setProbe e k).profile j = s.profile j := rfl
@[simp] theorem State.room_setProbe (e : Fin 32) (k : Probe) (j : Fin 12) :
    (s.setProbe e k).room j = s.room j := rfl
@[simp] theorem State.rule_setProbe (e : Fin 32) (k : Probe) (j : Fin 24) :
    (s.setProbe e k).rule j = s.rule j := rfl
@[simp] theorem State.sweepResult_setProbe (e : Fin 32) (k : Probe) (j : Fin 16) :
    (s.setProbe e k).sweepResult j = s.sweepResult j := rfl
@[simp] theorem State.port_setProbe (e : Fin 32) (k : Probe) (q : PortId) :
    (s.setProbe e k).port q = s.port q := by cases q <;> rfl

/-! ### setRule -/

@[simp] theorem State.now_setRule (r : Fin 24) (k : Rule) :
    (s.setRule r k).now = s.now := rfl
@[simp] theorem State.pending_setRule (r : Fin 24) (k : Rule) :
    (s.setRule r k).pending = s.pending := rfl
@[simp] theorem State.strap_setRule (r : Fin 24) (k : Rule) :
    (s.setRule r k).strap = s.strap := rfl
@[simp] theorem State.mode_setRule (r : Fin 24) (k : Rule) :
    (s.setRule r k).mode = s.mode := rfl
@[simp] theorem State.lock_setRule (r : Fin 24) (k : Rule) :
    (s.setRule r k).lock = s.lock := rfl
@[simp] theorem State.t0_setRule (r : Fin 24) (k : Rule) :
    (s.setRule r k).t0 = s.t0 := rfl
@[simp] theorem State.general_setRule (r : Fin 24) (k : Rule) :
    (s.setRule r k).general = s.general := rfl
@[simp] theorem State.loops_setRule (r : Fin 24) (k : Rule) :
    (s.setRule r k).loops = s.loops := rfl
@[simp] theorem State.classes_setRule (r : Fin 24) (k : Rule) :
    (s.setRule r k).classes = s.classes := rfl
@[simp] theorem State.profiles_setRule (r : Fin 24) (k : Rule) :
    (s.setRule r k).profiles = s.profiles := rfl
@[simp] theorem State.rooms_setRule (r : Fin 24) (k : Rule) :
    (s.setRule r k).rooms = s.rooms := rfl
@[simp] theorem State.probes_setRule (r : Fin 24) (k : Rule) :
    (s.setRule r k).probes = s.probes := rfl
@[simp] theorem State.supply_setRule (r : Fin 24) (k : Rule) :
    (s.setRule r k).supply = s.supply := rfl
@[simp] theorem State.alloc_setRule (r : Fin 24) (k : Rule) :
    (s.setRule r k).alloc = s.alloc := rfl
@[simp] theorem State.orders_setRule (r : Fin 24) (k : Rule) :
    (s.setRule r k).orders = s.orders := rfl
@[simp] theorem State.waits_setRule (r : Fin 24) (k : Rule) :
    (s.setRule r k).waits = s.waits := rfl
@[simp] theorem State.portH_setRule (r : Fin 24) (k : Rule) :
    (s.setRule r k).portH = s.portH := rfl
@[simp] theorem State.portM_setRule (r : Fin 24) (k : Rule) :
    (s.setRule r k).portM = s.portM := rfl
@[simp] theorem State.pattern_setRule (r : Fin 24) (k : Rule) :
    (s.setRule r k).pattern = s.pattern := rfl
@[simp] theorem State.sweep_setRule (r : Fin 24) (k : Rule) :
    (s.setRule r k).sweep = s.sweep := rfl
@[simp] theorem State.answer_setRule (r : Fin 24) (k : Rule) :
    (s.setRule r k).answer = s.answer := rfl
@[simp] theorem State.notices_setRule (r : Fin 24) (k : Rule) :
    (s.setRule r k).notices = s.notices := rfl

@[simp] theorem State.loop_setRule (r : Fin 24) (k : Rule) (j : Fin 16) :
    (s.setRule r k).loop j = s.loop j := rfl
@[simp] theorem State.floorClass_setRule (r : Fin 24) (k : Rule) (j : Fin 4) :
    (s.setRule r k).floorClass j = s.floorClass j := rfl
@[simp] theorem State.profile_setRule (r : Fin 24) (k : Rule) (j : Fin 4) :
    (s.setRule r k).profile j = s.profile j := rfl
@[simp] theorem State.room_setRule (r : Fin 24) (k : Rule) (j : Fin 12) :
    (s.setRule r k).room j = s.room j := rfl
@[simp] theorem State.probe_setRule (r : Fin 24) (k : Rule) (j : Fin 32) :
    (s.setRule r k).probe j = s.probe j := rfl
@[simp] theorem State.sweepResult_setRule (r : Fin 24) (k : Rule) (j : Fin 16) :
    (s.setRule r k).sweepResult j = s.sweepResult j := rfl
@[simp] theorem State.port_setRule (r : Fin 24) (k : Rule) (q : PortId) :
    (s.setRule r k).port q = s.port q := by cases q <;> rfl

/-! ### setSweepResult -/

@[simp] theorem State.now_setSweepResult (i : Fin 16) (k : SweepResult) :
    (s.setSweepResult i k).now = s.now := rfl
@[simp] theorem State.pending_setSweepResult (i : Fin 16) (k : SweepResult) :
    (s.setSweepResult i k).pending = s.pending := rfl
@[simp] theorem State.strap_setSweepResult (i : Fin 16) (k : SweepResult) :
    (s.setSweepResult i k).strap = s.strap := rfl
@[simp] theorem State.mode_setSweepResult (i : Fin 16) (k : SweepResult) :
    (s.setSweepResult i k).mode = s.mode := rfl
@[simp] theorem State.lock_setSweepResult (i : Fin 16) (k : SweepResult) :
    (s.setSweepResult i k).lock = s.lock := rfl
@[simp] theorem State.t0_setSweepResult (i : Fin 16) (k : SweepResult) :
    (s.setSweepResult i k).t0 = s.t0 := rfl
@[simp] theorem State.general_setSweepResult (i : Fin 16) (k : SweepResult) :
    (s.setSweepResult i k).general = s.general := rfl
@[simp] theorem State.loops_setSweepResult (i : Fin 16) (k : SweepResult) :
    (s.setSweepResult i k).loops = s.loops := rfl
@[simp] theorem State.classes_setSweepResult (i : Fin 16) (k : SweepResult) :
    (s.setSweepResult i k).classes = s.classes := rfl
@[simp] theorem State.profiles_setSweepResult (i : Fin 16) (k : SweepResult) :
    (s.setSweepResult i k).profiles = s.profiles := rfl
@[simp] theorem State.rooms_setSweepResult (i : Fin 16) (k : SweepResult) :
    (s.setSweepResult i k).rooms = s.rooms := rfl
@[simp] theorem State.probes_setSweepResult (i : Fin 16) (k : SweepResult) :
    (s.setSweepResult i k).probes = s.probes := rfl
@[simp] theorem State.supply_setSweepResult (i : Fin 16) (k : SweepResult) :
    (s.setSweepResult i k).supply = s.supply := rfl
@[simp] theorem State.alloc_setSweepResult (i : Fin 16) (k : SweepResult) :
    (s.setSweepResult i k).alloc = s.alloc := rfl
@[simp] theorem State.orders_setSweepResult (i : Fin 16) (k : SweepResult) :
    (s.setSweepResult i k).orders = s.orders := rfl
@[simp] theorem State.waits_setSweepResult (i : Fin 16) (k : SweepResult) :
    (s.setSweepResult i k).waits = s.waits := rfl
@[simp] theorem State.portH_setSweepResult (i : Fin 16) (k : SweepResult) :
    (s.setSweepResult i k).portH = s.portH := rfl
@[simp] theorem State.portM_setSweepResult (i : Fin 16) (k : SweepResult) :
    (s.setSweepResult i k).portM = s.portM := rfl
@[simp] theorem State.rules_setSweepResult (i : Fin 16) (k : SweepResult) :
    (s.setSweepResult i k).rules = s.rules := rfl
@[simp] theorem State.pattern_setSweepResult (i : Fin 16) (k : SweepResult) :
    (s.setSweepResult i k).pattern = s.pattern := rfl
@[simp] theorem State.answer_setSweepResult (i : Fin 16) (k : SweepResult) :
    (s.setSweepResult i k).answer = s.answer := rfl
@[simp] theorem State.notices_setSweepResult (i : Fin 16) (k : SweepResult) :
    (s.setSweepResult i k).notices = s.notices := rfl

@[simp] theorem State.loop_setSweepResult (i : Fin 16) (k : SweepResult) (j : Fin 16) :
    (s.setSweepResult i k).loop j = s.loop j := rfl
@[simp] theorem State.floorClass_setSweepResult (i : Fin 16) (k : SweepResult) (j : Fin 4) :
    (s.setSweepResult i k).floorClass j = s.floorClass j := rfl
@[simp] theorem State.profile_setSweepResult (i : Fin 16) (k : SweepResult) (j : Fin 4) :
    (s.setSweepResult i k).profile j = s.profile j := rfl
@[simp] theorem State.room_setSweepResult (i : Fin 16) (k : SweepResult) (j : Fin 12) :
    (s.setSweepResult i k).room j = s.room j := rfl
@[simp] theorem State.probe_setSweepResult (i : Fin 16) (k : SweepResult) (j : Fin 32) :
    (s.setSweepResult i k).probe j = s.probe j := rfl
@[simp] theorem State.rule_setSweepResult (i : Fin 16) (k : SweepResult) (j : Fin 24) :
    (s.setSweepResult i k).rule j = s.rule j := rfl
@[simp] theorem State.port_setSweepResult (i : Fin 16) (k : SweepResult) (q : PortId) :
    (s.setSweepResult i k).port q = s.port q := by cases q <;> rfl

/-! ### raise -/

@[simp] theorem State.now_raise (k : NoticeKind) (n : Option Nat) (v : Option Int) :
    (s.raise k n v).now = s.now := rfl
@[simp] theorem State.pending_raise (k : NoticeKind) (n : Option Nat) (v : Option Int) :
    (s.raise k n v).pending = s.pending := rfl
@[simp] theorem State.strap_raise (k : NoticeKind) (n : Option Nat) (v : Option Int) :
    (s.raise k n v).strap = s.strap := rfl
@[simp] theorem State.mode_raise (k : NoticeKind) (n : Option Nat) (v : Option Int) :
    (s.raise k n v).mode = s.mode := rfl
@[simp] theorem State.lock_raise (k : NoticeKind) (n : Option Nat) (v : Option Int) :
    (s.raise k n v).lock = s.lock := rfl
@[simp] theorem State.t0_raise (k : NoticeKind) (n : Option Nat) (v : Option Int) :
    (s.raise k n v).t0 = s.t0 := rfl
@[simp] theorem State.general_raise (k : NoticeKind) (n : Option Nat) (v : Option Int) :
    (s.raise k n v).general = s.general := rfl
@[simp] theorem State.loops_raise (k : NoticeKind) (n : Option Nat) (v : Option Int) :
    (s.raise k n v).loops = s.loops := rfl
@[simp] theorem State.classes_raise (k : NoticeKind) (n : Option Nat) (v : Option Int) :
    (s.raise k n v).classes = s.classes := rfl
@[simp] theorem State.profiles_raise (k : NoticeKind) (n : Option Nat) (v : Option Int) :
    (s.raise k n v).profiles = s.profiles := rfl
@[simp] theorem State.rooms_raise (k : NoticeKind) (n : Option Nat) (v : Option Int) :
    (s.raise k n v).rooms = s.rooms := rfl
@[simp] theorem State.probes_raise (k : NoticeKind) (n : Option Nat) (v : Option Int) :
    (s.raise k n v).probes = s.probes := rfl
@[simp] theorem State.supply_raise (k : NoticeKind) (n : Option Nat) (v : Option Int) :
    (s.raise k n v).supply = s.supply := rfl
@[simp] theorem State.alloc_raise (k : NoticeKind) (n : Option Nat) (v : Option Int) :
    (s.raise k n v).alloc = s.alloc := rfl
@[simp] theorem State.orders_raise (k : NoticeKind) (n : Option Nat) (v : Option Int) :
    (s.raise k n v).orders = s.orders := rfl
@[simp] theorem State.waits_raise (k : NoticeKind) (n : Option Nat) (v : Option Int) :
    (s.raise k n v).waits = s.waits := rfl
@[simp] theorem State.portH_raise (k : NoticeKind) (n : Option Nat) (v : Option Int) :
    (s.raise k n v).portH = s.portH := rfl
@[simp] theorem State.portM_raise (k : NoticeKind) (n : Option Nat) (v : Option Int) :
    (s.raise k n v).portM = s.portM := rfl
@[simp] theorem State.rules_raise (k : NoticeKind) (n : Option Nat) (v : Option Int) :
    (s.raise k n v).rules = s.rules := rfl
@[simp] theorem State.pattern_raise (k : NoticeKind) (n : Option Nat) (v : Option Int) :
    (s.raise k n v).pattern = s.pattern := rfl
@[simp] theorem State.sweep_raise (k : NoticeKind) (n : Option Nat) (v : Option Int) :
    (s.raise k n v).sweep = s.sweep := rfl
@[simp] theorem State.answer_raise (k : NoticeKind) (n : Option Nat) (v : Option Int) :
    (s.raise k n v).answer = s.answer := rfl

@[simp] theorem State.loop_raise (k : NoticeKind) (n : Option Nat) (v : Option Int) (j : Fin 16) :
    (s.raise k n v).loop j = s.loop j := rfl
@[simp] theorem State.floorClass_raise (k : NoticeKind) (n : Option Nat) (v : Option Int) (j : Fin 4) :
    (s.raise k n v).floorClass j = s.floorClass j := rfl
@[simp] theorem State.profile_raise (k : NoticeKind) (n : Option Nat) (v : Option Int) (j : Fin 4) :
    (s.raise k n v).profile j = s.profile j := rfl
@[simp] theorem State.room_raise (k : NoticeKind) (n : Option Nat) (v : Option Int) (j : Fin 12) :
    (s.raise k n v).room j = s.room j := rfl
@[simp] theorem State.probe_raise (k : NoticeKind) (n : Option Nat) (v : Option Int) (j : Fin 32) :
    (s.raise k n v).probe j = s.probe j := rfl
@[simp] theorem State.rule_raise (k : NoticeKind) (n : Option Nat) (v : Option Int) (j : Fin 24) :
    (s.raise k n v).rule j = s.rule j := rfl
@[simp] theorem State.sweepResult_raise (k : NoticeKind) (n : Option Nat) (v : Option Int) (j : Fin 16) :
    (s.raise k n v).sweepResult j = s.sweepResult j := rfl
@[simp] theorem State.port_raise (k : NoticeKind) (n : Option Nat) (v : Option Int) (q : PortId) :
    (s.raise k n v).port q = s.port q := by cases q <;> rfl

/-! ### putAnswer -/

@[simp] theorem State.now_putAnswer (src code : Byte) (o : AnswerCode) (c : List Byte) :
    (s.putAnswer src code o c).now = s.now := rfl
@[simp] theorem State.pending_putAnswer (src code : Byte) (o : AnswerCode) (c : List Byte) :
    (s.putAnswer src code o c).pending = s.pending := rfl
@[simp] theorem State.strap_putAnswer (src code : Byte) (o : AnswerCode) (c : List Byte) :
    (s.putAnswer src code o c).strap = s.strap := rfl
@[simp] theorem State.mode_putAnswer (src code : Byte) (o : AnswerCode) (c : List Byte) :
    (s.putAnswer src code o c).mode = s.mode := rfl
@[simp] theorem State.lock_putAnswer (src code : Byte) (o : AnswerCode) (c : List Byte) :
    (s.putAnswer src code o c).lock = s.lock := rfl
@[simp] theorem State.t0_putAnswer (src code : Byte) (o : AnswerCode) (c : List Byte) :
    (s.putAnswer src code o c).t0 = s.t0 := rfl
@[simp] theorem State.general_putAnswer (src code : Byte) (o : AnswerCode) (c : List Byte) :
    (s.putAnswer src code o c).general = s.general := rfl
@[simp] theorem State.loops_putAnswer (src code : Byte) (o : AnswerCode) (c : List Byte) :
    (s.putAnswer src code o c).loops = s.loops := rfl
@[simp] theorem State.classes_putAnswer (src code : Byte) (o : AnswerCode) (c : List Byte) :
    (s.putAnswer src code o c).classes = s.classes := rfl
@[simp] theorem State.profiles_putAnswer (src code : Byte) (o : AnswerCode) (c : List Byte) :
    (s.putAnswer src code o c).profiles = s.profiles := rfl
@[simp] theorem State.rooms_putAnswer (src code : Byte) (o : AnswerCode) (c : List Byte) :
    (s.putAnswer src code o c).rooms = s.rooms := rfl
@[simp] theorem State.probes_putAnswer (src code : Byte) (o : AnswerCode) (c : List Byte) :
    (s.putAnswer src code o c).probes = s.probes := rfl
@[simp] theorem State.supply_putAnswer (src code : Byte) (o : AnswerCode) (c : List Byte) :
    (s.putAnswer src code o c).supply = s.supply := rfl
@[simp] theorem State.alloc_putAnswer (src code : Byte) (o : AnswerCode) (c : List Byte) :
    (s.putAnswer src code o c).alloc = s.alloc := rfl
@[simp] theorem State.orders_putAnswer (src code : Byte) (o : AnswerCode) (c : List Byte) :
    (s.putAnswer src code o c).orders = s.orders := rfl
@[simp] theorem State.waits_putAnswer (src code : Byte) (o : AnswerCode) (c : List Byte) :
    (s.putAnswer src code o c).waits = s.waits := rfl
@[simp] theorem State.portH_putAnswer (src code : Byte) (o : AnswerCode) (c : List Byte) :
    (s.putAnswer src code o c).portH = s.portH := rfl
@[simp] theorem State.portM_putAnswer (src code : Byte) (o : AnswerCode) (c : List Byte) :
    (s.putAnswer src code o c).portM = s.portM := rfl
@[simp] theorem State.rules_putAnswer (src code : Byte) (o : AnswerCode) (c : List Byte) :
    (s.putAnswer src code o c).rules = s.rules := rfl
@[simp] theorem State.pattern_putAnswer (src code : Byte) (o : AnswerCode) (c : List Byte) :
    (s.putAnswer src code o c).pattern = s.pattern := rfl
@[simp] theorem State.sweep_putAnswer (src code : Byte) (o : AnswerCode) (c : List Byte) :
    (s.putAnswer src code o c).sweep = s.sweep := rfl
@[simp] theorem State.notices_putAnswer (src code : Byte) (o : AnswerCode) (c : List Byte) :
    (s.putAnswer src code o c).notices = s.notices := rfl

@[simp] theorem State.loop_putAnswer (src code : Byte) (o : AnswerCode) (c : List Byte) (j : Fin 16) :
    (s.putAnswer src code o c).loop j = s.loop j := rfl
@[simp] theorem State.floorClass_putAnswer (src code : Byte) (o : AnswerCode) (c : List Byte) (j : Fin 4) :
    (s.putAnswer src code o c).floorClass j = s.floorClass j := rfl
@[simp] theorem State.profile_putAnswer (src code : Byte) (o : AnswerCode) (c : List Byte) (j : Fin 4) :
    (s.putAnswer src code o c).profile j = s.profile j := rfl
@[simp] theorem State.room_putAnswer (src code : Byte) (o : AnswerCode) (c : List Byte) (j : Fin 12) :
    (s.putAnswer src code o c).room j = s.room j := rfl
@[simp] theorem State.probe_putAnswer (src code : Byte) (o : AnswerCode) (c : List Byte) (j : Fin 32) :
    (s.putAnswer src code o c).probe j = s.probe j := rfl
@[simp] theorem State.rule_putAnswer (src code : Byte) (o : AnswerCode) (c : List Byte) (j : Fin 24) :
    (s.putAnswer src code o c).rule j = s.rule j := rfl
@[simp] theorem State.sweepResult_putAnswer (src code : Byte) (o : AnswerCode) (c : List Byte) (j : Fin 16) :
    (s.putAnswer src code o c).sweepResult j = s.sweepResult j := rfl
@[simp] theorem State.port_putAnswer (src code : Byte) (o : AnswerCode) (c : List Byte) (q : PortId) :
    (s.putAnswer src code o c).port q = s.port q := by cases q <;> rfl

/-! ### updGeneral -/

@[simp] theorem State.now_updGeneral (f : General → General) :
    (s.updGeneral f).now = s.now := rfl
@[simp] theorem State.pending_updGeneral (f : General → General) :
    (s.updGeneral f).pending = s.pending := rfl
@[simp] theorem State.strap_updGeneral (f : General → General) :
    (s.updGeneral f).strap = s.strap := rfl
@[simp] theorem State.mode_updGeneral (f : General → General) :
    (s.updGeneral f).mode = s.mode := rfl
@[simp] theorem State.lock_updGeneral (f : General → General) :
    (s.updGeneral f).lock = s.lock := rfl
@[simp] theorem State.t0_updGeneral (f : General → General) :
    (s.updGeneral f).t0 = s.t0 := rfl
@[simp] theorem State.loops_updGeneral (f : General → General) :
    (s.updGeneral f).loops = s.loops := rfl
@[simp] theorem State.classes_updGeneral (f : General → General) :
    (s.updGeneral f).classes = s.classes := rfl
@[simp] theorem State.profiles_updGeneral (f : General → General) :
    (s.updGeneral f).profiles = s.profiles := rfl
@[simp] theorem State.rooms_updGeneral (f : General → General) :
    (s.updGeneral f).rooms = s.rooms := rfl
@[simp] theorem State.probes_updGeneral (f : General → General) :
    (s.updGeneral f).probes = s.probes := rfl
@[simp] theorem State.supply_updGeneral (f : General → General) :
    (s.updGeneral f).supply = s.supply := rfl
@[simp] theorem State.alloc_updGeneral (f : General → General) :
    (s.updGeneral f).alloc = s.alloc := rfl
@[simp] theorem State.orders_updGeneral (f : General → General) :
    (s.updGeneral f).orders = s.orders := rfl
@[simp] theorem State.waits_updGeneral (f : General → General) :
    (s.updGeneral f).waits = s.waits := rfl
@[simp] theorem State.portH_updGeneral (f : General → General) :
    (s.updGeneral f).portH = s.portH := rfl
@[simp] theorem State.portM_updGeneral (f : General → General) :
    (s.updGeneral f).portM = s.portM := rfl
@[simp] theorem State.rules_updGeneral (f : General → General) :
    (s.updGeneral f).rules = s.rules := rfl
@[simp] theorem State.pattern_updGeneral (f : General → General) :
    (s.updGeneral f).pattern = s.pattern := rfl
@[simp] theorem State.sweep_updGeneral (f : General → General) :
    (s.updGeneral f).sweep = s.sweep := rfl
@[simp] theorem State.answer_updGeneral (f : General → General) :
    (s.updGeneral f).answer = s.answer := rfl
@[simp] theorem State.notices_updGeneral (f : General → General) :
    (s.updGeneral f).notices = s.notices := rfl

@[simp] theorem State.loop_updGeneral (f : General → General) (j : Fin 16) :
    (s.updGeneral f).loop j = s.loop j := rfl
@[simp] theorem State.floorClass_updGeneral (f : General → General) (j : Fin 4) :
    (s.updGeneral f).floorClass j = s.floorClass j := rfl
@[simp] theorem State.profile_updGeneral (f : General → General) (j : Fin 4) :
    (s.updGeneral f).profile j = s.profile j := rfl
@[simp] theorem State.room_updGeneral (f : General → General) (j : Fin 12) :
    (s.updGeneral f).room j = s.room j := rfl
@[simp] theorem State.probe_updGeneral (f : General → General) (j : Fin 32) :
    (s.updGeneral f).probe j = s.probe j := rfl
@[simp] theorem State.rule_updGeneral (f : General → General) (j : Fin 24) :
    (s.updGeneral f).rule j = s.rule j := rfl
@[simp] theorem State.sweepResult_updGeneral (f : General → General) (j : Fin 16) :
    (s.updGeneral f).sweepResult j = s.sweepResult j := rfl
@[simp] theorem State.port_updGeneral (f : General → General) (q : PortId) :
    (s.updGeneral f).port q = s.port q := by cases q <;> rfl

/-! ### leaveWaits -/

@[simp] theorem State.now_leaveWaits (i : Fin 16) :
    (s.leaveWaits i).now = s.now := rfl
@[simp] theorem State.pending_leaveWaits (i : Fin 16) :
    (s.leaveWaits i).pending = s.pending := rfl
@[simp] theorem State.strap_leaveWaits (i : Fin 16) :
    (s.leaveWaits i).strap = s.strap := rfl
@[simp] theorem State.mode_leaveWaits (i : Fin 16) :
    (s.leaveWaits i).mode = s.mode := rfl
@[simp] theorem State.lock_leaveWaits (i : Fin 16) :
    (s.leaveWaits i).lock = s.lock := rfl
@[simp] theorem State.t0_leaveWaits (i : Fin 16) :
    (s.leaveWaits i).t0 = s.t0 := rfl
@[simp] theorem State.general_leaveWaits (i : Fin 16) :
    (s.leaveWaits i).general = s.general := rfl
@[simp] theorem State.loops_leaveWaits (i : Fin 16) :
    (s.leaveWaits i).loops = s.loops := rfl
@[simp] theorem State.classes_leaveWaits (i : Fin 16) :
    (s.leaveWaits i).classes = s.classes := rfl
@[simp] theorem State.profiles_leaveWaits (i : Fin 16) :
    (s.leaveWaits i).profiles = s.profiles := rfl
@[simp] theorem State.rooms_leaveWaits (i : Fin 16) :
    (s.leaveWaits i).rooms = s.rooms := rfl
@[simp] theorem State.probes_leaveWaits (i : Fin 16) :
    (s.leaveWaits i).probes = s.probes := rfl
@[simp] theorem State.supply_leaveWaits (i : Fin 16) :
    (s.leaveWaits i).supply = s.supply := rfl
@[simp] theorem State.alloc_leaveWaits (i : Fin 16) :
    (s.leaveWaits i).alloc = s.alloc := rfl
@[simp] theorem State.orders_leaveWaits (i : Fin 16) :
    (s.leaveWaits i).orders = s.orders := rfl
@[simp] theorem State.portH_leaveWaits (i : Fin 16) :
    (s.leaveWaits i).portH = s.portH := rfl
@[simp] theorem State.portM_leaveWaits (i : Fin 16) :
    (s.leaveWaits i).portM = s.portM := rfl
@[simp] theorem State.rules_leaveWaits (i : Fin 16) :
    (s.leaveWaits i).rules = s.rules := rfl
@[simp] theorem State.pattern_leaveWaits (i : Fin 16) :
    (s.leaveWaits i).pattern = s.pattern := rfl
@[simp] theorem State.sweep_leaveWaits (i : Fin 16) :
    (s.leaveWaits i).sweep = s.sweep := rfl
@[simp] theorem State.answer_leaveWaits (i : Fin 16) :
    (s.leaveWaits i).answer = s.answer := rfl
@[simp] theorem State.notices_leaveWaits (i : Fin 16) :
    (s.leaveWaits i).notices = s.notices := rfl

@[simp] theorem State.loop_leaveWaits (i : Fin 16) (j : Fin 16) :
    (s.leaveWaits i).loop j = s.loop j := rfl
@[simp] theorem State.floorClass_leaveWaits (i : Fin 16) (j : Fin 4) :
    (s.leaveWaits i).floorClass j = s.floorClass j := rfl
@[simp] theorem State.profile_leaveWaits (i : Fin 16) (j : Fin 4) :
    (s.leaveWaits i).profile j = s.profile j := rfl
@[simp] theorem State.room_leaveWaits (i : Fin 16) (j : Fin 12) :
    (s.leaveWaits i).room j = s.room j := rfl
@[simp] theorem State.probe_leaveWaits (i : Fin 16) (j : Fin 32) :
    (s.leaveWaits i).probe j = s.probe j := rfl
@[simp] theorem State.rule_leaveWaits (i : Fin 16) (j : Fin 24) :
    (s.leaveWaits i).rule j = s.rule j := rfl
@[simp] theorem State.sweepResult_leaveWaits (i : Fin 16) (j : Fin 16) :
    (s.leaveWaits i).sweepResult j = s.sweepResult j := rfl
@[simp] theorem State.port_leaveWaits (i : Fin 16) (q : PortId) :
    (s.leaveWaits i).port q = s.port q := by cases q <;> rfl

/-! ### setHead -/

@[simp] theorem State.now_setHead (i : Fin 16) (h : HeadState) :
    (s.setHead i h).now = s.now := rfl
@[simp] theorem State.pending_setHead (i : Fin 16) (h : HeadState) :
    (s.setHead i h).pending = s.pending := rfl
@[simp] theorem State.strap_setHead (i : Fin 16) (h : HeadState) :
    (s.setHead i h).strap = s.strap := rfl
@[simp] theorem State.mode_setHead (i : Fin 16) (h : HeadState) :
    (s.setHead i h).mode = s.mode := rfl
@[simp] theorem State.lock_setHead (i : Fin 16) (h : HeadState) :
    (s.setHead i h).lock = s.lock := rfl
@[simp] theorem State.t0_setHead (i : Fin 16) (h : HeadState) :
    (s.setHead i h).t0 = s.t0 := rfl
@[simp] theorem State.general_setHead (i : Fin 16) (h : HeadState) :
    (s.setHead i h).general = s.general := rfl
@[simp] theorem State.classes_setHead (i : Fin 16) (h : HeadState) :
    (s.setHead i h).classes = s.classes := rfl
@[simp] theorem State.profiles_setHead (i : Fin 16) (h : HeadState) :
    (s.setHead i h).profiles = s.profiles := rfl
@[simp] theorem State.rooms_setHead (i : Fin 16) (h : HeadState) :
    (s.setHead i h).rooms = s.rooms := rfl
@[simp] theorem State.probes_setHead (i : Fin 16) (h : HeadState) :
    (s.setHead i h).probes = s.probes := rfl
@[simp] theorem State.supply_setHead (i : Fin 16) (h : HeadState) :
    (s.setHead i h).supply = s.supply := rfl
@[simp] theorem State.alloc_setHead (i : Fin 16) (h : HeadState) :
    (s.setHead i h).alloc = s.alloc := rfl
@[simp] theorem State.orders_setHead (i : Fin 16) (h : HeadState) :
    (s.setHead i h).orders = s.orders := rfl
@[simp] theorem State.waits_setHead (i : Fin 16) (h : HeadState) :
    (s.setHead i h).waits = s.waits := rfl
@[simp] theorem State.portH_setHead (i : Fin 16) (h : HeadState) :
    (s.setHead i h).portH = s.portH := rfl
@[simp] theorem State.portM_setHead (i : Fin 16) (h : HeadState) :
    (s.setHead i h).portM = s.portM := rfl
@[simp] theorem State.rules_setHead (i : Fin 16) (h : HeadState) :
    (s.setHead i h).rules = s.rules := rfl
@[simp] theorem State.pattern_setHead (i : Fin 16) (h : HeadState) :
    (s.setHead i h).pattern = s.pattern := rfl
@[simp] theorem State.sweep_setHead (i : Fin 16) (h : HeadState) :
    (s.setHead i h).sweep = s.sweep := rfl
@[simp] theorem State.answer_setHead (i : Fin 16) (h : HeadState) :
    (s.setHead i h).answer = s.answer := rfl
@[simp] theorem State.notices_setHead (i : Fin 16) (h : HeadState) :
    (s.setHead i h).notices = s.notices := rfl

@[simp] theorem State.floorClass_setHead (i : Fin 16) (h : HeadState) (j : Fin 4) :
    (s.setHead i h).floorClass j = s.floorClass j := rfl
@[simp] theorem State.profile_setHead (i : Fin 16) (h : HeadState) (j : Fin 4) :
    (s.setHead i h).profile j = s.profile j := rfl
@[simp] theorem State.room_setHead (i : Fin 16) (h : HeadState) (j : Fin 12) :
    (s.setHead i h).room j = s.room j := rfl
@[simp] theorem State.probe_setHead (i : Fin 16) (h : HeadState) (j : Fin 32) :
    (s.setHead i h).probe j = s.probe j := rfl
@[simp] theorem State.rule_setHead (i : Fin 16) (h : HeadState) (j : Fin 24) :
    (s.setHead i h).rule j = s.rule j := rfl
@[simp] theorem State.sweepResult_setHead (i : Fin 16) (h : HeadState) (j : Fin 16) :
    (s.setHead i h).sweepResult j = s.sweepResult j := rfl
@[simp] theorem State.port_setHead (i : Fin 16) (h : HeadState) (q : PortId) :
    (s.setHead i h).port q = s.port q := by cases q <;> rfl

/-! ### order -/

@[simp] theorem State.now_order (i : Fin 16) (a : Action) :
    (s.order i a).now = s.now := rfl
@[simp] theorem State.pending_order (i : Fin 16) (a : Action) :
    (s.order i a).pending = s.pending := rfl
@[simp] theorem State.strap_order (i : Fin 16) (a : Action) :
    (s.order i a).strap = s.strap := rfl
@[simp] theorem State.mode_order (i : Fin 16) (a : Action) :
    (s.order i a).mode = s.mode := rfl
@[simp] theorem State.lock_order (i : Fin 16) (a : Action) :
    (s.order i a).lock = s.lock := rfl
@[simp] theorem State.t0_order (i : Fin 16) (a : Action) :
    (s.order i a).t0 = s.t0 := rfl
@[simp] theorem State.general_order (i : Fin 16) (a : Action) :
    (s.order i a).general = s.general := rfl
@[simp] theorem State.classes_order (i : Fin 16) (a : Action) :
    (s.order i a).classes = s.classes := rfl
@[simp] theorem State.profiles_order (i : Fin 16) (a : Action) :
    (s.order i a).profiles = s.profiles := rfl
@[simp] theorem State.rooms_order (i : Fin 16) (a : Action) :
    (s.order i a).rooms = s.rooms := rfl
@[simp] theorem State.probes_order (i : Fin 16) (a : Action) :
    (s.order i a).probes = s.probes := rfl
@[simp] theorem State.supply_order (i : Fin 16) (a : Action) :
    (s.order i a).supply = s.supply := rfl
@[simp] theorem State.alloc_order (i : Fin 16) (a : Action) :
    (s.order i a).alloc = s.alloc := rfl
@[simp] theorem State.waits_order (i : Fin 16) (a : Action) :
    (s.order i a).waits = s.waits := rfl
@[simp] theorem State.portH_order (i : Fin 16) (a : Action) :
    (s.order i a).portH = s.portH := rfl
@[simp] theorem State.portM_order (i : Fin 16) (a : Action) :
    (s.order i a).portM = s.portM := rfl
@[simp] theorem State.rules_order (i : Fin 16) (a : Action) :
    (s.order i a).rules = s.rules := rfl
@[simp] theorem State.pattern_order (i : Fin 16) (a : Action) :
    (s.order i a).pattern = s.pattern := rfl
@[simp] theorem State.sweep_order (i : Fin 16) (a : Action) :
    (s.order i a).sweep = s.sweep := rfl
@[simp] theorem State.answer_order (i : Fin 16) (a : Action) :
    (s.order i a).answer = s.answer := rfl
@[simp] theorem State.notices_order (i : Fin 16) (a : Action) :
    (s.order i a).notices = s.notices := rfl

@[simp] theorem State.floorClass_order (i : Fin 16) (a : Action) (j : Fin 4) :
    (s.order i a).floorClass j = s.floorClass j := rfl
@[simp] theorem State.profile_order (i : Fin 16) (a : Action) (j : Fin 4) :
    (s.order i a).profile j = s.profile j := rfl
@[simp] theorem State.room_order (i : Fin 16) (a : Action) (j : Fin 12) :
    (s.order i a).room j = s.room j := rfl
@[simp] theorem State.probe_order (i : Fin 16) (a : Action) (j : Fin 32) :
    (s.order i a).probe j = s.probe j := rfl
@[simp] theorem State.rule_order (i : Fin 16) (a : Action) (j : Fin 24) :
    (s.order i a).rule j = s.rule j := rfl
@[simp] theorem State.sweepResult_order (i : Fin 16) (a : Action) (j : Fin 16) :
    (s.order i a).sweepResult j = s.sweepResult j := rfl
@[simp] theorem State.port_order (i : Fin 16) (a : Action) (q : PortId) :
    (s.order i a).port q = s.port q := by cases q <;> rfl

/-! ### replaceOrder -/

@[simp] theorem State.now_replaceOrder (i : Fin 16) (a : Action) :
    (s.replaceOrder i a).now = s.now := rfl
@[simp] theorem State.pending_replaceOrder (i : Fin 16) (a : Action) :
    (s.replaceOrder i a).pending = s.pending := rfl
@[simp] theorem State.strap_replaceOrder (i : Fin 16) (a : Action) :
    (s.replaceOrder i a).strap = s.strap := rfl
@[simp] theorem State.mode_replaceOrder (i : Fin 16) (a : Action) :
    (s.replaceOrder i a).mode = s.mode := rfl
@[simp] theorem State.lock_replaceOrder (i : Fin 16) (a : Action) :
    (s.replaceOrder i a).lock = s.lock := rfl
@[simp] theorem State.t0_replaceOrder (i : Fin 16) (a : Action) :
    (s.replaceOrder i a).t0 = s.t0 := rfl
@[simp] theorem State.general_replaceOrder (i : Fin 16) (a : Action) :
    (s.replaceOrder i a).general = s.general := rfl
@[simp] theorem State.classes_replaceOrder (i : Fin 16) (a : Action) :
    (s.replaceOrder i a).classes = s.classes := rfl
@[simp] theorem State.profiles_replaceOrder (i : Fin 16) (a : Action) :
    (s.replaceOrder i a).profiles = s.profiles := rfl
@[simp] theorem State.rooms_replaceOrder (i : Fin 16) (a : Action) :
    (s.replaceOrder i a).rooms = s.rooms := rfl
@[simp] theorem State.probes_replaceOrder (i : Fin 16) (a : Action) :
    (s.replaceOrder i a).probes = s.probes := rfl
@[simp] theorem State.supply_replaceOrder (i : Fin 16) (a : Action) :
    (s.replaceOrder i a).supply = s.supply := rfl
@[simp] theorem State.alloc_replaceOrder (i : Fin 16) (a : Action) :
    (s.replaceOrder i a).alloc = s.alloc := rfl
@[simp] theorem State.waits_replaceOrder (i : Fin 16) (a : Action) :
    (s.replaceOrder i a).waits = s.waits := rfl
@[simp] theorem State.portH_replaceOrder (i : Fin 16) (a : Action) :
    (s.replaceOrder i a).portH = s.portH := rfl
@[simp] theorem State.portM_replaceOrder (i : Fin 16) (a : Action) :
    (s.replaceOrder i a).portM = s.portM := rfl
@[simp] theorem State.rules_replaceOrder (i : Fin 16) (a : Action) :
    (s.replaceOrder i a).rules = s.rules := rfl
@[simp] theorem State.pattern_replaceOrder (i : Fin 16) (a : Action) :
    (s.replaceOrder i a).pattern = s.pattern := rfl
@[simp] theorem State.sweep_replaceOrder (i : Fin 16) (a : Action) :
    (s.replaceOrder i a).sweep = s.sweep := rfl
@[simp] theorem State.answer_replaceOrder (i : Fin 16) (a : Action) :
    (s.replaceOrder i a).answer = s.answer := rfl
@[simp] theorem State.notices_replaceOrder (i : Fin 16) (a : Action) :
    (s.replaceOrder i a).notices = s.notices := rfl

@[simp] theorem State.floorClass_replaceOrder (i : Fin 16) (a : Action) (j : Fin 4) :
    (s.replaceOrder i a).floorClass j = s.floorClass j := rfl
@[simp] theorem State.profile_replaceOrder (i : Fin 16) (a : Action) (j : Fin 4) :
    (s.replaceOrder i a).profile j = s.profile j := rfl
@[simp] theorem State.room_replaceOrder (i : Fin 16) (a : Action) (j : Fin 12) :
    (s.replaceOrder i a).room j = s.room j := rfl
@[simp] theorem State.probe_replaceOrder (i : Fin 16) (a : Action) (j : Fin 32) :
    (s.replaceOrder i a).probe j = s.probe j := rfl
@[simp] theorem State.rule_replaceOrder (i : Fin 16) (a : Action) (j : Fin 24) :
    (s.replaceOrder i a).rule j = s.rule j := rfl
@[simp] theorem State.sweepResult_replaceOrder (i : Fin 16) (a : Action) (j : Fin 16) :
    (s.replaceOrder i a).sweepResult j = s.sweepResult j := rfl
@[simp] theorem State.port_replaceOrder (i : Fin 16) (a : Action) (q : PortId) :
    (s.replaceOrder i a).port q = s.port q := by cases q <;> rfl

/-! ### setPort -/

@[simp] theorem State.now_setPort (p : PortId) (k : Port) :
    (s.setPort p k).now = s.now := by cases p <;> rfl
@[simp] theorem State.pending_setPort (p : PortId) (k : Port) :
    (s.setPort p k).pending = s.pending := by cases p <;> rfl
@[simp] theorem State.strap_setPort (p : PortId) (k : Port) :
    (s.setPort p k).strap = s.strap := by cases p <;> rfl
@[simp] theorem State.mode_setPort (p : PortId) (k : Port) :
    (s.setPort p k).mode = s.mode := by cases p <;> rfl
@[simp] theorem State.lock_setPort (p : PortId) (k : Port) :
    (s.setPort p k).lock = s.lock := by cases p <;> rfl
@[simp] theorem State.t0_setPort (p : PortId) (k : Port) :
    (s.setPort p k).t0 = s.t0 := by cases p <;> rfl
@[simp] theorem State.general_setPort (p : PortId) (k : Port) :
    (s.setPort p k).general = s.general := by cases p <;> rfl
@[simp] theorem State.loops_setPort (p : PortId) (k : Port) :
    (s.setPort p k).loops = s.loops := by cases p <;> rfl
@[simp] theorem State.classes_setPort (p : PortId) (k : Port) :
    (s.setPort p k).classes = s.classes := by cases p <;> rfl
@[simp] theorem State.profiles_setPort (p : PortId) (k : Port) :
    (s.setPort p k).profiles = s.profiles := by cases p <;> rfl
@[simp] theorem State.rooms_setPort (p : PortId) (k : Port) :
    (s.setPort p k).rooms = s.rooms := by cases p <;> rfl
@[simp] theorem State.probes_setPort (p : PortId) (k : Port) :
    (s.setPort p k).probes = s.probes := by cases p <;> rfl
@[simp] theorem State.supply_setPort (p : PortId) (k : Port) :
    (s.setPort p k).supply = s.supply := by cases p <;> rfl
@[simp] theorem State.alloc_setPort (p : PortId) (k : Port) :
    (s.setPort p k).alloc = s.alloc := by cases p <;> rfl
@[simp] theorem State.orders_setPort (p : PortId) (k : Port) :
    (s.setPort p k).orders = s.orders := by cases p <;> rfl
@[simp] theorem State.waits_setPort (p : PortId) (k : Port) :
    (s.setPort p k).waits = s.waits := by cases p <;> rfl
@[simp] theorem State.rules_setPort (p : PortId) (k : Port) :
    (s.setPort p k).rules = s.rules := by cases p <;> rfl
@[simp] theorem State.pattern_setPort (p : PortId) (k : Port) :
    (s.setPort p k).pattern = s.pattern := by cases p <;> rfl
@[simp] theorem State.sweep_setPort (p : PortId) (k : Port) :
    (s.setPort p k).sweep = s.sweep := by cases p <;> rfl
@[simp] theorem State.answer_setPort (p : PortId) (k : Port) :
    (s.setPort p k).answer = s.answer := by cases p <;> rfl
@[simp] theorem State.notices_setPort (p : PortId) (k : Port) :
    (s.setPort p k).notices = s.notices := by cases p <;> rfl
@[simp] theorem State.loop_setPort (p : PortId) (k : Port) (j : Fin 16) :
    (s.setPort p k).loop j = s.loop j := by cases p <;> rfl
@[simp] theorem State.floorClass_setPort (p : PortId) (k : Port) (j : Fin 4) :
    (s.setPort p k).floorClass j = s.floorClass j := by cases p <;> rfl
@[simp] theorem State.profile_setPort (p : PortId) (k : Port) (j : Fin 4) :
    (s.setPort p k).profile j = s.profile j := by cases p <;> rfl
@[simp] theorem State.room_setPort (p : PortId) (k : Port) (j : Fin 12) :
    (s.setPort p k).room j = s.room j := by cases p <;> rfl
@[simp] theorem State.probe_setPort (p : PortId) (k : Port) (j : Fin 32) :
    (s.setPort p k).probe j = s.probe j := by cases p <;> rfl
@[simp] theorem State.rule_setPort (p : PortId) (k : Port) (j : Fin 24) :
    (s.setPort p k).rule j = s.rule j := by cases p <;> rfl
@[simp] theorem State.sweepResult_setPort (p : PortId) (k : Port) (j : Fin 16) :
    (s.setPort p k).sweepResult j = s.sweepResult j := by cases p <;> rfl

/-- A port after a port was stored. -/
@[simp] theorem State.port_setPort (p q : PortId) (k : Port) :
    (s.setPort p k).port q = if q = p then k else s.port q := by
  cases p <;> cases q <;> rfl

/-! ### Accessors after the update of their own table -/

/-- Loop j after loop i was stored. -/
theorem State.loop_setLoop (i j : Fin 16) (l : Loop) :
    (s.setLoop i l).loop j = if i = j then l else s.loop j := by
  simp only [State.loop, State.setLoop, Fin.getElem_fin, Vector.getElem_set, Fin.ext_iff]

@[simp] theorem State.loop_setLoop_self (i : Fin 16) (l : Loop) : (s.setLoop i l).loop i = l := by
  simp [State.loop_setLoop]

@[simp] theorem State.loop_setLoop_ne {i j : Fin 16} (h : i ≠ j) (l : Loop) :
    (s.setLoop i l).loop j = s.loop j := by
  simp [State.loop_setLoop, h]

/-- Loop j after loop i was changed. -/
theorem State.loop_updLoop (i j : Fin 16) (f : Loop → Loop) :
    (s.updLoop i f).loop j = if i = j then f (s.loop i) else s.loop j := s.loop_setLoop i j _

@[simp] theorem State.loop_updLoop_self (i : Fin 16) (f : Loop → Loop) :
    (s.updLoop i f).loop i = f (s.loop i) := s.loop_setLoop_self i _

@[simp] theorem State.loop_updLoop_ne {i j : Fin 16} (h : i ≠ j) (f : Loop → Loop) :
    (s.updLoop i f).loop j = s.loop j := s.loop_setLoop_ne h _

/-- Loop i after every loop was changed. -/
@[simp] theorem State.loop_mapLoops (f : Fin 16 → Loop → Loop) (i : Fin 16) :
    (s.mapLoops f).loop i = f i (s.loop i) := by
  simp [State.loop, State.mapLoops]

/-- Loop j after the head of loop i took a state. -/
theorem State.loop_setHead (i j : Fin 16) (h : HeadState) :
    (s.setHead i h).loop j =
      if i = j then { s.loop i with head := h, settle := .stopped } else s.loop j :=
  s.loop_updLoop i j _

/-- Loop j after an order of loop i joined the list. -/
theorem State.loop_order (i j : Fin 16) (a : Action) :
    (s.order i a).loop j =
      if i = j then { s.loop i with head := a.queued, settle := .stopped } else s.loop j :=
  s.loop_setHead i j _

/-- Loop j after an order of loop i was replaced. -/
theorem State.loop_replaceOrder (i j : Fin 16) (a : Action) :
    (s.replaceOrder i a).loop j =
      if i = j then { s.loop i with head := a.queued, settle := .stopped } else s.loop j :=
  s.loop_setHead i j _

theorem State.floorClass_setFloorClass (i j : Fin 4) (k : FloorClass) :
    (s.setFloorClass i k).floorClass j = if i = j then k else s.floorClass j := by
  simp only [State.floorClass, State.setFloorClass, Fin.getElem_fin, Vector.getElem_set, Fin.ext_iff]

@[simp] theorem State.floorClass_setFloorClass_self (i : Fin 4) (k : FloorClass) : (s.setFloorClass i k).floorClass i = k := by
  simp [State.floorClass_setFloorClass]

theorem State.profile_setProfile (i j : Fin 4) (k : Profile) :
    (s.setProfile i k).profile j = if i = j then k else s.profile j := by
  simp only [State.profile, State.setProfile, Fin.getElem_fin, Vector.getElem_set, Fin.ext_iff]

@[simp] theorem State.profile_setProfile_self (i : Fin 4) (k : Profile) : (s.setProfile i k).profile i = k := by
  simp [State.profile_setProfile]

theorem State.room_setRoom (i j : Fin 12) (k : Room) :
    (s.setRoom i k).room j = if i = j then k else s.room j := by
  simp only [State.room, State.setRoom, Fin.getElem_fin, Vector.getElem_set, Fin.ext_iff]

@[simp] theorem State.room_setRoom_self (i : Fin 12) (k : Room) : (s.setRoom i k).room i = k := by
  simp [State.room_setRoom]

theorem State.probe_setProbe (i j : Fin 32) (k : Probe) :
    (s.setProbe i k).probe j = if i = j then k else s.probe j := by
  simp only [State.probe, State.setProbe, Fin.getElem_fin, Vector.getElem_set, Fin.ext_iff]

@[simp] theorem State.probe_setProbe_self (i : Fin 32) (k : Probe) : (s.setProbe i k).probe i = k := by
  simp [State.probe_setProbe]

theorem State.rule_setRule (i j : Fin 24) (k : Rule) :
    (s.setRule i k).rule j = if i = j then k else s.rule j := by
  simp only [State.rule, State.setRule, Fin.getElem_fin, Vector.getElem_set, Fin.ext_iff]

@[simp] theorem State.rule_setRule_self (i : Fin 24) (k : Rule) : (s.setRule i k).rule i = k := by
  simp [State.rule_setRule]

theorem State.sweepResult_setSweepResult (i j : Fin 16) (k : SweepResult) :
    (s.setSweepResult i k).sweepResult j = if i = j then k else s.sweepResult j := by
  simp only [State.sweepResult, State.setSweepResult, Fin.getElem_fin, Vector.getElem_set, Fin.ext_iff]

@[simp] theorem State.sweepResult_setSweepResult_self (i : Fin 16) (k : SweepResult) : (s.setSweepResult i k).sweepResult i = k := by
  simp [State.sweepResult_setSweepResult]

end Sys2Proof.Machine
end

