-- ==== Sys2Proof/Laws/Begin.lean ====
section
/-! SUPPORT. The beginnings that come before every other event: where none is due the part is as it stands,
and after them none is due. -/

namespace Sys2Proof.Machine

open Sys2Proof

/-! ## Nothing is due -/

/-- The readiness test says what the statements say. -/
theorem State.beginDue_eq_false_iff (s : State) : s.beginDue = false ↔ s.NothingToBegin := by
  unfold State.beginDue State.NothingToBegin State.transmissionReady State.noticeReady
    State.headOrderReady State.noticeOffered State.answerWaits State.txFree State.port
  rcases hh : s.portH.tx with _ | x <;> rcases hm : s.portM.tx with _ | y <;>
    rcases ha : s.answer with _ | a <;> rcases hn : s.notices.entries with _ | ⟨e, rest⟩ <;>
    simp <;> grind

/-- Where nothing is due, nothing begins. -/
theorem State.beginAll_of_nothing {s : State} (h : s.NothingToBegin) : s.beginAll = s := by
  rw [← s.beginDue_eq_false_iff] at h
  simp only [State.beginDue, Bool.or_eq_false_iff] at h
  obtain ⟨⟨⟨h1, h2⟩, h3⟩, h4⟩ := h
  simp [State.beginAll, State.beginTransmission, State.beginNotice, State.beginHeadOrder, h1, h2, h3,
    h4]

/-! ## Everything that is due begins -/

/-- t differs from s in the transmitters and in what they take from: the pass queues, the answer's mark,
the head-order list with the last actions, the notice queue. -/
def State.BeginStep (s t : State) : Prop :=
  ∃ (th tm : Option Transmission) (qh qm : List Telegram) (a : Option Answer)
    (o : List HeadOrder) (ls : Vector Loop 16) (n : List NoticeEntry) (f : Bool),
    t = { s with
      portH := { s.portH with tx := th, queue := qh }
      portM := { s.portM with tx := tm, queue := qm }
      answer := a, orders := o, loops := ls
      notices := { s.notices with entries := n, overflow := f } } ∧
    (a.isSome = s.answer.isSome) ∧
    ∀ i, ∃ b, t.loop i = { s.loop i with lastAction := b }

theorem State.BeginStep.refl (s : State) : s.BeginStep s :=
  ⟨_, _, _, _, _, _, _, _, _, rfl, rfl, fun _ => ⟨_, rfl⟩⟩

theorem State.BeginStep.trans {s t u : State} (h : s.BeginStep t) (g : t.BeginStep u) :
    s.BeginStep u := by
  obtain ⟨_, _, _, _, _, _, _, _, _, rfl, ha, hl⟩ := h
  obtain ⟨_, _, _, _, _, _, _, _, _, rfl, ga, gl⟩ := g
  refine ⟨_, _, _, _, _, _, _, _, _, rfl, ga.trans ha, fun i => ?_⟩
  obtain ⟨b, hb⟩ := hl i
  obtain ⟨c, hc⟩ := gl i
  exact ⟨c, by rw [hc, hb]⟩

/-- What no beginning changes. -/
theorem State.BeginStep.unchanged {s t : State} (h : s.BeginStep t) :
    t.now = s.now ∧ t.pending = s.pending ∧ t.strap = s.strap ∧ t.mode = s.mode ∧
    t.lock = s.lock ∧ t.t0 = s.t0 ∧ t.general = s.general ∧ t.classes = s.classes ∧
    t.profiles = s.profiles ∧ t.rooms = s.rooms ∧ t.probes = s.probes ∧ t.supply = s.supply ∧
    t.alloc = s.alloc ∧ t.waits = s.waits ∧ t.rules = s.rules ∧ t.pattern = s.pattern ∧
    t.sweep = s.sweep ∧ t.portH.counters = s.portH.counters ∧
    t.portM.counters = s.portM.counters := by
  obtain ⟨_, _, _, _, _, _, _, _, _, rfl, _⟩ := h
  simp

theorem State.beginForward_step (s : State) (p : PortId) : s.BeginStep (s.beginForward p) := by
  unfold State.beginForward
  split
  · exact .refl s
  · cases p <;> exact ⟨_, _, _, _, _, _, _, _, _, rfl, rfl, fun _ => ⟨_, rfl⟩⟩

theorem State.beginTransmission_step (s : State) (p : PortId) : s.BeginStep (s.beginTransmission p) := by
  unfold State.beginTransmission
  split
  · cases p
    · simp only [State.beginH]
      split
      · rename_i a h
        split
        · exact s.beginForward_step .h
        · exact ⟨_, _, _, _, _, _, _, _, _, rfl, by simp [h], fun _ => ⟨_, rfl⟩⟩
      · exact s.beginForward_step .h
    · exact s.beginForward_step .m
  · exact .refl s

theorem State.beginNotice_step (s : State) : s.BeginStep s.beginNotice := by
  unfold State.beginNotice State.takeNoticeEntry
  split
  · split
    · exact .refl s
    · exact ⟨_, _, _, _, _, _, _, _, _, rfl, rfl, fun _ => ⟨_, rfl⟩⟩
  · exact .refl s

theorem State.beginHeadOrder_step (s : State) : s.BeginStep s.beginHeadOrder := by
  unfold State.beginHeadOrder State.takeHeadOrder
  split
  · split
    · exact .refl s
    · rename_i o rest _
      refine ⟨_, _, _, _, _, _, _, _, _, rfl, rfl, fun i => ?_⟩
      refine ⟨if o.loop = i then some o.action else (s.loop i).lastAction, ?_⟩
      show (({ s with orders := rest } : State).updLoop o.loop fun l =>
        { l with lastAction := some o.action }).loop i = _
      rw [State.loop_updLoop]
      split <;> simp_all [State.loop]
  · exact .refl s

theorem State.beginAll_step (s : State) : s.BeginStep s.beginAll :=
  (((s.beginTransmission_step .h).trans (State.beginNotice_step _)).trans
    (State.beginHeadOrder_step _)).trans (State.beginTransmission_step _ .m)


/-- Port H after its beginnings. -/
theorem State.portH_busy (s : State) :
    let t := (s.beginTransmission .h).beginNotice
    t.transmissionReady .h = false ∧ t.noticeReady = false := by
  rcases hh : s.portH.tx with _ | x <;> rcases ha : s.answer with _ | ⟨_, _, _, _, b⟩ <;>
    rcases hq : s.portH.queue with _ | ⟨t, q⟩ <;> rcases hn : s.notices.entries with _ | ⟨e, rest⟩ <;>
    (try cases b) <;>
    simp [State.beginTransmission, State.beginNotice, State.takeNoticeEntry, State.beginH,
      State.beginForward, State.beginAnswer, State.transmit, State.transmissionReady, State.noticeReady,
      State.noticeOffered, State.answerWaits, State.txFree, State.port, State.setPort, hh, ha, hq, hn] <;> grind


/-- Port M after its beginnings, which leave port H. -/
theorem State.portM_busy (s : State) :
    let t := s.beginHeadOrder.beginTransmission .m
    t.headOrderReady = false ∧ t.transmissionReady .m = false ∧
      t.transmissionReady .h = s.transmissionReady .h ∧ t.noticeReady = s.noticeReady := by
  rcases hm : s.portM.tx with _ | x <;> rcases ho : s.orders with _ | ⟨o, os⟩ <;>
    rcases hq : s.portM.queue with _ | ⟨t, q⟩ <;> rcases hp : s.mode <;>
    simp [State.beginTransmission, State.beginHeadOrder, State.takeHeadOrder, State.updLoop,
      State.setLoop, State.beginForward, State.transmit, State.transmissionReady, State.noticeReady,
      State.headOrderReady, State.noticeOffered, State.answerWaits, State.txFree, State.port,
      State.setPort, hm, ho, hq, hp]

/-- After the beginnings nothing is due to begin. -/
theorem State.nothingToBegin_beginAll (s : State) : s.beginAll.NothingToBegin := by
  rw [← State.beginDue_eq_false_iff]
  have h := s.portH_busy
  have m := State.portM_busy (s.beginTransmission .h).beginNotice
  simp only [] at h m
  simp [State.beginDue, State.beginAll, m, h]

end Sys2Proof.Machine
end

