-- ==== Sys2Proof/Laws/Drive.lean ====
section
/-! SUPPORT. What the allocator, the drive timers and the head arbiter can change: `State.DriveStep` says it
once, and one lemma for each shared operation says that it is such a step. When a probe entry has reached
the fault stale time. -/

namespace Sys2Proof.Machine

open Sys2Proof

/-- The record k has the settings of l: everything but the status fields and the learned share, and the
share of k lies within the limits where that of l does. -/
def Loop.SameSettings (l k : Loop) : Prop :=
  k.room = l.room ∧ k.driverAddress = l.driverAddress ∧ k.headChannel = l.headChannel ∧
  k.profile = l.profile ∧ k.floorClass = l.floorClass ∧ k.weight = l.weight ∧ k.phase = l.phase ∧
  k.smin = l.smin ∧ k.smax = l.smax ∧ k.fallbackDuty = l.fallbackDuty ∧ k.level = l.level ∧
  k.group = l.group ∧
  (l.smin ≤ l.share ∧ l.share ≤ l.smax → l.smin ≤ k.share ∧ k.share ≤ l.smax) ∧
  (k.enabled = l.enabled)

theorem Loop.SameSettings.refl (l : Loop) : l.SameSettings l := by
  simp [Loop.SameSettings]

theorem Loop.SameSettings.trans {l k m : Loop} (h : l.SameSettings k) (g : k.SameSettings m) :
    l.SameSettings m := by
  unfold Loop.SameSettings at *
  refine ⟨by simp_all, by simp_all, by simp_all, by simp_all, by simp_all, by simp_all, by simp_all,
    by simp_all, by simp_all, by simp_all, by simp_all, by simp_all, ?_, by simp_all⟩
  intro hl
  have hk := h.2.2.2.2.2.2.2.2.2.2.2.2.1 hl
  have hs : k.smin = l.smin := h.2.2.2.2.2.2.2.1
  have hx : k.smax = l.smax := h.2.2.2.2.2.2.2.2.1
  have hm := g.2.2.2.2.2.2.2.2.2.2.2.2.1
  rw [hs, hx] at hm
  exact hm hk

/-- t differs from s in loop records, the allocation summary, the head-order list, the wait list and the
notice queue only, and every loop keeps its settings. -/
def State.DriveStep (s t : State) : Prop :=
  t = { s with
    loops := t.loops, alloc := t.alloc, orders := t.orders, waits := t.waits,
    notices := t.notices } ∧
  ∀ j, (s.loop j).SameSettings (t.loop j)

theorem State.DriveStep.refl (s : State) : s.DriveStep s :=
  ⟨rfl, fun _ => Loop.SameSettings.refl _⟩

theorem State.DriveStep.trans {s t u : State} (h : s.DriveStep t) (g : t.DriveStep u) :
    s.DriveStep u := by
  refine ⟨?_, fun j => (h.2 j).trans (g.2 j)⟩
  rw [g.1, h.1]

section fields

variable {s t : State} (h : s.DriveStep t)
include h

theorem State.DriveStep.now : t.now = s.now := by rw [h.1]
theorem State.DriveStep.pending : t.pending = s.pending := by rw [h.1]
theorem State.DriveStep.strap : t.strap = s.strap := by rw [h.1]
theorem State.DriveStep.mode : t.mode = s.mode := by rw [h.1]
theorem State.DriveStep.lock : t.lock = s.lock := by rw [h.1]
theorem State.DriveStep.t0 : t.t0 = s.t0 := by rw [h.1]
theorem State.DriveStep.general : t.general = s.general := by rw [h.1]
theorem State.DriveStep.classes : t.classes = s.classes := by rw [h.1]
theorem State.DriveStep.profiles : t.profiles = s.profiles := by rw [h.1]
theorem State.DriveStep.rooms : t.rooms = s.rooms := by rw [h.1]
theorem State.DriveStep.probes : t.probes = s.probes := by rw [h.1]
theorem State.DriveStep.supply : t.supply = s.supply := by rw [h.1]
theorem State.DriveStep.portH : t.portH = s.portH := by rw [h.1]
theorem State.DriveStep.portM : t.portM = s.portM := by rw [h.1]
theorem State.DriveStep.rules : t.rules = s.rules := by rw [h.1]
theorem State.DriveStep.pattern : t.pattern = s.pattern := by rw [h.1]
theorem State.DriveStep.sweep : t.sweep = s.sweep := by rw [h.1]
theorem State.DriveStep.answer : t.answer = s.answer := by rw [h.1]

end fields

/-! ## The updates -/

theorem State.setLoop_driveStep (s : State) (i : Fin 16) (l : Loop)
    (h : (s.loop i).SameSettings l) : s.DriveStep (s.setLoop i l) := by
  refine ⟨rfl, fun j => ?_⟩
  rw [State.loop_setLoop]
  split
  · rename_i e; subst e; exact h
  · exact Loop.SameSettings.refl _

theorem State.updLoop_driveStep (s : State) (i : Fin 16) (f : Loop → Loop)
    (h : ∀ l, Loop.SameSettings l (f l)) : s.DriveStep (s.updLoop i f) :=
  s.setLoop_driveStep i _ (h _)

theorem State.mapLoops_driveStep (s : State) (f : Fin 16 → Loop → Loop)
    (h : ∀ i l, Loop.SameSettings l (f i l)) : s.DriveStep (s.mapLoops f) := by
  refine ⟨by unfold State.mapLoops; rfl, fun j => ?_⟩
  rw [State.loop_mapLoops]
  exact h _ _

theorem State.raise_driveStep (s : State) (k : NoticeKind) (n : Option Nat) (v : Option Int) :
    s.DriveStep (s.raise k n v) := ⟨rfl, fun _ => Loop.SameSettings.refl _⟩

theorem State.leaveWaits_driveStep (s : State) (i : Fin 16) : s.DriveStep (s.leaveWaits i) :=
  ⟨rfl, fun _ => Loop.SameSettings.refl _⟩

theorem State.setHead_driveStep (s : State) (i : Fin 16) (h : HeadState) :
    s.DriveStep (s.setHead i h) :=
  s.updLoop_driveStep i _ fun _ => by simp [Loop.SameSettings, Loop.enabled]

theorem State.setOrders_driveStep (s : State) (o : List HeadOrder) :
    s.DriveStep { s with orders := o } := ⟨rfl, fun _ => Loop.SameSettings.refl _⟩

theorem State.setWaits_driveStep (s : State) (w : List WaitEntry) :
    s.DriveStep { s with waits := w } := ⟨rfl, fun _ => Loop.SameSettings.refl _⟩

/-! ## The head arbiter -/

theorem State.order_driveStep (s : State) (i : Fin 16) (a : Action) : s.DriveStep (s.order i a) :=
  (s.setHead_driveStep i a.queued).trans (State.setOrders_driveStep _ _)

theorem State.replaceOrder_driveStep (s : State) (i : Fin 16) (a : Action) :
    s.DriveStep (s.replaceOrder i a) :=
  (s.setHead_driveStep i a.queued).trans (State.setOrders_driveStep _ _)

theorem State.askToEnergise_driveStep (s : State) (i : Fin 16) :
    s.DriveStep (s.askToEnergise i) := by
  unfold State.askToEnergise
  split
  · exact s.order_driveStep i _
  · exact (s.setHead_driveStep i _).trans (State.setWaits_driveStep _ _)

theorem State.askToRelease_driveStep (s : State) (i : Fin 16) : s.DriveStep (s.askToRelease i) := by
  unfold State.askToRelease
  split
  · exact .refl s
  · split
    · exact s.order_driveStep i _
    · exact State.setWaits_driveStep _ _

theorem State.placeEnergise_driveStep (s : State) (i : Fin 16) (r : Bool) :
    s.DriveStep (s.placeEnergise i r) := by
  unfold State.placeEnergise
  split
  all_goals first
    | exact (s.leaveWaits_driveStep i).trans (State.askToEnergise_driveStep _ i)
    | exact .refl s
    | (split
       · first | exact s.replaceOrder_driveStep i _ | exact s.order_driveStep i _
       · exact .refl s)

theorem State.placeRelease_driveStep (s : State) (i : Fin 16) (r : Bool) :
    s.DriveStep (s.placeRelease i r) := by
  unfold State.placeRelease
  split
  all_goals first
    | exact s.order_driveStep i _
    | exact s.askToRelease_driveStep i
    | exact .refl s
    | (split
       · first
         | exact s.replaceOrder_driveStep i _
         | exact s.askToRelease_driveStep i
         | exact (s.leaveWaits_driveStep i).trans (State.setHead_driveStep _ i _)
       · first
         | exact .refl s
         | exact ((s.leaveWaits_driveStep i).trans (State.setHead_driveStep _ i _)).trans
             (State.askToRelease_driveStep _ i))

theorem State.place_driveStep (s : State) (i : Fin 16) (a : Action) (r : Bool) :
    s.DriveStep (s.place i a r) := by
  unfold State.place
  split
  · exact .refl s
  · cases a
    · exact s.placeRelease_driveStep i r
    · exact s.placeEnergise_driveStep i r

theorem State.want_driveStep (s : State) (i : Fin 16) (a : Action) (r : Bool) :
    s.DriveStep (s.want i a r) :=
  (s.updLoop_driveStep i _ fun _ => by simp [Loop.SameSettings, Loop.enabled]).trans
    (State.place_driveStep _ i a r)

theorem State.placeDiffering_driveStep (s : State) (i : Fin 16) (a : Action) :
    s.DriveStep (s.placeDiffering i a) := by
  unfold State.placeDiffering
  split
  · exact .refl s
  · split
    · exact .refl s
    · exact s.place_driveStep i _ _

theorem State.grantSlot_driveStep (s : State) : s.DriveStep s.grantSlot := by
  unfold State.grantSlot
  split
  · exact .refl s
  · exact (s.leaveWaits_driveStep _).trans (State.order_driveStep _ _ _)

/-! ## The allocator -/

theorem State.closeShed_driveStep (s : State) (i : Fin 16) : s.DriveStep (s.closeShed i) := by
  unfold State.closeShed
  have h : s.DriveStep (s.updLoop i fun l => { l with onTime := 0, openPhase := false }) :=
    s.updLoop_driveStep i _ fun _ => by simp [Loop.SameSettings, Loop.enabled]
  dsimp only
  split
  · exact h.trans (State.want_driveStep _ i _ _)
  · exact h

theorem State.shedStep_driveStep (level : Nat) (s : State) (i : Fin 16) :
    s.DriveStep (State.shedStep level s i) := by
  unfold State.shedStep
  dsimp only
  split <;> rename_i e
  · split
    · refine State.DriveStep.trans (s.setLoop_driveStep i _ ?_) (State.closeShed_driveStep _ i)
      simp [Loop.SameSettings, Loop.enabled, Loop.noDuties, e]
      rfl
    · exact .refl s
  · split
    · refine State.DriveStep.trans (s.setLoop_driveStep i _ ?_) (State.closeShed_driveStep _ i)
      simp [Loop.SameSettings, Loop.enabled, Loop.noDuties]
    · exact .refl s
  · split
    · exact .refl s
    · refine s.setLoop_driveStep i _ ?_
      simp [Loop.SameSettings, Loop.enabled, e]
      rfl
  all_goals exact .refl s

/-- A fold of drive steps is a drive step. -/
theorem State.foldl_driveStep {α : Type} (f : State → α → State) (l : List α)
    (h : ∀ s a, State.DriveStep s (f s a)) (s : State) : s.DriveStep (l.foldl f s) := by
  induction l generalizing s with
  | nil => exact .refl s
  | cons a l ih => exact (h s a).trans (ih _)

theorem State.shedAll_driveStep (s : State) : s.DriveStep s.shedAll :=
  State.foldl_driveStep _ _ (State.shedStep_driveStep _) s

theorem Loop.allocated_sameSettings (l : Loop) (r : Bool) (g : Nat) :
    l.SameSettings (l.allocated r g) := by
  unfold Loop.allocated
  split
  case h_2 => split <;> simp [Loop.SameSettings, Loop.enabled, Loop.buffer, Loop.noDuties]
  all_goals simp [Loop.SameSettings, Loop.enabled, Loop.buffer, Loop.noDuties]

theorem State.setAlloc_driveStep (s : State) (a : Allocation) :
    s.DriveStep { s with alloc := a } := ⟨rfl, fun _ => Loop.SameSettings.refl _⟩

theorem State.allocate_driveStep (s : State) : s.DriveStep s.allocate := by
  have h : ∀ f : Fin 16 → Loop → Loop, (∀ i l, Loop.SameSettings l (f i l)) →
      ∀ a, s.DriveStep { s.mapLoops f with alloc := a } := fun f hf a =>
    (s.mapLoops_driveStep f hf).trans (State.setAlloc_driveStep _ a)
  unfold State.allocate
  dsimp only
  split
  · split
    · exact h _ (fun _ l => l.allocated_sameSettings _ _) _
    · exact (h _ (fun _ l => l.allocated_sameSettings _ _) _).trans (State.raise_driveStep _ _ _ _)
  · exact h _ (fun _ l => l.allocated_sameSettings _ _) _

/-- A recompute is a drive step. -/
theorem State.recompute_driveStep (s : State) : s.DriveStep s.recompute := by
  unfold State.recompute
  split
  · exact s.shedAll_driveStep.trans (State.allocate_driveStep _)
  · exact .refl s

theorem State.addCause_driveStep (s : State) (i : Fin 16) (c : Cause) :
    s.DriveStep (s.addCause i c) := by
  unfold State.addCause
  dsimp only
  split
  · exact .refl s
  · have hj : s.DriveStep
        (s.updLoop i fun l => { l with causes := (s.loop i).causes.put true c }) :=
      s.updLoop_driveStep i _ fun _ => by simp [Loop.SameSettings, Loop.enabled]
    have hf : ∀ (u : State) (b : Bool), (u.loop i).enabled = true →
        u.DriveStep (u.updLoop i fun l => l.intoFault b) := by
      intro u b hu
      refine u.setLoop_driveStep i _ ?_
      unfold Loop.enabled at hu
      unfold Loop.intoFault
      dsimp only
      split <;> simp only [Loop.SameSettings, Loop.enabled, Loop.noDuties, Loop.buffer, hu,
        true_and, imp_self] <;> rfl
    split
    all_goals first
      | exact hj.trans (State.raise_driveStep _ _ _ _)
      | (refine ((hj.trans (hf _ _ ?_)).trans (State.raise_driveStep _ _ _ _)).trans
           (State.recompute_driveStep _)
         rename_i e
         simp [Loop.enabled, e])

theorem State.removeCause_driveStep (s : State) (i : Fin 16) (c : Cause) :
    s.DriveStep (s.removeCause i c) := by
  unfold State.removeCause
  dsimp only
  split
  · exact .refl s
  · have hl : s.DriveStep
        (s.updLoop i fun l => { l with causes := (s.loop i).causes.put false c }) :=
      s.updLoop_driveStep i _ fun _ => by simp [Loop.SameSettings, Loop.enabled]
    split
    · exact hl.trans (State.raise_driveStep _ _ _ _)
    · exact hl

theorem State.addProbeCause_driveStep (s : State) (i : Fin 16) :
    s.DriveStep (s.addProbeCause i) := by
  unfold State.addProbeCause
  split
  · exact s.addCause_driveStep i _
  · exact .refl s

theorem State.removeProbeCause_driveStep (s : State) (i : Fin 16) :
    s.DriveStep (s.removeProbeCause i) := by
  unfold State.removeProbeCause
  split
  · exact .refl s
  · exact s.removeCause_driveStep i _

theorem State.evaluateProbe_driveStep (s : State) (i : Fin 16) :
    s.DriveStep (s.evaluateProbe i) := by
  unfold State.evaluateProbe
  split
  · exact s.addCause_driveStep i _
  · exact s.removeCause_driveStep i _

/-! ## Probes and drive timers -/

theorem State.evaluateHeld_driveStep (s : State) (i : Fin 16) : s.DriveStep (s.evaluateHeld i) :=
  s.updLoop_driveStep i _ fun _ => by simp [Loop.SameSettings, Loop.enabled]

theorem State.offerReturn_driveStep (s : State) (i : Fin 16) : s.DriveStep (s.offerReturn i) := by
  unfold State.offerReturn
  split
  · split
    · exact s.updLoop_driveStep i _ fun _ => by
        simp [Loop.SameSettings, Loop.enabled, Loop.addSample]
    · exact .refl s
  all_goals exact .refl s

theorem State.confirm_driveStep (s : State) (i : Fin 16) (a : Action) :
    s.DriveStep (s.confirm i a) := by
  unfold State.confirm
  exact s.updLoop_driveStep i _ fun _ => by simp [Loop.SameSettings, Loop.enabled]

theorem State.clearSilent_driveStep (s : State) (i : Fin 16) : s.DriveStep (s.clearSilent i) := by
  unfold State.clearSilent
  split
  · exact s.removeCause_driveStep i _
  · exact .refl s

theorem State.damageBy_driveStep (s : State) (i : Fin 16) (c : Condition) :
    s.DriveStep (s.damageBy i c) := by
  cases c
  · exact .refl s
  all_goals exact s.addCause_driveStep i _

/-- A number clamped into natural limits lies within them. -/
theorem clampNat_bounds (lo hi : Nat) (v : Int) (h : lo ≤ hi) :
    lo ≤ clampNat lo hi v ∧ clampNat lo hi v ≤ hi := by
  unfold clampNat clampInt
  split
  · exact ⟨by simp, by simpa using h⟩
  · split <;> omega

theorem Loop.balance_sameSettings (l : Loop) (k : FloorClass) : l.SameSettings (l.balance k) := by
  unfold Loop.balance
  split
  · exact .refl l
  · simp only [Loop.SameSettings, Loop.enabled, true_and, and_true]
    intro h
    exact clampNat_bounds _ _ _ (le_trans h.1 h.2)

theorem Loop.emptyAcc_sameSettings (l : Loop) : l.SameSettings l.emptyAcc := by
  simp [Loop.SameSettings, Loop.enabled, Loop.emptyAcc]

theorem State.balance_driveStep (s : State) (i : Fin 16) : s.DriveStep (s.balance i) :=
  s.updLoop_driveStep i _ fun l => (l.balance_sameSettings _).trans (Loop.emptyAcc_sameSettings _)

theorem State.postRequest_driveStep (s : State) (i : Fin 16) : s.DriveStep (s.postRequest i) :=
  (s.updLoop_driveStep i _ fun _ => by simp [Loop.SameSettings, Loop.enabled]).trans
    (State.recompute_driveStep _)

theorem State.capture_driveStep (s : State) (i : Fin 16) : s.DriveStep (s.capture i) := by
  have h : ∀ (u : State) (f : Loop → Loop), (∀ l, Loop.SameSettings l (f l)) →
      u.DriveStep (u.updLoop i f) := fun u f hf => u.updLoop_driveStep i f hf
  have ha : s.DriveStep (s.updLoop i fun l => { l with achieved := l.openCount }) :=
    h s _ fun _ => by simp [Loop.SameSettings, Loop.enabled]
  unfold State.capture
  dsimp only
  split
  · have hr := ha.trans (h _ (fun l => { l with starvedRun := satInc l.starvedRun }) fun _ => by
      simp [Loop.SameSettings, Loop.enabled])
    split
    · exact hr.trans (State.raise_driveStep _ _ _ _)
    · exact hr
  · exact ha.trans (h _ _ fun _ => by simp [Loop.SameSettings, Loop.enabled])

theorem State.faultExit_driveStep (s : State) (i : Fin 16) : s.DriveStep (s.faultExit i) := by
  unfold State.faultExit
  split
  · rename_i e
    refine State.DriveStep.trans (s.setLoop_driveStep i _ ?_) (State.recompute_driveStep _)
    split <;> simp [Loop.SameSettings, Loop.enabled, e.1] <;> rfl
  · exact .refl s

theorem State.stateWork_driveStep (s : State) (i : Fin 16) : s.DriveStep (s.stateWork i) := by
  unfold State.stateWork
  split
  · exact (s.balance_driveStep i).trans (State.postRequest_driveStep _ i)
  · exact s.updLoop_driveStep i _ Loop.emptyAcc_sameSettings

theorem State.phaseStart_driveStep (s : State) (i : Fin 16) : s.DriveStep (s.phaseStart i) := by
  unfold State.phaseStart
  dsimp only
  exact (s.updLoop_driveStep i _ fun _ => by simp [Loop.SameSettings, Loop.enabled]).trans
    (State.want_driveStep _ i _ _)

theorem Loop.swap_sameSettings (l : Loop) : l.SameSettings l.swap := by
  unfold Loop.swap
  split <;> simp [Loop.SameSettings, Loop.enabled]

/-- The work at a boundary in ACTIVE mode is a drive step. -/
theorem State.activeBoundary_driveStep (s : State) (i : Fin 16) :
    s.DriveStep (s.activeBoundary i) := by
  unfold State.activeBoundary
  dsimp only
  exact ((((s.capture_driveStep i).trans (State.faultExit_driveStep _ i)).trans
    (State.stateWork_driveStep _ i)).trans
    (State.updLoop_driveStep _ i _ Loop.swap_sameSettings)).trans (State.phaseStart_driveStep _ i)

/-! ## When a probe entry has reached the fault stale time (R45, R49) -/

/-- A valid entry has reached the fault stale time when it is stale and old enough. -/
theorem State.probeFaulted_iff (s : State) (e : Fin 32) (h : (s.probe e).valid = true) :
    s.probeFaulted e = true ↔ (s.probe e).stale = true ∧
      s.general.faultStaleTime ≤ min 65535 (s.now - (s.probe e).ageStart) := by
  simp [State.probeFaulted, State.probeAge, State.ageSince, h, Config.ageMax]

/-- A fault interval is due when it runs and its valid entry has reached the fault stale time. -/
theorem State.probeFaultDue_iff (s : State) (e : Fin 32) :
    s.probeFaultDue e = true ↔ (s.probe e).valid = true ∧ (s.probe e).faultRunning = true ∧
      s.probeFaulted e = true := by
  simp [State.probeFaultDue, and_assoc]

end Sys2Proof.Machine
end

