-- ==== Sys2Proof/Laws/Modes.lean ====
section
/-! SUPPORT. What the completion checks and the stages of a pattern can do to the part. -/

namespace Sys2Proof.Machine

open Sys2Proof

/-! ## Completion checks (R103, R137, R141) -/

/-- Everything the halting check can do: nothing, or the passage from HALTING to PASSIVE with nothing left
to send. -/
theorem State.checkHalting_cases (s : State) :
    s.checkHalting = s ∨
    (s.mode = .halting ∧ s.headsQuiet = true ∧
      s.checkHalting = { s with mode := .passive, t0 := none }) := by
  unfold State.checkHalting
  split
  · rename_i h
    refine .inr ⟨?_, ?_, rfl⟩ <;> simp_all
  · exact .inl rfl

/-- A wind-down is quiet when nothing is left to send and no RELEASE of its ending waits behind an echo. -/
theorem State.windDownQuiet_iff (s : State) :
    s.windDownQuiet = true ↔ s.headsQuiet = true ∧ ∀ i, s.windDownHeld i = false := by
  have ids (i : Fin 16) : i ∈ loopIds := by revert i; decide
  simp [State.windDownQuiet, ids]

/-- Everything the wind-down check can do: nothing, or the end of a wind-down in TEST mode with nothing
left to send. -/
theorem State.checkWindDown_cases (s : State) :
    s.checkWindDown = s ∨
    (s.mode = .test ∧ s.windDownQuiet = true ∧ ∃ n,
      s.checkWindDown = { s with
        mode := .passive
        pattern := { s.pattern with
          kind := .none, stage := .idle, heldBy := Vector.replicate 16 false }
        notices := s.notices.raise .patternDone none n }) := by
  unfold State.checkWindDown
  split
  · rename_i h
    refine .inr ⟨?_, ?_, _, rfl⟩ <;> simp_all
  · exact .inl rfl

/-! ## Stages (R130, R131) -/

/-- A settlement changes the pattern record alone. -/
theorem State.patternSettle_pattern (s : State) :
    s.patternSettle = { s with pattern := s.patternSettle.pattern } := by
  unfold State.patternSettle State.startInterval
  split <;> (try split) <;> rfl

/-- t differs from s by a drive step and in the pattern record. -/
def State.StageStep (s t : State) : Prop :=
  ∃ u, s.DriveStep u ∧ t = { u with pattern := t.pattern }

/-- A drive step between two changes of the pattern record is a stage step. -/
theorem State.stageStep_of {s u t : State} (p : Pattern)
    (h : State.DriveStep { s with pattern := p } u) (g : t = { u with pattern := t.pattern }) :
    s.StageStep t := by
  refine ⟨{ u with pattern := s.pattern }, ⟨?_, h.2⟩, ?_⟩
  · rw [h.1]
  · rw [g]

/-- Entering a stage that drives a head is a stage step. -/
theorem State.driveStage_stageStep (s : State) (stage : Stage) (k : Fin 16) (a : Action) :
    s.StageStep (s.driveStage stage k a) :=
  State.stageStep_of _ (State.want_driveStep _ k a false) (State.patternSettle_pattern _)

/-- The beginning of a test is a stage step. -/
theorem State.beginTest_stageStep (s : State) (k : Fin 16) : s.StageStep (s.beginTest k) :=
  State.stageStep_of _ (State.want_driveStep _ k _ false) (State.patternSettle_pattern _)

/-- A stage step leaves what a drive step leaves. -/
theorem State.StageStep.unchanged {s t : State} (h : s.StageStep t) :
    t.now = s.now ∧ t.pending = s.pending ∧ t.strap = s.strap ∧ t.mode = s.mode ∧
    t.lock = s.lock ∧ t.t0 = s.t0 ∧ t.general = s.general ∧ t.classes = s.classes ∧
    t.profiles = s.profiles ∧ t.rooms = s.rooms ∧ t.probes = s.probes ∧ t.supply = s.supply ∧
    t.portH = s.portH ∧ t.portM = s.portM ∧ t.rules = s.rules ∧ t.sweep = s.sweep ∧
    t.answer = s.answer ∧ ∀ j, (s.loop j).SameSettings (t.loop j) := by
  obtain ⟨u, d, g⟩ := h
  rw [g]
  exact ⟨d.now, d.pending, d.strap, d.mode, d.lock, d.t0, d.general, d.classes, d.profiles, d.rooms,
    d.probes, d.supply, d.portH, d.portM, d.rules, d.sweep, d.answer, d.2⟩

end Sys2Proof.Machine
end

