-- ==== Sys2Proof/Laws/Queues.lean ====
section
/-! SUPPORT. The notice queue and the pass queues: what raising, handing out and placing can do, and that
each keeps the bounds of R111 and R151. -/

namespace Sys2Proof.Machine

open Sys2Proof

/-! ## The notice queue (R151 to R153) -/

/-- Kind and subject of each entry, in order. -/
def Notices.topics (q : Notices) : List (NoticeKind × Option Nat) :=
  q.entries.map fun e => (e.kind, e.subject)

/-- No two entries about the same thing, said of the list of topics. -/
theorem Notices.distinct_iff_nodup (q : Notices) : q.Distinct ↔ q.topics.Nodup := by
  unfold Notices.Distinct Notices.topics List.Nodup
  rw [List.pairwise_map]
  simp [Prod.ext_iff, not_and]

theorem NoticeEntry.about_iff (e : NoticeEntry) (k : NoticeKind) (n : Option Nat) :
    e.about k n = true ↔ e.kind = k ∧ e.subject = n := by
  simp [NoticeEntry.about]

/-- Raising where an entry of the kind and subject is held: topics as before. -/
theorem Notices.topics_raise_of_mem {q : Notices} {k : NoticeKind} {n : Option Nat}
    (v : Option Int) (h : q.entries.any (·.about k n) = true) :
    (q.raise k n v).topics = q.topics := by
  simp only [Notices.raise, h, if_true, Notices.topics, List.map_map]
  refine List.map_congr_left fun e _ => ?_
  simp only [Function.comp]
  split <;> rfl

/-- Everything a raised notice can do to the topics: nothing, or one new topic at the tail of a queue that
has room. -/
theorem Notices.topics_raise (q : Notices) (k : NoticeKind) (n : Option Nat) (v : Option Int) :
    (q.raise k n v).topics = q.topics ∨
    ((k, n) ∉ q.topics ∧ q.entries.length < 16 ∧ (q.raise k n v).topics = q.topics ++ [(k, n)]) := by
  by_cases h : q.entries.any (·.about k n) = true
  · exact .inl (Notices.topics_raise_of_mem v h)
  · by_cases hl : q.entries.length < Config.noticeQueueSize
    · refine .inr ⟨?_, hl, by simp [Notices.raise, h, hl, Notices.topics]⟩
      intro hm
      obtain ⟨e, he, hk⟩ := List.mem_map.mp hm
      refine h (List.any_eq_true.mpr ⟨e, he, (e.about_iff k n).mpr ?_⟩)
      exact Prod.ext_iff.mp hk
    · exact .inl (by simp [Notices.raise, h, hl, Notices.topics])

theorem Notices.length_topics (q : Notices) : q.topics.length = q.entries.length := by
  simp [Notices.topics]

/-- Raising keeps the bound of 16 entries. -/
theorem Notices.raise_length {q : Notices} (k : NoticeKind) (n : Option Nat) (v : Option Int)
    (h : q.entries.length ≤ 16) : (q.raise k n v).entries.length ≤ 16 := by
  rw [← Notices.length_topics] at *
  rcases q.topics_raise k n v with e | ⟨-, hl, e⟩ <;> rw [e]
  · exact h
  · rw [List.length_append, Notices.length_topics]
    exact hl

/-- Raising keeps the entries distinct. -/
theorem Notices.raise_distinct {q : Notices} (k : NoticeKind) (n : Option Nat) (v : Option Int)
    (h : q.Distinct) : (q.raise k n v).Distinct := by
  rw [Notices.distinct_iff_nodup] at *
  rcases q.topics_raise k n v with e | ⟨hm, -, e⟩ <;> rw [e]
  · exact h
  · exact List.nodup_append.mpr ⟨h, List.nodup_singleton _, by
      intro a ha b hb hab
      rw [List.mem_singleton.mp hb] at hab
      exact hm (hab ▸ ha)⟩

/-- A queue whose topics are a sublist keeps bound and distinctness. -/
theorem Notices.bounds_of_sublist {q r : Notices} (h : r.topics.Sublist q.topics) :
    (q.entries.length ≤ 16 → r.entries.length ≤ 16) ∧ (q.Distinct → r.Distinct) := by
  rw [Notices.distinct_iff_nodup, Notices.distinct_iff_nodup, ← Notices.length_topics,
    ← Notices.length_topics]
  exact ⟨fun g => h.length_le.trans g, fun g => g.sublist h⟩

/-- The completion of a NOTICE leaves a sublist of the topics. -/
theorem Notices.complete_sublist (q : Notices) (now : Nat) :
    (q.complete now).topics.Sublist q.topics := by
  unfold Notices.complete Notices.topics
  rw [List.map_map]
  exact List.Sublist.map _ List.filter_sublist

/-! ## The pass queues (R111) -/

/-- Everything a placing can do to the queue it is placed in: the telegram joins the tail, takes the place
of the oldest there, or is dropped; the length stays within 8. -/
theorem State.placeForward_queue (s : State) (p : PortId) (t : Telegram)
    (h : (s.port p).queue.length ≤ 8) :
    ((s.placeForward p t).port p).queue.length ≤ 8 := by
  unfold State.placeForward
  split
  · rename_i hl
    cases p <;> simpa [State.setPort, State.port] using hl
  · cases p <;> simp only [State.raise, State.setPort, State.port] <;>
      split <;> first | exact h | (simp [State.port] at h ⊢; omega)

/-- A placing leaves the queue of the other port. -/
theorem State.placeForward_other (s : State) (p : PortId) (t : Telegram) :
    ((s.placeForward p t).port (opposite p)).queue = (s.port (opposite p)).queue := by
  unfold State.placeForward
  split <;> cases p <;> rfl

/-- A placing raises at most QUEUE DROP. -/
theorem State.placeForward_notices (s : State) (p : PortId) (t : Telegram) :
    (s.placeForward p t).notices = s.notices ∨
    ∃ v, (s.placeForward p t).notices = s.notices.raise .queueDrop (some (portCode p)) v := by
  unfold State.placeForward
  cases p <;> split
  all_goals first
    | exact .inl rfl
    | exact .inr ⟨_, rfl⟩

end Sys2Proof.Machine
end

