-- ==== Sys2Proof/Laws/Requests.lean ====
section
/-! SUPPORT. The taking of a setup request, case by case; the index check; clamping; the reply of a taken
write as `Stores` says it. -/

namespace Sys2Proof.Machine

open Sys2Proof

/-! ## Taking a request (R143) -/

theorem State.takeRequest_occupied {s : State} (src code : Byte) (lockable : Bool)
    (body : State → Reply) (h : s.answer ≠ none) :
    s.takeRequest src code lockable body = s.countUnmatched .h := by
  have : s.answer.isSome = true := Option.isSome_iff_ne_none.mpr h
  simp [State.takeRequest, this]

theorem State.takeRequest_locked {s : State} (src code : Byte) (body : State → Reply)
    (h : s.answer = none) (hl : s.lock = true) :
    s.takeRequest src code true body = s.putAnswer src code .locked [] := by
  simp [State.takeRequest, h, hl]

/-- A request that the lock does not govern is carried out on an empty buffer. -/
theorem State.takeRequest_open {s : State} (src code : Byte) (body : State → Reply)
    (h : s.answer = none) :
    s.takeRequest src code false body =
      (body s).part.putAnswer src code (body s).outcome (body s).content := by
  simp [State.takeRequest, h]

/-- A request that the lock governs is carried out where the part takes it. -/
theorem State.takeRequest_taken {s : State} (src code : Byte) (lockable : Bool)
    (body : State → Reply) (h : s.Takes) :
    s.takeRequest src code lockable body =
      (body s).part.putAnswer src code (body s).outcome (body s).content := by
  simp [State.takeRequest, h.1, h.2.1]

/-- Everything the taking of a request can do: count it as unmatched, or answer it on the part as its
carrying out leaves it, which is the part itself where it is LOCKED. -/
theorem State.takeRequest_cases (s : State) (src code : Byte) (lockable : Bool)
    (body : State → Reply) :
    (s.answer ≠ none ∧ s.takeRequest src code lockable body = s.countUnmatched .h) ∨
    (s.answer = none ∧ lockable = true ∧ s.lock = true ∧
      s.takeRequest src code lockable body = s.putAnswer src code .locked []) ∨
    (s.answer = none ∧ (lockable = true → s.lock = false) ∧
      s.takeRequest src code lockable body =
        (body s).part.putAnswer src code (body s).outcome (body s).content) := by
  by_cases h : s.answer = none
  · cases lockable
    · exact .inr (.inr ⟨h, nofun, s.takeRequest_open src code body h⟩)
    · cases hl : s.lock
      · exact .inr (.inr ⟨h, fun _ => rfl, by simp [State.takeRequest, h, hl]⟩)
      · exact .inr (.inl ⟨h, rfl, rfl, State.takeRequest_locked src code body h hl⟩)
  · exact .inl ⟨h, State.takeRequest_occupied src code lockable body h⟩

/-! ## The index check (R143) -/

@[simp] theorem withIndex_val {n : Nat} (i : Fin n) (s : State) (body : Fin n → State → Reply) :
    withIndex n i.val s body = body i s := by simp [withIndex]

theorem withIndex_outside {n index : Nat} (s : State) (body : Fin n → State → Reply)
    (h : n ≤ index) : withIndex n index s body = Reply.plain s .range := by
  simp [withIndex, Nat.not_lt.mpr h]

/-- The index check answers RANGE and leaves the part, or hands over an index of the table. -/
theorem withIndex_cases {n : Nat} (index : Nat) (s : State) (body : Fin n → State → Reply) :
    (n ≤ index ∧ withIndex n index s body = Reply.plain s .range) ∨
    ∃ i : Fin n, i.val = index ∧ withIndex n index s body = body i s := by
  by_cases h : index < n
  · exact .inr ⟨⟨index, h⟩, rfl, by simp [withIndex, h]⟩
  · exact .inl ⟨Nat.not_lt.mp h, withIndex_outside s body (Nat.not_lt.mp h)⟩

/-! ## Clamping -/

theorem clampInt_eq (lo hi v : Int) (h : lo ≤ hi) : clampInt lo hi v = max lo (min v hi) := by
  unfold clampInt
  split
  · omega
  · split <;> omega

/-- The clamped number is the w that the statements name. -/
theorem clampNat_eq {lo hi w : Nat} {v : Int} (h : lo ≤ hi) (hw : (w : Int) = max (lo : Int) (min v hi)) :
    clampNat lo hi v = w := by
  unfold clampNat
  rw [clampInt_eq _ _ _ (by omega), ← hw]
  rfl

theorem clampNat_cast (lo hi : Nat) (v : Int) (h : lo ≤ hi) :
    (clampNat lo hi v : Int) = max (lo : Int) (min v hi) := by
  unfold clampNat
  rw [clampInt_eq _ _ _ (by omega)]
  omega

/-! ## Replies -/

@[simp] theorem Reply.part_plain (s : State) (o : AnswerCode) : (Reply.plain s o).part = s := rfl
@[simp] theorem Reply.outcome_plain (s : State) (o : AnswerCode) :
    (Reply.plain s o).outcome = o := rfl
@[simp] theorem Reply.content_plain (s : State) (o : AnswerCode) :
    (Reply.plain s o).content = [] := rfl
@[simp] theorem Reply.part_held (s : State) (b : Bool) (v : Int) : (Reply.held s b v).part = s := rfl
@[simp] theorem Reply.content_held (s : State) (b : Bool) (v : Int) :
    (Reply.held s b v).content = valueBytes v := rfl
@[simp] theorem Reply.outcome_held (s : State) (b : Bool) (v : Int) :
    (Reply.held s b v).outcome = if b then .clamped else .done := rfl

/-- The reply of a write that holds w, clamped exactly where w is not v, is what `Stores` says. -/
theorem Reply.held_stores {t : State} {v w : Int} (src : Byte) {b : Bool}
    (h : b = decide (w ≠ v)) :
    (Reply.held t b w).part.putAnswer src 0x02 (Reply.held t b w).outcome (Reply.held t b w).content =
      t.putAnswer src 0x02 (if w = v then .done else .clamped) (valueBytes w) := by
  subst h
  by_cases e : w = v <;> simp [e]

end Sys2Proof.Machine
end

