-- ==== Sys2Proof/WellFormed.lean ====
section
/-! DEFINITION. Which commands a sender can form: every operand fits the bytes that carry it on the
line (R156, R158). The machine takes every command; these checks say which ones the line can spell. -/

namespace Sys2Proof

/-- An operand carried in one byte. -/
def fitsByte (n : Nat) : Bool := n < 256

/-- An operand carried in two bytes. -/
def fitsWord (n : Nat) : Bool := n < 65536

/-- A written value, carried as a signed 32-bit field (R158). -/
def fitsValue (v : Int) : Bool := -2147483648 ≤ v && v ≤ 2147483647

/-- A received telegram whose LEN byte counts its data (R156). -/
def Telegram.wellFormed (t : Telegram) : Bool := t.data.length < 256

/-- Arguments of START PATTERN that fit their bytes, the two known patterns under their own names. -/
def PatternRequest.wellFormed : PatternRequest → Bool
  | .identify loop toggles interval => fitsByte loop && fitsByte toggles && fitsWord interval
  | .sweep dwell threshold => fitsWord dwell && fitsWord threshold
  | .other code => fitsByte code && code != 1 && code != 2

/-- The rejected count of a probe entry that exists. -/
def CounterField.wellFormed : CounterField → Bool
  | .rejected entry => entry < 32
  | .forwarded | .damaged | .consecutiveDamaged | .overflow | .malformed | .strayEcho
  | .unmatched => true

/-- The command can be spelled on the line, or is an event of the part itself. -/
def Instr.wellFormed : Instr → Bool
  | .telegramReceived _ t => t.wellFormed
  | .readField _ table index field => fitsByte table && fitsByte index && fitsByte field
  | .writeField _ table index field value =>
      fitsByte table && fitsByte index && fitsByte field && fitsValue value
  | .loopStaticFieldWrite _ loop _ value => fitsByte loop && fitsValue value
  | .loopRoomWrite _ loop value => fitsByte loop && fitsValue value
  | .shareWrite _ loop _ value => fitsByte loop && fitsValue value
  | .levelWrite _ loop _ value => fitsByte loop && fitsValue value
  | .floorClassWrite _ cls _ value => fitsByte cls && fitsValue value
  | .profileWrite _ profile _ value => fitsByte profile && fitsValue value
  | .roomFieldWrite _ room _ value => fitsByte room && fitsValue value
  | .unitAddressWrite _ room value => fitsByte room && fitsValue value
  | .probeFieldWrite _ entry _ value => fitsByte entry && fitsValue value
  | .probeValidWrite _ entry value => fitsByte entry && fitsValue value
  | .probeStaleTimeWrite _ value => fitsValue value
  | .faultStaleTimeWrite _ value => fitsValue value
  | .roomStaleTimeWrite _ value => fitsValue value
  | .fdefWrite _ value => fitsValue value
  | .supplyStaleTimeWrite _ value => fitsValue value
  | .supplySourceAddressWrite _ value => fitsValue value
  | .manualShedLevelWrite _ value => fitsValue value
  | .cycleLengthWrite _ value => fitsValue value
  | .overflowPolicyWrite _ _ value => fitsValue value
  | .directionDefaultWrite _ _ value => fitsValue value
  | .noticeAddressWrite _ value => fitsValue value
  | .counterWrite _ index field value => fitsByte index && field.wellFormed && fitsValue value
  | .ruleFieldWrite _ rule _ value => fitsByte rule && fitsValue value
  | .hitsWrite _ rule value => fitsByte rule && fitsValue value
  | .enableLoop _ loop => fitsByte loop
  | .disableLoop _ loop => fitsByte loop
  | .setMode _ requested => fitsByte requested
  | .startPattern _ request => request.wellFormed
  | .setLock _ value => fitsByte value
  | .powerOn _ | .stopPattern _ | .takeNotice _ | .readStatus _ | .restartRequest _
  | .transmissionBegin _ | .headOrderTransmissionBegin | .noticeTransmissionBegin
  | .answerTransmissionComplete | .forwardTransmissionComplete _ | .noticeTransmissionComplete
  | .headOrderTransmissionComplete | .echoTimeout _ | .loopBoundary _ | .onTimeExpiry _
  | .settleIntervalExpiry _ | .roomStaleExpiry _ | .probeStaleExpiry _ | .probeFaultExpiry _
  | .reportTemperatureExpiry | .supplyStaleExpiry | .spacingIntervalExpiry
  | .identifyHalfExpiry | .clearingExpiry | .dwellExpiry | .closeWaitExpiry => true

end Sys2Proof
end

