-- ==== Sys2Proof/Tests/Slice0.lean ====
section
/-! SUPPORT. Tests of the model on small states: an ill-formed term for each check of well-formedness, one
or two single steps for each command, and, for each obligation with hypotheses, concrete states and
operands that meet them, at boundary values of their ranges. -/

open Sys2Proof Sys2Proof.Machine

namespace Sys2Proof.Tests

set_option maxRecDepth 8000

/-! ## Well-formedness refuses each ill-formed operand -/

theorem test_illformed_telegram_length :
    (Instr.telegramReceived .h ⟨5, 6, 0x21, List.replicate 256 0, 0⟩).wellFormed = false := by decide

theorem test_illformed_byte_operand : (Instr.enableLoop 5 256).wellFormed = false ∧
    (Instr.readField 5 1 256 1).wellFormed = false := by decide

theorem test_illformed_value_operand : (Instr.fdefWrite 5 2147483648).wellFormed = false ∧
    (Instr.fdefWrite 5 (-2147483649)).wellFormed = false := by decide

theorem test_illformed_word_operand :
    (Instr.startPattern 5 (.sweep 65536 0)).wellFormed = false := by decide

theorem test_illformed_pattern_code : (Instr.startPattern 5 (.other 1)).wellFormed = false := by decide

theorem test_illformed_rejected_entry :
    (Instr.counterWrite 5 1 (.rejected 32) 0).wellFormed = false := by decide

theorem test_wellformed_operands : (Instr.enableLoop 5 255).wellFormed = true ∧
    (Instr.fdefWrite 5 (-2147483648)).wellFormed = true ∧
    (Instr.startPattern 5 (.other 3)).wellFormed = true := by decide

/-! ## Small states -/

/-- The part after a command, or as it was where the command has no next state. -/
def after (c : Instr) (s : State) : State :=
  match exec c s with
  | .next t => t
  | _ => s

/-- The outcome in the answer buffer after a command. -/
def outcome (c : Instr) (s : State) : Option AnswerCode := (after c s).answer.map (·.outcome)

/-- Loop 0 on room 0 and head 41, channel 0. -/
def bound : Loop := { Loop.powerOn 0 with room := some 0, driverAddress := 41 }

/-- The part after reset with another record of loop 0. -/
def withLoop (l : Loop) : State := State.reset.setLoop 0 l

/-- A part in ACTIVE mode, its clock started at 0 and now at 1200. -/
def inActive (l : Loop) : State := { withLoop l with mode := .active, t0 := some 0, now := 1200 }

/-- Loop 0 RUNNING with its boundary at 1200. -/
def running : Loop := { bound with state := .running, nextBoundary := some 1200 }

/-- A part in TEST mode with an IDENTIFY of loop 0 at a stage whose interval ends at 60. -/
def inIdentify (stage : Stage) : State :=
  { withLoop { bound with state := .testing, head := .energised } with
    mode := .test, now := 60
    pattern := { State.reset.pattern with
      kind := .identify, stage := stage, subject := some 0, arg2 := 2, arg3 := 60
      intervalDue := some 60 } }

/-- A part in TEST mode with a SWEEP at a stage whose interval ends at 60. -/
def inSweep (stage : Stage) : State :=
  { inIdentify stage with pattern := { (inIdentify stage).pattern with
    kind := .sweep, arg1 := 300, arg2 := 64 } }

/-- A valid RETURN entry 0 for loop 0 on channel 0 of module 70. -/
def mapped : Probe := { valid := true, moduleAddress := 70, faultRunning := true }

/-- The part after reset with another probe entry 0. -/
def withProbe (p : Probe) : State := State.reset.setProbe 0 p

/-- A HEAD ECHO of ENERGISE from driver 41, channel 0, to address 112. -/
def echo : Telegram := compose 112 41 0x33 [0, 1, 0]

/-! ## Single steps: power-on and setup requests -/

theorem test_powerOn : (after (.powerOn 5) (inActive running)).address = 117 ∧
    (after (.powerOn 5) (inActive running)).mode = .passive := by decide

theorem test_readField :
    (after (.readField 5 1 0 1) State.reset).answer =
      some ⟨5, 0x01, .done, [0, 0, 4, 176], false⟩ := by decide

theorem test_readField_absent :
    (after (.readField 5 2 3 29) State.reset).answer =
      some ⟨5, 0x01, .done, [128, 0, 0, 0], false⟩ := by decide

theorem test_writeField :
    (after (.writeField 5 1 0 2 17) State.reset).general.hmax = 16 ∧
    (after (.writeField 5 1 0 2 17) State.reset).answer =
      some ⟨5, 0x02, .clamped, [0, 0, 0, 16], false⟩ := by decide

theorem test_loopStaticFieldWrite :
    ((after (.loopStaticFieldWrite 5 0 .weight 51) State.reset).loop 0).weight = 50 ∧
    outcome (.loopStaticFieldWrite 5 0 .weight 51) (inActive running) = some .static := by decide

theorem test_loopRoomWrite :
    ((after (.loopRoomWrite 5 3 11) State.reset).loop 3).room = some 11 ∧
    outcome (.loopRoomWrite 5 3 12) State.reset = some .range := by decide

theorem test_shareWrite :
    ((after (.shareWrite 5 0 .smin 3000) State.reset).loop 0).share = 3000 ∧
    outcome (.shareWrite 5 0 .smin 3000) State.reset = some .clamped := by decide

theorem test_levelWrite_sheds :
    ((after (.levelWrite 5 0 .level 0) (inActive running)).loop 0).state = .shed := by decide

theorem test_floorClassWrite :
    (after (.floorClassWrite 5 2 .gain 255) State.reset).floorClass 2 = ⟨384, 255, 128⟩ := by decide

theorem test_profileWrite :
    (after (.profileWrite 5 0 .opening 700) State.reset).profile 0 = ⟨.nc, 600, 240⟩ ∧
    outcome (.profileWrite 5 0 .polarity 2) State.reset = some .range := by decide

theorem test_roomFieldWrite :
    ((after (.roomFieldWrite 5 0 .fallbackDemand 1025) State.reset).room 0).demand = 1024 := by decide

theorem test_unitAddressWrite :
    ((after (.unitAddressWrite 5 0 20) State.reset).room 0).unitAddress = 20 ∧
    outcome (.unitAddressWrite 5 0 127) State.reset = some .range := by decide

theorem test_probeFieldWrite :
    ((after (.probeFieldWrite 5 0 .trim (-129)) State.reset).probe 0).trim = -128 ∧
    outcome (.probeFieldWrite 5 0 .depth 3) State.reset = some .range := by decide

theorem test_probeValidWrite :
    outcome (.probeValidWrite 5 0 1) State.reset = some .state ∧
    ((after (.probeValidWrite 5 0 1) (withProbe { mapped with valid := false })).probe 0).valid =
      true := by decide

theorem test_probeStaleTimeWrite :
    ((after (.probeStaleTimeWrite 5 60) { withProbe mapped with now := 60 }).probe 0).stale = true := by
  decide

theorem test_faultStaleTimeWrite :
    (after (.faultStaleTimeWrite 5 100) State.reset).general.faultStaleTime = 600 := by decide

theorem test_roomStaleTimeWrite :
    (after (.roomStaleTimeWrite 5 7201) State.reset).general.roomStaleTime = 7200 := by decide

theorem test_fdefWrite : (after (.fdefWrite 5 80) State.reset).supply.allowance = 80 := by decide

theorem test_supplyStaleTimeWrite :
    (after (.supplyStaleTimeWrite 5 3601) State.reset).general.supplyStaleTime = 3600 := by decide

theorem test_supplySourceAddressWrite :
    (after (.supplySourceAddressWrite 5 126) State.reset).general.supplySource = 126 ∧
    outcome (.supplySourceAddressWrite 5 127) State.reset = some .range := by decide

theorem test_manualShedLevelWrite :
    ((after (.manualShedLevelWrite 5 1) (inActive running)).loop 0).state = .shed := by decide

theorem test_cycleLengthWrite :
    (after (.cycleLengthWrite 5 599) State.reset).general.cycleLength = 600 ∧
    outcome (.cycleLengthWrite 5 1200) (inActive running) = some .static := by decide

theorem test_overflowPolicyWrite :
    (after (.overflowPolicyWrite 5 .m 1) State.reset).general.overflowPolicyM = .discardOldest := by
  decide

theorem test_directionDefaultWrite :
    (after (.directionDefaultWrite 5 .h 3) State.reset).general.directionDefaultH = .drop := by decide

theorem test_noticeAddressWrite :
    (after (.noticeAddressWrite 5 127) State.reset).general.noticeAddress = 127 := by decide

theorem test_counterWrite :
    outcome (.counterWrite 5 1 (.rejected 31) 9) State.reset = some .done ∧
    outcome (.counterWrite 5 0 (.rejected 31) 9) State.reset = some .unknown := by decide

theorem test_ruleFieldWrite :
    ((after (.ruleFieldWrite 5 23 .selector (-1)) State.reset).rule 23).selector = none ∧
    outcome (.ruleFieldWrite 5 0 .source 128) State.reset = some .range := by decide

theorem test_hitsWrite :
    (after (.hitsWrite 5 0 7) State.reset).answer =
      some ⟨5, 0x02, .done, [0, 0, 0, 0], false⟩ := by decide

theorem test_enableLoop :
    ((after (.enableLoop 5 0) (withLoop bound)).loop 0).state = .standby ∧
    outcome (.enableLoop 5 1) (withLoop bound) = some .state := by decide

theorem test_disableLoop :
    ((after (.disableLoop 5 0) (inActive running)).loop 0).state = .disabled ∧
    (after (.disableLoop 5 0) (inActive running)).orders = [⟨0, .release⟩] := by decide

theorem test_setMode_starts :
    ((after (.setMode 5 1) (withLoop { bound with state := .standby })).loop 0).nextBoundary =
      some 1200 ∧
    outcome (.setMode 5 1) State.reset = some .state := by decide

theorem test_startPattern :
    (after (.startPattern 5 (.identify 0 1 30)) (withLoop { bound with state := .standby })).orders =
      [⟨0, .energise⟩] := by decide

theorem test_stopPattern :
    (after (.stopPattern 5) (inIdentify .openHalf)).pattern.stage = .windingDown := by decide

theorem test_setLock : (after (.setLock 5 1) State.reset).lock = true := by decide

theorem test_takeNotice :
    (after (.takeNotice 5) (State.reset.raise .supplyStale none none)).answer =
      some ⟨5, 0x09, .done, [5, 255, 1, 0, 0, 0], false⟩ ∧
    outcome (.takeNotice 5) State.reset = some .empty := by decide

theorem test_readStatus :
    (after (.readStatus 5) State.reset).answer =
      some ⟨5, 0x0A, .done, [0, 0, 0, 0, 0], false⟩ := by decide

theorem test_restartRequest : outcome (.restartRequest 5) State.reset = some .done := by decide

/-! ## Single steps: telegrams and transmissions -/

theorem test_telegramReceived_request :
    (after (.telegramReceived .h (compose 112 5 0x51 [0x0A])) State.reset).answer =
      some ⟨5, 0x0A, .done, [0, 0, 0, 0, 0], false⟩ := by decide

theorem test_telegramReceived_report :
    ((after (.telegramReceived .h (compose 5 20 0x21 [5, 64, 5, 64, 0]))
      (State.reset.setRoom 0 { unitAddress := 20 })).room 0).demand = 512 := by decide

theorem test_transmissionBegin :
    (after (.transmissionBegin .m) { State.reset with
      portM := { State.reset.portM with queue := [echo] } }).portM.tx =
      some (.forward echo false) := by decide

theorem test_headOrderTransmissionBegin :
    (after .headOrderTransmissionBegin { inActive { running with head := .energisePending } with
      orders := [⟨0, .energise⟩] }).portM.tx =
      some (.headOrder 0 .energise (compose 41 112 0x32 [0, 1]) false) := by decide

theorem test_noticeTransmissionBegin :
    (after .noticeTransmissionBegin { State.reset.raise .supplyStale none none with
      general := { State.reset.general with noticeAddress := 60 } }).portH.tx =
      some (.notice (compose 60 112 0x61 [5, 255, 1, 0, 0, 0])) := by decide

theorem test_answerTransmissionComplete :
    (after .answerTransmissionComplete { State.reset with
      lock := true
      answer := some ⟨5, 0x0B, .done, [], true⟩
      portH := { State.reset.portH with tx := some (.answer echo) } }).lock = false := by decide

theorem test_forwardTransmissionComplete :
    (after (.forwardTransmissionComplete .h) { State.reset with
      portH := { State.reset.portH with
        tx := some (.forward echo false)
        counters := { State.reset.portH.counters with forwarded := 65535 } } }).portH =
      State.reset.portH := by decide

theorem test_noticeTransmissionComplete :
    (after .noticeTransmissionComplete { State.reset with
      portH := { State.reset.portH with tx := some (.notice echo) }
      notices := ⟨[⟨.supplyStale, none, 0, none, true⟩], false, none⟩ }).notices =
      ⟨[], false, some 2⟩ := by decide

theorem test_headOrderTransmissionComplete :
    ((after .headOrderTransmissionComplete { inActive { running with head := .energisePending } with
      portM := { State.reset.portM with
        tx := some (.headOrder 0 .energise echo false) } }).loop 0).echoDue = some 1202 := by decide

theorem test_echo_confirms :
    ((after (.telegramReceived .m echo) (inActive { running with
      head := .energiseSent, wanted := some .energise, echoDue := some 1202 })).loop 0).settle =
      .running 1380 := by decide

theorem test_echoTimeout :
    ((after (.echoTimeout 0) (inActive { running with
      head := .energiseSent, echoDue := some 1200, misses := 2 })).loop 0).state = .fault := by decide

/-! ## Single steps: boundaries and expiries -/

theorem test_loopBoundary_steps_the_share :
    ((after (.loopBoundary 0) (inActive { running with
      accSum := 1200, accCount := 3 })).loop 0).share = 2098 := by decide

theorem test_loopBoundary_not_due :
    ((after (.loopBoundary 0) (inActive { running with
      nextBoundary := some 1201 })).loop 0).nextBoundary = some 1201 := by decide

theorem test_onTimeExpiry :
    (after (.onTimeExpiry 0) (inActive { running with
      head := .energised, openPhase := true, onTime := 300, openCount := 300 })).orders =
      [⟨0, .release⟩] := by decide

theorem test_settleIntervalExpiry :
    ((after (.settleIntervalExpiry 0) (inActive { running with
      settle := .running 1200 })).loop 0).settle = .settled := by decide

theorem test_roomStaleExpiry :
    ((after (.roomStaleExpiry 0) { State.reset.setRoom 0 { unitAddress := 20 } with
      now := 1800 }).room 0).stale = true := by decide

theorem test_probeStaleExpiry :
    ((after (.probeStaleExpiry 0) { withProbe mapped with now := 300 }).probe 0).stale = true := by
  decide

/-- A STANDBY loop on one probe whose stale and fault stale times, of 600 seconds both, have just run. -/
def silent : State :=
  { (withProbe { mapped with published := some 2000 }).setLoop 0 { bound with state := .standby } with
    now := 600
    general := { State.reset.general with probeStaleTime := 600, faultStaleTime := 600 } }

theorem test_probeFaultExpiry :
    ((after (.probeFaultExpiry 0) (after (.probeStaleExpiry 0) silent)).loop 0).causes =
      ⟨false, false, true⟩ := by decide

/-- R45: no PROBE cause while the return is formed; the fault expiry comes after the stale expiry. -/
theorem test_probeFaultExpiry_before_stale :
    after (.probeFaultExpiry 0) silent = silent ∧ silent.loopReturn 0 = some 2000 ∧
    (after (.probeStaleExpiry 0) silent).probeFaultDue 0 = true := by decide

theorem test_reportTemperatureExpiry :
    (after .reportTemperatureExpiry { State.reset with
      now := 600
      supply := { State.reset.supply with reportTemp := some 2000, young := true } }).supply.young =
      false := by decide

theorem test_supplyStaleExpiry :
    (after .supplyStaleExpiry { State.reset with
      now := 600
      supply := { State.reset.supply with
        allowance := 50, source := .block, stale := false } }).supply.allowance = 120 := by decide

theorem test_spacingIntervalExpiry :
    (after .spacingIntervalExpiry { State.reset with notices := ⟨[], false, some 0⟩ }).notices =
      ⟨[], false, none⟩ := by decide

theorem test_identifyHalfExpiry :
    (after .identifyHalfExpiry (inIdentify .openHalf)).pattern.stage = .closing := by decide

theorem test_clearingExpiry :
    (after .clearingExpiry (inSweep .clearing)).pattern.subject = some 0 := by decide

theorem test_dwellExpiry :
    ((after .dwellExpiry (inSweep .dwell)).sweepResult 0).verdict = .noProbe := by decide

theorem test_closeWaitExpiry :
    (after .closeWaitExpiry (inSweep .closeWait)).pattern.lastEnding = .completed := by decide

/-! ## The queue -/

theorem test_step_runs_front :
    step { State.reset with pending := [.setLock 5 1, .readStatus 5] } =
      exec (.setLock 5 1) { State.reset with pending := [.readStatus 5] } := rfl

theorem test_no_word_spells_a_command :
    decodeTableWord 8 0 = none ∧ (State.reset.withFetchWord 8 0).pending = [] := by decide

/-! ## States and operands that meet the hypotheses of the obligations -/

/-- Nothing is due to begin where the readiness test says so. -/
theorem quiet {s : State} (h : s.beginDue = false) : s.NothingToBegin := s.beginDue_eq_false_iff.mp h

/-- A part whose answer buffer is occupied, its answer on the line. -/
def occupied : State := after (.transmissionBegin .h) (after (.readStatus 5) State.reset)

/-- A part under the inspection lock. -/
def locked : State := { State.reset with lock := true }

/-- A part with a forwarded telegram waiting on each port. -/
def forwarding : State := { State.reset with
  portH := { State.reset.portH with queue := [echo] }
  portM := { State.reset.portM with queue := [echo] } }

theorem test_meets_StepIdlesOneSecond :
    State.reset.NothingToBegin ∧
    ({ State.reset with notices := ⟨[], false, some 0⟩ } : State).NothingToBegin ∧
    ¬forwarding.NothingToBegin ∧ forwarding.pending = [] ∧
    State.reset.pending = [] ∧ State.reset.eventDue = false ∧
    ({ State.reset with notices := ⟨[], false, some 0⟩ } : State).eventDue = true := by
  refine ⟨quiet rfl, quiet rfl, ?_, by decide⟩
  rw [← State.beginDue_eq_false_iff]
  decide

theorem test_meets_CommandsComplete :
    (∀ b, Instr.setLock 5 1 ≠ .powerOn b) ∧
    exec (.setLock 5 1) State.reset = .next (after (.setLock 5 1) State.reset) := ⟨nofun, rfl⟩

theorem test_meets_RequestsRefused :
    occupied.NothingToBegin ∧ locked.NothingToBegin ∧ State.reset.NothingToBegin ∧
    (Instr.restartRequest 5).request = some (5, 0x0B) ∧ occupied.answer ≠ none ∧
    (Instr.enableLoop 5 0).request = some (5, 0x03) ∧
    (0x03 : Byte) ∉ [0x01, 0x08, 0x09, 0x0A, 0x0B] ∧
    locked.answer = none ∧ locked.lock = true ∧
    outcome (.enableLoop 5 0) State.reset = some .state ∧
    outcome (.writeField 5 1 0 2 0) State.reset = some .clamped :=
  ⟨quiet rfl, quiet rfl, quiet rfl, by decide⟩

/-- A SETUP REQUEST to the part with the data given. -/
def requestWith (data : List Byte) : Telegram := compose 112 5 0x51 data

theorem test_meets_TelegramsSpellRequests :
    State.reset.NothingToBegin ∧
    (∀ d ∈ ([[], [0x0C], [0x0A], [0x01, 1, 0]] : List (List Byte)),
      ¬(12 < d.length ∨ telegramSum (requestWith d) ≠ 0)) ∧
    (requestWith []).dst.toNat = State.reset.address ∧
    parseRequest [0x0A] = some .readStatus ∧ parseRequest [] = none ∧
    parseRequest [0x0C] = none ∧ parseRequest [0x01, 1, 0] = none ∧ State.reset.answer = none := by
  refine ⟨quiet rfl, ?_⟩
  decide

theorem test_meets_WriteRowsAreWriteFields :
    (Instr.hitsWrite 5 23 9).writeNumbers = some (5, 5, 23, 9, 9) := by decide

theorem test_meets_UnlistedFieldsRefused :
    State.reset.Takes ∧
    outcome (.readField 5 0 0 1) State.reset = some .unknown ∧
    outcome (.readField 5 10 0 1) State.reset = some .unknown ∧
    outcome (.readField 5 1 0 16) State.reset = some .unknown ∧
    outcome (.readField 5 1 0 44) State.reset = some .unknown ∧
    outcome (.readField 5 1 1 1) State.reset = some .range ∧
    outcome (.readField 5 9 0 20) State.reset = some .unknown ∧
    outcome (.readField 5 9 2 51) State.reset = some .range ∧
    outcome (.writeField 5 4 31 20 0) State.reset = some .unknown :=
  ⟨⟨rfl, rfl, quiet rfl⟩, by decide⟩

theorem test_meets_FieldsRead :
    State.reset.NothingToBegin ∧ State.reset.answer = none := ⟨quiet rfl, rfl⟩

theorem test_meets_WrittenValueReadsBack :
    State.reset.answer = none ∧ outcome (.writeField 5 1 0 2 16) State.reset = some .done ∧
    outcome (.writeField 5 1 0 2 17) State.reset = some .clamped := by decide

/-- Loop 0 with a head order queued. -/
def ordered : State := { withLoop bound with orders := [⟨0, .release⟩] }

/-- Loops 1 to n on room 11. -/
def crowd (n : Nat) : State :=
  { State.reset with loops := Vector.ofFn fun i =>
      { Loop.powerOn i with room := if 1 ≤ i.val ∧ i.val ≤ n then some 11 else none } }

theorem test_meets_LoopStaticFieldsWritten :
    State.reset.Takes ∧ ordered.Takes ∧ ordered.OrderUnderWay 0 ∧
    ¬(withLoop bound).OrderUnderWay 0 ∧ (ordered.loop 0).state = .disabled ∧
    (withLoop running).Takes ∧ ((withLoop running).loop 0).state ≠ .disabled ∧
    (1 : Int) = max 1 (min 0 50) ∧ (50 : Int) = max 1 (min 51 50) ∧
    3 ≤ (loopIds.filter fun j => j ≠ 0 ∧ ((crowd 3).loop j).room = some 11).length ∧
    (loopIds.filter fun j => j ≠ 0 ∧ ((crowd 2).loop j).room = some 11).length < 3 := by
  refine ⟨⟨rfl, rfl, quiet rfl⟩, ⟨rfl, rfl, quiet rfl⟩, .inl ⟨_, .head _, rfl⟩, ?_, by decide, ⟨rfl, rfl, quiet rfl⟩, by decide⟩
  rintro (⟨o, h, -⟩ | ⟨a, t, h⟩ | h | h)
  · exact absurd h List.not_mem_nil
  · exact absurd h nofun
  · exact absurd h (by decide)
  · exact absurd h (by decide)

theorem test_meets_DynamicFieldsWritten :
    State.reset.Takes ∧ (State.reset.loop 0).smin ≤ (State.reset.loop 0).smax ∧
    (State.reset.loop 0).state = .disabled ∧
    ((withLoop running).loop 0).state ≠ .disabled ∧ (inActive running).Takes ∧
    (64 : Int) = min (max 64 (min 63 4096)) (State.reset.loop 0).smax ∧
    (4096 : Int) = max (max 64 (min 4097 4096)) (State.reset.loop 0).smin ∧
    (256 : Int) = max ((State.reset.loop 0).smin : Int) (min 0 (State.reset.loop 0).smax) ∧
    ((inActive running).loop 0).state ∈ [.running, .shed, .fault] ∧
    (7 : Int) = max 0 (min 8 7) ∧ (3 : Int) = max 0 (min 4 3) :=
  ⟨⟨rfl, rfl, quiet rfl⟩, by decide, by decide, by decide, ⟨rfl, rfl, quiet rfl⟩, by decide⟩

theorem test_meets_FloorClassWritten :
    State.reset.Takes ∧ (192 : Int) = max 192 (min 191 640) ∧ (255 : Int) = max 0 (min 256 255) ∧
    (16 : Int) = max 16 (min 0 1024) ∧ (⟨320, 0, 256⟩ : FloorClass).gain = 0 ∧
    (1 : Nat) ≤ ({ accCount := 1 } : Loop).accCount ∧ ({} : Loop).smin ≤ ({} : Loop).share ∧
    ({} : Loop).share ≤ ({} : Loop).smax := ⟨⟨rfl, rfl, quiet rfl⟩, by decide⟩

theorem test_meets_ProfileWritten :
    State.reset.Takes ∧ State.reset.mode = .passive ∧ (inActive running).Takes ∧
    (inActive running).mode ≠ .passive ∧
    (600 : Int) = min (max 30 (min 601 600)) (State.reset.general.cycleLength / 2 : Nat) ∧
    (30 : Int) = max 30 (min 29 600) := ⟨⟨rfl, rfl, quiet rfl⟩, rfl, ⟨rfl, rfl, quiet rfl⟩, by decide⟩

/-- Room 0 with unit address 20. -/
def unitTwenty : State := State.reset.setRoom 0 { unitAddress := 20 }

theorem test_meets_RoomFieldsWritten :
    unitTwenty.Takes ∧ (2 : Int) = DemandSource.both.code ∧ (32 : Int) = max 32 (min 31 256) ∧
    (1792 : Int) = min (max 0 (min 3201 3200)) (unitTwenty.room 0).setpointMax ∧
    (320 : Int) = max (max 0 (min (-1 : Int) 3200)) (unitTwenty.room 0).setpointMin ∧
    (∃ q, q ≠ 1 ∧ (unitTwenty.room q).unitAddress = 20) ∧
    (∀ q, q ≠ 1 → (unitTwenty.room q).unitAddress ≠ 126) ∧
    (unitTwenty.room 0).unitAddress = 20 ∧ (unitTwenty.room 1).unitAddress ≠ 126 :=
  ⟨⟨rfl, rfl, quiet rfl⟩, by decide⟩

/-- A second entry on the head of the mapped one. -/
def mappedTwice : State := (withProbe mapped).setProbe 1 { mapped with valid := false }

theorem test_meets_ProbeEntryWritten :
    (withProbe mapped).Takes ∧ ((withProbe mapped).probe 0).valid = true ∧
    (State.reset.probe 0).valid = false ∧ (State.reset.probe 0).moduleAddress = 0 ∧
    (1 : Int) = Role.supplyWater.code ∧ (15 : Int) = (15 : Fin 16).val ∧
    (8 : Nat) ∈ [1, 2, 4, 8] ∧ (1 : Int) = true.toNat ∧ (0 : Int) = false.toNat ∧
    (∃ q, q ≠ 1 ∧ (mappedTwice.probe q).valid = true ∧
      (mappedTwice.probe q).moduleAddress = (mappedTwice.probe 1).moduleAddress ∧
      (mappedTwice.probe q).channel = (mappedTwice.probe 1).channel) ∧
    (∀ q, q ≠ 0 → ((withProbe { mapped with valid := false }).probe q).valid = false) :=
  ⟨⟨rfl, rfl, quiet rfl⟩, by decide⟩

theorem test_meets_GeneralFieldsWrittenInMode :
    State.reset.Takes ∧ State.reset.mode = .passive ∧ (inActive running).Takes ∧
    (inActive running).mode = .active ∧ (3600 : Int) = max (max 600 (min 3601 3600)) (max
        (max (2 * (State.reset.profile 0).opening) (2 * (State.reset.profile 1).opening))
        (max (2 * (State.reset.profile 2).opening) (2 * (State.reset.profile 3).opening)) : Nat) ∧
    (1 : Int) = max 1 (min 0 16) ∧ (7 : Int) = max 0 (min 8 7) ∧
    (1 : Int) = OverflowPolicy.discardOldest.code ∧ (3 : Int) = FilterAction.drop.code :=
  ⟨⟨rfl, rfl, quiet rfl⟩, rfl, ⟨rfl, rfl, quiet rfl⟩, by decide⟩

theorem test_meets_StaleTimesWritten :
    State.reset.Takes ∧ State.reset.mode = .passive ∧ State.reset.supply.stale = true ∧
    (60 : Int) = min (max 60 (min 59 1800)) State.reset.general.faultStaleTime ∧
    (7200 : Int) = max (max 600 (min 7201 7200)) State.reset.general.probeStaleTime ∧
    (300 : Int) = max 300 (min 0 7200) ∧ (2000 : Int) = max 0 (min 2001 2000) ∧
    (120 : Int) = max 120 (min 119 3600) ∧
    120 ≤ min 65535 (({ State.reset with
      now := 120, supply := { State.reset.supply with stale := false } } : State).now - 0) :=
  ⟨⟨rfl, rfl, quiet rfl⟩, by decide⟩

theorem test_meets_RuleFieldWritten :
    State.reset.Takes ∧ (1 : Int) = true.toNat ∧ (2 : Int) = Machine.Direction.both.code ∧
    (3 : Int) = FilterAction.drop.code ∧ (-1 : Int) = natOrNone none ∧
    (255 : Int) = natOrNone (some 255) ∧ (127 : Int) = natOrNone (some 127) ∧
    (255 : Int) = max 0 (min 256 255) := ⟨⟨rfl, rfl, quiet rfl⟩, by decide⟩

theorem test_meets_CounterWritten : State.reset.Takes := ⟨rfl, rfl, quiet rfl⟩

theorem test_meets_LoopEnabled :
    (withLoop bound).Takes ∧ ((withLoop bound).loop 0).state = .disabled ∧
    ¬(withLoop bound).OrderUnderWay 0 ∧ ((withLoop bound).loop 0).room ≠ none ∧
    ((withLoop bound).loop 0).driverAddress = 41 ∧
    (∀ j, j ≠ 0 → ((withLoop bound).loop j).driverAddress ≠ 41) ∧
    (inActive bound).Takes ∧ (inActive bound).mode = .active ∧ ordered.OrderUnderWay 0 ∧
    (State.reset.loop 0).room = none ∧ (inSweep .dwell).Takes ∧ (inSweep .dwell).mode = .test ∧
    (∃ j, j ≠ 1 ∧ (((withLoop running).setLoop 1 bound).loop j).driverAddress = 41 ∧
      (((withLoop running).setLoop 1 bound).loop j).headChannel = 0 ∧
      (((withLoop running).setLoop 1 bound).loop j).state ≠ .disabled) :=
  ⟨⟨rfl, rfl, quiet rfl⟩, by decide, test_meets_LoopStaticFieldsWritten.2.2.2.1, by decide, by decide, by decide,
    ⟨rfl, rfl, quiet rfl⟩, by decide, .inl ⟨_, .head _, rfl⟩, by decide, ⟨rfl, rfl, quiet rfl⟩, by decide⟩

/-- Loop 0 STANDBY. -/
def standing : State := withLoop { bound with state := .standby }

theorem test_meets_LoopDisabled :
    standing.Takes ∧ standing.mode = .passive ∧ (standing.loop 0).state ≠ .disabled ∧
    (inActive running).Takes ∧ (inActive running).mode = .active ∧
    ((inActive running).loop 0).state ∈ [.running, .shed, .fault] ∧
    ((inActive { bound with state := .standby }).loop 0).state ∉ [.running, .shed, .fault] ∧
    (inSweep .dwell).Takes ∧ (inSweep .dwell).mode = .test :=
  ⟨⟨rfl, rfl, quiet rfl⟩, by decide, by decide, ⟨rfl, rfl, quiet rfl⟩, by decide, by decide, by decide, ⟨rfl, rfl, quiet rfl⟩,
    by decide⟩

theorem test_meets_ModeSet :
    State.reset.Takes ∧ (∀ i, (State.reset.loop i).state = .disabled) ∧
    standing.Takes ∧ standing.mode = .passive ∧ (∃ i, (standing.loop i).state ≠ .disabled) ∧
    (inActive running).Takes ∧ (inActive running).mode = .active ∧
    ((inActive bound).headsQuiet = true ∧
      ∀ i, ((inActive bound).loop i).state = .disabled ∨ ((inActive bound).loop i).state = .standby) ∧
    ¬(∀ i, ((inActive running).loop i).state = .disabled ∨
      ((inActive running).loop i).state = .standby) :=
  ⟨⟨rfl, rfl, quiet rfl⟩, by decide, ⟨rfl, rfl, quiet rfl⟩, by decide, by decide, ⟨rfl, rfl, quiet rfl⟩, by decide⟩

theorem test_meets_StartPlacesLoops :
    standing.mode = .passive ∧ standing.ModesConsistent ∧ standing.IdleLoopsWithoutDuty ∧
    0 < standing.general.cycleLength ∧ (standing.loop 0).state = .standby ∧
    (standing.loop 1).state = .disabled := by
  unfold State.ModesConsistent State.IdleLoopsWithoutDuty
  decide

theorem test_meets_LockSetAndRestartAnswered :
    State.reset.NothingToBegin ∧
    State.reset.answer = none ∧ (2 : Nat) ≠ 0 ∧ (2 : Nat) ≠ 1 :=
  ⟨quiet rfl, by decide⟩

theorem test_meets_NoticeTaken :
    let s := State.reset.raise .supplyStale none none
    s.NothingToBegin ∧ State.reset.NothingToBegin ∧
    s.answer = none ∧ s.general.noticeAddress = 0 ∧
    s.notices.entries = [] ++ ⟨.supplyStale, none, 1, none, false⟩ :: [] ∧
    (∀ e ∈ State.reset.notices.entries, e.inTransmission = true) :=
  ⟨quiet rfl, quiet rfl, by decide⟩

theorem test_meets_PatternStarted :
    standing.Takes ∧ standing.mode = .passive ∧ (standing.loop 0).state ≠ .disabled ∧
    (∀ i : Fin 16, i.val = 16 → (standing.loop i).state = .disabled) ∧
    (∃ i, (standing.loop i).state ≠ .disabled) ∧
    (loopIds.filter fun i => (standing.loop i).state ≠ .disabled ∧
      (standing.profileOf i).polarity = .no).length < standing.general.hmax ∧
    (∀ i, (State.reset.loop i).state = .disabled) ∧ (inActive running).Takes ∧
    (inActive running).mode ≠ .passive :=
  ⟨⟨rfl, rfl, quiet rfl⟩, by decide, by decide, by decide, by decide, by decide, by decide, ⟨rfl, rfl, quiet rfl⟩,
    by decide⟩

/-- An IDENTIFY of loop 0 whose closing RELEASE has been sent and awaits its echo. -/
def closingSent : State := (inIdentify .closing).setLoop 0
  { (inIdentify .closing).loop 0 with head := .releaseSent, wanted := some .release, echoDue := some 60 }

/-- R138: the RELEASE of the ending waits for the echo or the timeout, and the wind-down with it. -/
theorem test_stop_before_echo :
    (after (.stopPattern 5) closingSent).mode = .test ∧
    (after (.stopPattern 5) closingSent).pattern.stage = .windingDown ∧
    (after (.telegramReceived .m (compose 112 41 0x33 [0, 0, 0]))
      (after (.stopPattern 5) closingSent)).mode = .passive ∧
    (after (.echoTimeout 0) (after (.stopPattern 5) closingSent)).mode = .passive := by decide

theorem test_meets_PatternStopped :
    (inIdentify .openHalf).Takes ∧ (inIdentify .openHalf).mode = .test ∧
    (inIdentify .openHalf).pattern.stage ≠ .idle ∧
    (inIdentify .openHalf).pattern.stage ≠ .windingDown ∧
    (inIdentify .windingDown).pattern.stage = .windingDown ∧ (inActive running).Takes ∧
    ((inIdentify .openHalf).loop 0).state = .testing ∧
    ((inIdentify .openHalf).endPattern .stopped).headsQuiet = false ∧
    ({ State.reset with mode := .test }.endPattern .stopped).headsQuiet = true ∧
    (inIdentify .closing).mode = .test ∧
    (closingSent.loop 0).state = .testing ∧ (closingSent.loop 0).head = .releaseSent ∧
    (∀ i, (State.reset.loop i).state ≠ .testing) :=
  ⟨⟨rfl, rfl, quiet rfl⟩, by decide, by decide, by decide, by decide, ⟨rfl, rfl, quiet rfl⟩, by decide⟩

/-- A part with an answer to send. -/
def answering : State := { State.reset with answer := some ⟨5, 3, .done, [], false⟩ }

/-- A part with a head order listed. -/
def ordering : State := { inActive { running with head := .energisePending } with
  orders := [⟨0, .energise⟩] }

/-- A part with a notice to push. -/
def noticing : State := { State.reset.raise .supplyStale none none with
  general := { State.reset.general with noticeAddress := 127 } }

theorem test_meets_TransmissionsBegin :
    (answering.portH.tx = none ∧ answering.answer = some ⟨5, 3, .done, [], false⟩) ∧
    (forwarding.portH.tx = none ∧ forwarding.answer = none ∧ forwarding.portH.queue = echo :: []) ∧
    (forwarding.portM.tx = none ∧ forwarding.mode = .passive ∧ forwarding.portM.queue = echo :: []) ∧
    (ordering.portM.tx = none ∧ ordering.mode ≠ .passive ∧
      ordering.orders = ⟨0, .energise⟩ :: []) ∧
    (noticing.portH.tx = none ∧ noticing.answer = none ∧ noticing.portH.queue = [] ∧
      noticing.general.noticeAddress ≠ 0 ∧ noticing.notices.spacingDue = none ∧
      noticing.notices.entries = ⟨.supplyStale, none, 1, none, false⟩ :: []) := by decide

/-- R116: a telegram placed at a free port M goes before a head order that joins after it. -/
theorem test_placed_telegram_begins_first :
    let s : State := { inActive { running with activeDuty := 4096 } with
      portM := { State.reset.portM with queue := [echo] } }
    (after (.loopBoundary 0) s).portM.tx = some (.forward echo false) ∧
    (after (.loopBoundary 0) s).orders = [⟨0, .energise⟩] := by decide

/-- R116: a completion on port H goes on to the pass queue before an answer that is placed after it. -/
theorem test_completion_begins_next_first :
    let s : State := { State.reset with
      portH := { State.reset.portH with tx := some (.forward echo false), queue := [echo] } }
    let t := after (.readStatus 5) (after (.forwardTransmissionComplete .h) s)
    t.portH.tx = some (.forward echo false) ∧ t.portH.queue = [] ∧
    t.answer.map (·.begun) = some false := by decide

theorem test_meets_BeginsComeFirst :
    (∀ p, Instr.readStatus 5 ≠ .transmissionBegin p) ∧ ¬forwarding.NothingToBegin ∧
    State.reset.NothingToBegin :=
  ⟨nofun, test_meets_StepIdlesOneSecond.2.2.1, quiet rfl⟩

/-- A part with a transmission under way on each port. -/
def sending (h m : Transmission) : State := { State.reset with
  answer := some ⟨5, 3, .done, [], true⟩
  notices := ⟨[⟨.supplyStale, none, 0, none, true⟩], false, none⟩
  portH := { State.reset.portH with tx := some h }
  portM := { State.reset.portM with tx := some m } }

/-- A part in which loops 0 and 1 wait for a slot, loop 1 at the higher group. -/
def waitingTwo : State := { State.reset.setLoop 1 { Loop.powerOn 1 with group := 3 } with
  waits := [⟨0, .release, false⟩, ⟨1, .release, false⟩] }

theorem test_meets_TransmissionsComplete :
    (sending (.forward echo false) (.forward echo true)).NothingToBegin ∧ (sending (.notice echo) (.headOrder 0 .release echo false)).NothingToBegin ∧ (sending (.answer echo) (.headOrder 0 .energise echo true)).NothingToBegin ∧
    ((sending (.forward echo false) (.forward echo true)).port .h).tx =
      some (.forward echo false) ∧
    ((sending (.forward echo false) (.forward echo true)).port .m).tx = some (.forward echo true) ∧
    (sending (.notice echo) (.headOrder 0 .release echo false)).portH.tx = some (.notice echo) ∧
    (sending (.notice echo) (.headOrder 0 .release echo false)).notices.entries =
      ⟨.supplyStale, none, 0, none, true⟩ :: [] ∧
    (sending (.answer echo) (.headOrder 0 .energise echo true)).answer =
      some ⟨5, 3, .done, [], true⟩ ∧
    (waitingTwo.waits.map (·.loop)).Nodup ∧
    (waitingTwo.loop 0).level = (waitingTwo.loop 1).level ∧
    (waitingTwo.loop 0).group < (waitingTwo.loop 1).group :=
  ⟨quiet rfl, quiet rfl, quiet rfl, by decide⟩

theorem test_meets_RestartKeepsAndClears :
    let s : State := { sending (.answer echo) (.headOrder 0 .energise echo false) with
      answer := some ⟨5, 0x0B, .done, [], true⟩ }
    s.NothingToBegin ∧ s.portH.tx = some (.answer echo) ∧
    s.answer = some ⟨5, 0x0B, .done, [], true⟩ := ⟨quiet rfl, by decide⟩

/-- A part whose port M has a run of seven damaged telegrams. -/
def noisy : State := { State.reset with portM := { State.reset.portM with
  counters := { State.reset.portM.counters with damaged := 255, consecutiveDamaged := 7 } } }

theorem test_meets_TelegramsJudged :
    State.reset.NothingToBegin ∧ noisy.NothingToBegin ∧
    (⟨5, 6, 0x21, List.replicate 13 0, 0⟩ : Telegram).Damaged ∧ ¬echo.Damaged ∧
    (noisy.port .m).counters.consecutiveDamaged = 7 ∧
    (State.reset.port .m).counters.consecutiveDamaged ≠ 7 ∧
    echo.dst.toNat = State.reset.address ∧ echo.kind = 0x33 ∧ 3 ≤ echo.data.length ∧
    ¬(compose 112 41 0x33 [0, 1]).Damaged ∧ (compose 112 41 0x33 [0, 1]).data.length < 3 ∧
    ¬(compose 112 41 0x21 []).Damaged := by
  refine ⟨quiet rfl, quiet rfl, ?_⟩
  unfold Telegram.Damaged
  decide

/-- A rule that drops every telegram, with a count. -/
def dropping (count : Nat) : State := { inActive running with
  rules := State.reset.rules.set 3 { valid := true, action := .drop, count := count } }

theorem test_meets_FilterDecides :
    State.reset.NothingToBegin ∧ (dropping 1).NothingToBegin ∧ (dropping 255).NothingToBegin ∧ (dropping 0).NothingToBegin ∧
    ¬(compose 5 6 0x70 []).Damaged ∧
    (compose 5 6 0x70 []).dst.toNat ≠ (dropping 1).address ∧ (dropping 1).mode ≠ .passive ∧
    ((dropping 1).rule 3).Applies .h (compose 5 6 0x70 []) ∧
    (∀ q, q < 3 → ¬((dropping 1).rule q).Applies .h (compose 5 6 0x70 [])) ∧
    ((dropping 255).rule 3).Applies .m (compose 5 6 0x70 []) ∧
    (∀ r, ¬((dropping 0).rule r).Applies .h (compose 5 6 0x70 [])) := by
  refine ⟨quiet rfl, quiet rfl, quiet rfl, quiet rfl, ?_⟩
  have off : ∀ (s : State) (r : Fin 24) (p : PortId) (t : Telegram), (s.rule r).valid = false →
      ¬(s.rule r).Applies p t := fun s r p t h a => absurd a.1 (by simp [h])
  refine ⟨by unfold Telegram.Damaged; decide, by decide, by decide, ?_, ?_, ?_, ?_⟩
  · exact ⟨rfl, by decide, .inl rfl, .inl rfl, .inl rfl, .inl rfl, .inl rfl⟩
  · intro q h
    exact off _ _ _ _ ((by decide : ∀ q, q < 3 → ((dropping 1).rule q).valid = false) q h)
  · exact ⟨rfl, by decide, .inl rfl, .inl rfl, .inl rfl, .inl rfl, .inl rfl⟩
  · intro r a
    exact absurd ⟨a.1, a.2.1⟩ ((by decide : ∀ r, ¬(((dropping 0).rule r).valid = true ∧
      ((dropping 0).rule r).count ≠ 0)) r)

theorem test_meets_ForwardPlaced :
    (State.reset.port .h).queue.length < 8 ∧
    (({ State.reset with portH := { State.reset.portH with
      queue := List.replicate 8 echo } } : State).port .h).queue.length = 8 := by decide

theorem test_meets_NoticeRaised :
    let q : Notices := ⟨[⟨.starved, some 0, 255, some 9, true⟩], false, none⟩
    q.entries = [] ++ ⟨.starved, some 0, 255, some 9, true⟩ :: [] ∧ q.Distinct ∧
    (∀ e ∈ q.entries, ¬(e.kind = .starved ∧ e.subject = some 1)) ∧ q.entries.length < 16 ∧
    16 ≤ ((List.range 16).map fun n => (⟨.starved, some n, 1, none, false⟩ : NoticeEntry)).length := by
  unfold Notices.Distinct
  decide

theorem test_meets_RoomTelegramsRead :
    unitTwenty.UnitsUnique ∧ (unitTwenty.room 0).unitAddress = (20 : Byte).toNat ∧
    (∀ r, (unitTwenty.room r).unitAddress ≠ 0 →
      (unitTwenty.room r).unitAddress ≠ (21 : Byte).toNat) ∧
    standing.HeadsUnshared ∧ (standing.loop 0).state ≠ .disabled ∧
    (standing.loop 0).driverAddress = (41 : Byte).toNat ∧ (standing.loop 0).room = some 0 ∧
    (∀ i, (standing.loop i).state ≠ .disabled →
      ¬((standing.loop i).driverAddress = (42 : Byte).toNat ∧ (standing.loop i).headChannel = 0)) := by
  unfold State.UnitsUnique State.HeadsUnshared
  decide

theorem test_meets_DemandFormed :
    let k : Room := { unitAddress := 20, measured := some 319, setpoint := some 1344 }
    k.setpointMin ≤ k.setpointMax ∧ 0 < k.band ∧ k.stale = false ∧ k.measured = some 319 ∧
    k.recomputed.effective = some 1344 ∧ k.recomputed.demand = 1024 ∧
    ({ k with mode := .off } : Room).recomputed.demand = 1024 ∧
    ({ k with stale := true } : Room).recomputed.demand = k.fallbackDemand := by decide

theorem test_meets_SupplyReportRead :
    (State.reset.general.supplySource = 0) ∧
    (let s : State := { State.reset with general := { State.reset.general with supplySource := 126 } }
     s.general.supplySource ≠ 0 ∧ s.general.supplySource ≠ (5 : Byte).toNat) := by decide

theorem test_meets_SamplesTaken :
    (5760 : Int) + (State.reset.probe 0).trim = (5760 : Nat) ∧
    ¬((0 : Int) ≤ 5761 + (State.reset.probe 0).trim ∧ (5761 : Int) + (State.reset.probe 0).trim ≤ 5760) ∧
    (State.reset.probe 0).role = .returnWater ∧ (withProbe mapped).MapSound ∧
    ((withProbe mapped).probe 0).valid = true ∧
    ((withProbe mapped).probe 0).moduleAddress = (70 : Byte).toNat ∧
    ((withProbe mapped).probe 0).channel = 0 ∧
    (∀ e, ((withProbe mapped).probe e).valid = true →
      ((withProbe mapped).probe e).moduleAddress ≠ (71 : Byte).toNat) := by
  unfold State.MapSound
  decide

/-- Entries on channels 0 and 3 of module 70, none on 1 and 2. -/
def mappedEnds : State := (withProbe mapped).setProbe 5 { mapped with channel := 3, loop := 1 }

/-- A PROBE REPORT of eleven bytes reaches channels 0 and 3, and its bytes from 8 on are ignored. -/
theorem test_probe_report_of_four_positions :
    let t := after (.telegramReceived .m (compose 5 70 0x31 [4, 0, 5, 0, 6, 0, 7, 0, 8, 0, 9]))
      mappedEnds
    (t.probe 0).published = some 1024 ∧ (t.probe 5).published = some 1792 ∧
    (∀ p < 5, mappedEnds.entryOn 70 p = if p = 0 then some 0 else if p = 3 then some 5 else none) :=
  by decide

theorem test_meets_SamplesTaken_positions :
    mappedEnds.MapSound ∧ ∃ on : Nat → Option (Fin 32),
      (∀ p e, on p = some e ↔ (mappedEnds.probe e).valid = true ∧
        (mappedEnds.probe e).moduleAddress = (70 : Byte).toNat ∧ (mappedEnds.probe e).channel = p) ∧
      on 0 = some 0 ∧ on 1 = none ∧ on 3 = some 5 := by
  refine ⟨by unfold State.MapSound; decide,
    fun p => if p = 0 then some 0 else if p = 3 then some 5 else none, fun p e => ?_, by decide⟩
  by_cases h0 : p = 0
  · subst h0; revert e; decide
  · by_cases h3 : p = 3
    · subst h3; revert e; decide
    · have ends : ∀ e, (mappedEnds.probe e).valid = true →
          (mappedEnds.probe e).channel = 0 ∨ (mappedEnds.probe e).channel = 3 := by decide
      simp only [h0, h3, if_false]
      exact ⟨nofun, fun h => absurd h.2.2 fun hp => by rcases ends e h.1 with g | g <;> omega⟩

/-- Two fresh RETURN entries for loop 0 and one SUPPLY entry, loop 0 RUNNING and open-settled. -/
def sampling : State :=
  (((inActive { running with head := .energised, settle := .settled, inCycle := true }).setProbe 0
    { mapped with published := some 2000 }).setProbe 1
    { mapped with channel := 1, published := some 2001 }).setProbe 2
    { mapped with channel := 2, role := .supplyWater, published := some 2400 }

theorem test_meets_TemperaturesFormed :
    sampling.loopReturn 0 = some 2001 ∧ sampling.supplyInUse = some 2400 ∧
    (sampling.loop 0).state = .running ∧ (sampling.loop 0).inCycle = true ∧
    (sampling.loop 0).settle = .settled ∧ (sampling.loop 0).head = sampling.openState 0 ∧
    (sampling.loop 0).accCount < 255 ∧ ((sampling.offerReturn 0).loop 0).accSum = 399 ∧
    State.reset.loopReturn 0 = none ∧ State.reset.supply.young = false ∧
    (let s := after (.probeStaleExpiry 0) silent
     s.general.probeStaleTime ≤ s.general.faultStaleTime ∧ s.probeCondition 0 = true ∧
       (s.probe 0).returnOf 0 = true ∧ (s.probe 0).stale = true ∧
       (∀ e, (s.probe e).returnOf 0 = true → e = 0) ∧ s.loopReturn 0 = none) := by decide

/-- Loop 0 with an ENERGISE awaiting its echo. -/
def awaiting : State := inActive { running with
  head := .energiseSent, wanted := some .energise, echoDue := some 1200 }

theorem test_meets_EchoesTaken :
    awaiting.NothingToBegin ∧ State.reset.NothingToBegin ∧
    ¬echo.Damaged ∧ echo.dst.toNat = awaiting.address ∧ echo.kind = 0x33 ∧
    echo.data = 0 :: 1 :: 0 :: [] ∧ (1 : Byte).toNat = Machine.Action.energise.code ∧
    awaiting.TakesEcho echo.src 0 .energise 0 ∧ (∀ j : Fin 16, ¬j < 0) ∧
    (awaiting.loop 0).echoDue = some 1200 ∧ 1200 ≤ awaiting.now ∧
    (∀ i a, ¬State.reset.TakesEcho echo.src 0 a i) := by
  refine ⟨quiet rfl, quiet rfl, ?_⟩
  refine ⟨by unfold Telegram.Damaged; decide, by decide, rfl, rfl, rfl,
    ⟨by decide, by decide, .inl (by decide)⟩, by decide, by decide, by decide, ?_⟩
  intro i a h
  exact absurd h.1 ((by decide : ∀ i, (State.reset.loop i).driverAddress ≠ echo.src.toNat) i)

theorem test_meets_OrdersPlaced :
    (inActive running).mode ≠ .passive ∧
    ((inActive running).loop 0).head ∈ [.released, .idleUnknown, .silentRelease] ∧
    (inActive running).holders < (inActive running).general.hmax ∧
    (let full : State := { inActive running with
        general := { State.reset.general with hmax := 1 }
        loops := (inActive running).loops.set 1 { Loop.powerOn 1 with head := .energised } }
     full.general.hmax ≤ full.holders) ∧
    (ordering.loop 0).head = .energisePending ∧ (∃ o ∈ ordering.orders, o.loop = 0) ∧
    ((inActive { running with head := .energiseWait, lastAction := some .release }).loop 0).lastAction =
      some .release := by decide

theorem test_meets_BoundariesWorked :
    (inActive running).NothingToBegin ∧
    0 < (inActive running).general.cycleLength ∧ (inActive running).mode = .active ∧
    ((inActive running).loop 0).state ∈ [.running, .shed, .fault] ∧
    ((inActive running).loop 0).nextBoundary = some 1200 ∧ 1200 ≤ (inActive running).now ∧
    (inActive running).boundaryFrom 0 0 1200 = 1200 ∧
    (inActive running).boundaryFrom 0 0 1201 = 2400 ∧
    (0 < ({ running with onTime := 3, openCount := 1, starvedRun := 2 } : Loop).onTime) :=
  ⟨quiet rfl, by decide⟩

theorem test_meets_CompletionsChecked :
    (let s : State := { standing with mode := .halting }
     s.mode = .halting ∧ s.headsQuiet = true ∧
        ∀ i, (s.loop i).state = .disabled ∨ (s.loop i).state = .standby) ∧
    (let s : State := { standing with
        mode := .test, pattern := { State.reset.pattern with stage := .windingDown } }
     s.pattern.stage = .windingDown ∧ s.windDownQuiet = true) ∧
    (let s := after (.stopPattern 5) closingSent
     s.headsQuiet = true ∧ s.windDownQuiet = false ∧ s.windDownHeld 0 = true) := by decide

theorem test_meets_BalancingArithmetic :
    (1 : Nat) ≤ ({ accCount := 1 } : Loop).accCount ∧ ({} : Loop).smin ≤ ({} : Loop).smax ∧
    ((-101 : Int) + (3 / 2 : Nat)) / (3 : Nat) = -34 ∧
    0 < State.reset.general.cycleLength ∧ 0 < (State.reset.profileOf 0).opening ∧
    2 * (State.reset.profileOf 0).opening ≤ State.reset.general.cycleLength ∧
    State.reset.requestFloor 0 = 615 ∧ flooredRequest 307 615 = 615 ∧ flooredRequest 306 615 = 0 ∧
    ((withLoop bound).loop 0).room = some 0 := by decide

theorem test_meets_ShedAndFaultMovesMade :
    ((inActive running).loop 0).state = .running ∧ ((inActive running).loop 0).level ≤ 1 ∧
    ((inActive { running with state := .shed }).loop 0).state = .shed ∧
    ¬(((inActive { running with state := .shed }).loop 0).level = 0 ∨
      ((inActive { running with state := .shed }).loop 0).level ≤ 0) ∧
    ((inActive running).loop 0).causes.damage = false ∧ (inActive running).inShedRange 0 = false ∧
    (standing.loop 0).state ∈ [.standby, .testing, .fault] := by decide

/-- Loop 0 RUNNING with a request that an allowance of 5 does not cover. -/
def scarce : State := { inActive { running with request := 4096 } with
  supply := { State.reset.supply with allowance := 5 } }

theorem test_meets_GrantsFormed :
    scarce.mode = .active ∧ (scarce.loop 0).state = .running ∧ (scarce.loop 0).level = 1 ∧
    scarce.recompute.alloc.scaledLevel = some 1 ∧ (scarce.recompute.loop 0).grant = 2048 ∧
    ¬(State.reset.mode = .active ∨ State.reset.mode = .halting) := by decide

theorem test_meets_IntervalExpiriesTaken :
    (let s := inActive { running with openPhase := true, onTime := 300, openCount := 300 }
     s.NothingToBegin ∧ (s.loop 0).openPhase = true ∧
      (s.loop 0).onTime < s.general.cycleLength ∧ (s.loop 0).onTime ≤ (s.loop 0).openCount) ∧
    (let s : State := { State.reset with
        now := 600, supply := { State.reset.supply with stale := false } }
     s.NothingToBegin ∧ s.supply.stale = false ∧
        s.general.supplyStaleTime ≤ min 65535 (s.now - s.supply.ageStart)) ∧
    (silent.NothingToBegin ∧ (silent.probe 0).valid = true ∧ (silent.probe 0).stale = false ∧
      silent.general.probeStaleTime ≤ min 65535 (silent.now - (silent.probe 0).ageStart)) ∧
    (let s := silent.setProbe 0 { silent.probe 0 with stale := true }
     s.NothingToBegin ∧ (s.probe 0).valid = true ∧ (s.probe 0).faultRunning = true ∧
      (s.probe 0).stale = true ∧
      s.general.faultStaleTime ≤ min 65535 (s.now - (s.probe 0).ageStart)) :=
  ⟨⟨quiet rfl, by decide⟩, ⟨quiet rfl, by decide⟩, ⟨quiet rfl, by decide⟩, quiet rfl, by decide⟩

theorem test_meets_PatternStagesWorked :
    (inIdentify .closedHalf).NothingToBegin ∧ (inSweep .dwell).NothingToBegin ∧ (inSweep .clearing).NothingToBegin ∧ (inSweep .closeWait).NothingToBegin ∧
    (inIdentify .closedHalf).pattern.intervalDue = some 60 ∧ 60 ≤ (inIdentify .closedHalf).now ∧
    (inIdentify .closedHalf).pattern.subject = some 0 ∧
    (inIdentify .closedHalf).pattern.kind = .identify ∧ (inSweep .dwell).pattern.kind = .sweep ∧
    ((inSweep .clearing).loop 0).state = .testing ∧
    (∀ j, ((inSweep .closeWait).loop j).state = .testing → j ≤ 0) ∧
    (inIdentify .opening).settledOn 0 ((inIdentify .opening).openingAction 0) = true :=
  ⟨quiet rfl, quiet rfl, quiet rfl, quiet rfl, by decide⟩

/-- A SWEEP at the end of the dwell of loop 0, which has warmed by less than loop 1. -/
def crossing : State :=
  (((inSweep .dwell).setLoop 1 { Loop.powerOn 1 with state := .testing }).setProbe 0
    { mapped with published := some 1500 }).setProbe 1
    { mapped with channel := 1, loop := 1, published := some 1600 }

theorem test_meets_VerdictFormed :
    let s : State := { crossing with pattern := { crossing.pattern with
      snapshot := Vector.replicate 16 (some 1400) } }
    (s.loop 0).state = .testing ∧ s.loopReturn 0 = some 1500 ∧ s.loopReturn 1 = some 1600 ∧
    s.pattern.arg2 = 64 ∧ ((s.writeVerdict 0).sweepResult 0) = ⟨.crossed, some 100, some 1⟩ ∧
    ((s.writeVerdict 1).sweepResult 1) = ⟨.confirmed, some 200, none⟩ := by decide

/-- A part with a loop in the drive, two fresh probes, a head order listed, a telegram queued, and a
command waiting. -/
def driven : State := { sampling with
  orders := [⟨0, .energise⟩]
  loops := sampling.loops.set 0 { running with head := .energisePending, request := 4096 }
  portM := { State.reset.portM with queue := [echo] }
  pending := [.readStatus 5] }

theorem test_meets_driven_steps :
    step driven = .next (after (.readStatus 5) { driven with pending := [] }) := rfl

theorem test_meets_ConfigurationStaysInRange : driven.ConfigInRange := by
  have blank : ∀ r, driven.rule r = {} := by decide
  refine ⟨?_, ?_, ?_, ?_, ?_, ?_, fun r => ?_, ?_⟩
  · unfold General.InRange; decide
  · unfold Loop.InRange; decide
  · unfold FloorClass.InRange; decide
  · unfold Profile.InRange; decide
  · unfold Room.InRange; decide
  · unfold Probe.InRange; decide
  · rw [blank r]
    exact ⟨nofun, nofun, nofun, nofun, by decide, by decide⟩
  · decide

theorem test_meets_TemperaturesStayInRange :
    driven.TemperaturesInRange ∧ driven.loopReturn 0 = some 2001 ∧ driven.supplyInUse = some 2400 := by
  have values : ∀ e, (driven.probe e).published.getD 0 ≤ 5760 := by decide
  refine ⟨⟨fun e => ⟨?_, ?_, fun v h => ?_⟩, nofun⟩, by decide⟩
  · exact (by decide : ∀ e, (driven.probe e).accCount < (driven.probe e).depth) e
  · exact (by decide : ∀ e, (driven.probe e).accSum ≤ 5760 * (driven.probe e).accCount) e
  · have := values e
    rw [h] at this
    exact this

theorem test_meets_QueuesStayBounded : driven.QueuesBounded := by
  unfold State.QueuesBounded Notices.Distinct
  decide

theorem test_meets_TablesStayRelated : driven.TablesRelated := by
  refine ⟨?_, ?_, ?_, ?_⟩
  · unfold State.HeadsUnshared; decide
  · unfold State.RoomsNotCrowded; decide
  · unfold State.UnitsUnique; decide
  · unfold State.MapSound; decide

theorem test_meets_GrantsStayWithinBudget : driven.GrantsBounded ∧ driven.FlowWithinBudget := by
  unfold State.GrantsBounded State.FlowWithinBudget
  decide

theorem test_meets_ShedLoopsKeepNoDuty :
    driven.IdleLoopsWithoutDuty ∧ driven.ShedLoopsWithoutDuty := by
  unfold State.IdleLoopsWithoutDuty State.ShedLoopsWithoutDuty
  decide

theorem test_meets_HeadArbiterStaysSound : driven.ArbiterSound := by
  refine ⟨by decide, by decide, ?_, ⟨by decide, by decide, nofun, by decide⟩, ?_, ?_, ?_, ?_⟩
  · unfold State.ModesConsistent; decide
  · unfold State.WaitsAgree; decide
  · exact nofun
  · refine ⟨fun _ i => ?_, nofun⟩
    revert i
    unfold Loop.WindsDown
    decide
  · exact nofun

theorem test_meets_NoHeadOrderInPassive :
    let s : State := { sending (.notice echo) (.headOrder 0 .energise echo true) with
      pending := [.readStatus 5] }
    s.mode = .passive ∧ step s = exec (.readStatus 5) { s with pending := [] } ∧
    (after (.readStatus 5) { s with pending := [] }).portM.tx =
      some (.headOrder 0 .energise echo true) := ⟨rfl, rfl, by decide⟩

end Sys2Proof.Tests
end

section
/-! PROOFS. The floor classes (R7): a taken write as `Stores` says it, the balancing step with a gain of 0,
and the settling of O14. -/

namespace Sys2Proof.Machine

open Sys2Proof

/-! ## A taken write (R145) -/

/-- A write command that the part takes, whose reply holds w and is marked as clamped exactly where w is
not v, is what `Stores` says. -/
theorem stores_of_held {c : Instr} {src : Byte} {s t : State} {v w : Int} {b : Bool}
    {body : State → Reply} (hs : s.Takes)
    (hexec : exec c s = .next (s.beginAll.takeWrite src body))
    (hbody : body s = Reply.held t b w) (hb : b = decide (w ≠ v)) : Stores c src s t v w := by
  have ⟨_, _, hnothing⟩ := hs
  unfold Stores
  rw [hexec, State.beginAll_of_nothing hnothing, State.takeWrite,
    State.takeRequest_taken src codeWriteField true body hs, hbody]
  exact congrArg Host.Outcome.next (Reply.held_stores src hb)

/-! ## The write of a floor class field (R7) -/

/-- The floor class with one field at a value. -/
def FloorClass.withField (k : FloorClass) (field : ClassField) (w : Nat) : FloorClass :=
  match field with
  | .target => { k with target := w }
  | .gain => { k with gain := w }
  | .limit => { k with limit := w }

/-- The range of a floor class field. -/
def classRange : ClassField → Nat × Nat
  | .target => (192, 640)
  | .gain => (0, 255)
  | .limit => (16, 1024)

theorem classRange_le (field : ClassField) : (classRange field).1 ≤ (classRange field).2 := by
  cases field <;> decide

/-- The write clamps the value into the field's range and stores it in the class. -/
theorem State.writeClass_eq (field : ClassField) (v : Int) (c : Fin 4) (s : State) :
    s.writeClass field v c =
      let w := clampNat (classRange field).1 (classRange field).2 v
      Reply.held (s.setFloorClass c ((s.floorClass c).withField field w)) (decide ((w : Int) ≠ v)) w := by
  cases field <;> rfl

theorem exec_floorClassWrite (src : Byte) (c : Nat) (field : ClassField) (v : Int) (s : State) :
    exec (.floorClassWrite src c field v) s =
      .next (s.beginAll.takeWrite src (State.writeAt (.floorClass field) c v)) := rfl

/-- The write names no mode: where the part takes it, it stores the clamped value. -/
theorem floorClassWrite_stores {s : State} (hs : s.Takes) (src : Byte) (c : Fin 4)
    (field : ClassField) {v : Int} {w : Nat}
    (hw : (w : Int) = max ((classRange field).1 : Int) (min v (classRange field).2)) :
    Stores (.floorClassWrite src c field v) src s
      (s.setFloorClass c ((s.floorClass c).withField field w)) v w := by
  have hclamp := clampNat_eq (classRange_le field) hw
  refine stores_of_held hs (exec_floorClassWrite src c field v s) ?_ rfl
  calc State.writeAt (.floorClass field) c v s
      = s.writeClass field v c := withIndex_val c s _
    _ = _ := by rw [State.writeClass_eq, hclamp]

/-! ## The balancing step (R63 to R65) -/

/-- The measured cooling as an integer quotient rounded down. -/
theorem measuredCooling_eq (sum : Int) (count : Nat) :
    measuredCooling sum count = (sum + (count / 2 : Nat)) / (count : Int) :=
  Int.fdiv_eq_ediv_of_nonneg _ (Int.natCast_nonneg count)

/-- With samples in the accumulator the step is taken (R61). -/
theorem Loop.balance_of_samples {l : Loop} (k : FloorClass) (h : 1 ≤ l.accCount) :
    l.balance k = { l with
      cooling := some (measuredCooling l.accSum l.accCount)
      share := newShare l k (measuredCooling l.accSum l.accCount) } :=
  if_neg (Nat.one_le_iff_ne_zero.mp h)

/-- A gain of 0 makes every share change 0, whatever the step limit. -/
theorem shareChange_of_gain_zero {k : FloorClass} (h : k.gain = 0) (cooling : Int) :
    shareChange k cooling = 0 := by
  have hraw : truncDiv ((cooling - k.target) * k.gain) 64 = 0 := by simp [h, truncDiv]
  rw [shareChange, hraw, clampInt_eq _ _ _ (by omega)]
  omega

/-- With a gain of 0 a share that lies within its limits is its own new share. -/
theorem newShare_of_gain_zero {l : Loop} {k : FloorClass} (h : k.gain = 0) (hlo : l.smin ≤ l.share)
    (hhi : l.share ≤ l.smax) (cooling : Int) : newShare l k cooling = l.share := by
  rw [newShare, shareChange_of_gain_zero h]
  exact clampNat_eq (hlo.trans hhi) (by omega)

/-- The step of loop i takes the class that the loop names, as it stands. -/
theorem State.loop_balance_self (s : State) (i : Fin 16) :
    (s.balance i).loop i = ((s.loop i).balance (s.floorClass (s.loop i).floorClass)).emptyAcc := by
  simp [State.balance]

/-! ## The statement -/

/-- A restart keeps the floor classes. -/
theorem State.classes_restart (s : State) : s.restart.classes = s.classes := rfl

/-- Settles O14: R7's table record by record, the writes through `floorClassWrite_stores`, the use of a
class through the laws of the balancing step. -/
theorem floorClassWritten : Obligations.FloorClassWritten := by
  refine ⟨fun c => by fin_cases c <;> rfl, fun src c v s hs => ⟨?_, ?_, ?_⟩, State.classes_restart,
    State.loop_balance_self, fun l k hgain hcount hlo hhi => ?_⟩
  · exact fun w hw => floorClassWrite_stores hs src c .target hw
  · exact fun w hw => floorClassWrite_stores hs src c .gain hw
  · exact fun w hw => floorClassWrite_stores hs src c .limit hw
  · rw [Loop.balance_of_samples k hcount]
    exact ⟨newShare_of_gain_zero hgain hlo hhi _, congrArg some (measuredCooling_eq _ _)⟩

end Sys2Proof.Machine
end

section
/-! PROOFS. The effective setpoint and the demand of a room (R28 to R30): one equation per mode, per case
of the REPORT demand and per demand source, and the settling of O38. -/

namespace Sys2Proof.Machine

open Sys2Proof

section demand
variable {k : Room}

/-! ## The effective setpoint (R28) -/

theorem Room.effectiveSetpoint_comfort (hmode : k.mode = .comfort)
    (hlimits : k.setpointMin ≤ k.setpointMax) :
    k.effectiveSetpoint =
      k.setpoint.map fun v => max (k.setpointMin : Int) (min v k.setpointMax) := by
  simp only [Room.effectiveSetpoint, hmode, clampInt_eq _ _ _ (Int.ofNat_le.mpr hlimits)]

/-- The offset is taken off before the clamp. -/
theorem Room.effectiveSetpoint_setback (hmode : k.mode = .setback)
    (hlimits : k.setpointMin ≤ k.setpointMax) :
    k.effectiveSetpoint =
      k.setpoint.map fun v => max (k.setpointMin : Int) (min (v - k.setback) k.setpointMax) := by
  simp only [Room.effectiveSetpoint, hmode, clampInt_eq _ _ _ (Int.ofNat_le.mpr hlimits)]

theorem Room.effectiveSetpoint_away (hmode : k.mode = .away) :
    k.effectiveSetpoint = some (k.setpointMin : Int) := by
  simp only [Room.effectiveSetpoint, hmode]

theorem Room.effectiveSetpoint_off (hmode : k.mode = .off) :
    k.effectiveSetpoint = some (k.setpointMin : Int) := by
  simp only [Room.effectiveSetpoint, hmode]

/-! ## The REPORT demand (R29) -/

/-- The formula as an integer: 512 plus the error over the band rounded down, within 0 and 1024. -/
theorem demandFormula_cast (effective measured : Int) (band : Nat) :
    (demandFormula effective measured band : Int) =
      max 0 (min (512 + (effective - measured) * 1024 / band) 1024) := by
  rw [demandFormula, clampNat_cast _ _ _ (by decide), floorDiv,
    Int.fdiv_eq_ediv_of_nonneg _ (Int.natCast_nonneg band)]
  rfl

theorem Room.reportDemand_of_stale (hstale : k.stale = true) :
    k.reportDemand = k.fallbackDemand := if_pos hstale

theorem Room.reportDemand_of_unmeasured (hmeasured : k.measured = none) :
    k.reportDemand = k.fallbackDemand := by
  cases he : k.effectiveSetpoint <;> simp [Room.reportDemand, hmeasured, he]

theorem Room.reportDemand_of_no_setpoint (heffective : k.effectiveSetpoint = none) :
    k.reportDemand = k.fallbackDemand := by
  cases hm : k.measured <;> simp [Room.reportDemand, heffective, hm]

/-- A fresh room with both temperatures: the frost decision in OFF mode, else the formula. -/
theorem Room.reportDemand_of_formed {m e : Int} (hfresh : k.stale = false)
    (hmeasured : k.measured = some m) (heffective : k.effectiveSetpoint = some e) :
    k.reportDemand =
      if k.mode = .off then if m < k.setpointMin then 1024 else 0
      else demandFormula e m k.band := by
  simp [Room.reportDemand, hfresh, hmeasured, heffective]

/-- The cases of R29 leave no room out: a number that meets each of them is the REPORT demand. -/
theorem Room.eq_reportDemand {D : Nat}
    (hstale : k.stale = true → D = k.fallbackDemand)
    (hunformed : k.stale = false → (k.measured = none ∨ k.effectiveSetpoint = none) →
      D = k.fallbackDemand)
    (hformed : ∀ m e : Int, k.stale = false → k.measured = some m → k.effectiveSetpoint = some e →
      (k.mode = .off → D = if m < k.setpointMin then 1024 else 0) ∧
      (k.mode ≠ .off → (D : Int) = max 0 (min (512 + (e - m) * 1024 / k.band) 1024))) :
    D = k.reportDemand := by
  cases hs : k.stale with
  | true => rw [hstale hs, Room.reportDemand_of_stale hs]
  | false =>
    cases hm : k.measured with
    | none => rw [hunformed hs (.inl hm), Room.reportDemand_of_unmeasured hm]
    | some m =>
      cases he : k.effectiveSetpoint with
      | none => rw [hunformed hs (.inr he), Room.reportDemand_of_no_setpoint he]
      | some e =>
        obtain ⟨hfrost, hformula⟩ := hformed m e hs hm he
        rw [Room.reportDemand_of_formed hs hm he]
        split
        next hoff => exact hfrost hoff
        next hon => exact Int.ofNat_inj.mp ((hformula hon).trans (demandFormula_cast e m _).symm)

/-! ## The demand by its source (R30) -/

theorem Room.demandNow_report (h : k.demandSource = .report) : k.demandNow = k.reportDemand := by
  simp only [Room.demandNow, h]

theorem Room.demandNow_call (h : k.demandSource = .call) :
    k.demandNow = if k.call = true then 1024 else 0 := by
  simp only [Room.demandNow, h, Room.callDemand]

theorem Room.demandNow_both (h : k.demandSource = .both) :
    k.demandNow = max k.reportDemand (if k.call = true then 1024 else 0) := by
  simp only [Room.demandNow, h, Room.callDemand]

/-! ## The recompute (R34) -/

@[simp] theorem Room.effective_recomputed (k : Room) :
    k.recomputed.effective = k.effectiveSetpoint := rfl
@[simp] theorem Room.demand_recomputed (k : Room) : k.recomputed.demand = k.demandNow := rfl

end demand

/-! ## The statement -/

/-- Settles O38: R28 mode by mode, R29 through `Room.eq_reportDemand`, R30 source by source; the recompute
writes no third field. -/
theorem demandFormed : Obligations.DemandFormed := by
  intro k hlimits _
  refine ⟨?_, fun D hstale hunformed hformed => ?_, rfl⟩
  · rw [Room.effective_recomputed]
    cases hmode : k.mode with
    | comfort => exact Room.effectiveSetpoint_comfort hmode hlimits
    | setback => exact Room.effectiveSetpoint_setback hmode hlimits
    | away => exact Room.effectiveSetpoint_away hmode
    | off => exact Room.effectiveSetpoint_off hmode
  · rw [Room.demand_recomputed, Room.eq_reportDemand hstale hunformed hformed]
    exact ⟨Room.demandNow_report, Room.demandNow_call, Room.demandNow_both⟩

end Sys2Proof.Machine
end

section
/-! PROOFS. The writes of a room (R22, R23): a refused write as `Answers` says it, one equation of the write
per field and per case of the unit address, and the settling of O16. -/

namespace Sys2Proof.Machine

open Sys2Proof

/-! ## A refused write (R143) -/

/-- A write command that the part takes, whose reply refuses the value, is what `Answers` says. -/
theorem answers_of_plain {c : Instr} {src : Byte} {s : State} {o : AnswerCode} {body : State → Reply}
    (hs : s.Takes) (hexec : exec c s = .next (s.beginAll.takeWrite src body))
    (hbody : body s = Reply.plain s o) : Answers c src 0x02 s s o := by
  have ⟨_, _, hnothing⟩ := hs
  unfold Answers
  rw [hexec, State.beginAll_of_nothing hnothing, State.takeWrite,
    State.takeRequest_taken src codeWriteField true body hs, hbody]
  rfl

/-! ## The write of a room field (R22) -/

theorem DemandSource.ofValue_code (d : DemandSource) : DemandSource.ofValue (d.code : Int) = some d := by
  cases d <;> rfl

theorem DemandSource.ofValue_outside {v : Int} (h : ¬(0 ≤ v ∧ v ≤ 2)) :
    DemandSource.ofValue v = none := by
  rw [DemandSource.ofValue, if_neg (by omega), if_neg (by omega), if_neg (by omega)]

section fields
variable (s : State) (r : Fin 12) {v : Int} {w : Nat}

theorem State.writeRoom_demandSource_outside (hv : ¬(0 ≤ v ∧ v ≤ 2)) :
    s.writeRoom .demandSource v r = Reply.plain s .range := by
  simp only [State.writeRoom, DemandSource.ofValue_outside hv]

theorem State.writeRoom_demandSource (d : DemandSource) :
    s.writeRoom .demandSource d.code r =
      Reply.held (s.setRoom r { s.room r with demandSource := d }.recomputed) false d.code := by
  simp only [State.writeRoom, DemandSource.ofValue_code, State.updRoom]

theorem State.writeRoom_band (hw : (w : Int) = max 32 (min v 256)) :
    s.writeRoom .band v r = Reply.held (s.setRoom r { s.room r with band := w }.recomputed)
      (decide ((w : Int) ≠ v)) w := by
  obtain rfl := clampNat_eq (lo := 32) (hi := 256) (by decide) hw
  rfl

theorem State.writeRoom_setback (hw : (w : Int) = max 0 (min v 640)) :
    s.writeRoom .setback v r = Reply.held (s.setRoom r { s.room r with setback := w }.recomputed)
      (decide ((w : Int) ≠ v)) w := by
  obtain rfl := clampNat_eq (lo := 0) (hi := 640) (by decide) hw
  rfl

/-- The lower limit is held to at most the present upper one. -/
theorem State.writeRoom_setpointMin
    (hw : (w : Int) = min (max 0 (min v 3200)) (s.room r).setpointMax) :
    s.writeRoom .setpointMin v r =
      Reply.held (s.setRoom r { s.room r with setpointMin := w }.recomputed)
        (decide ((w : Int) ≠ v)) w := by
  have hclamp := clampNat_cast 0 3200 v (by decide)
  obtain rfl : min (clampNat 0 3200 v) (s.room r).setpointMax = w := by omega
  rfl

/-- The upper limit is held to at least the present lower one. -/
theorem State.writeRoom_setpointMax
    (hw : (w : Int) = max (max 0 (min v 3200)) (s.room r).setpointMin) :
    s.writeRoom .setpointMax v r =
      Reply.held (s.setRoom r { s.room r with setpointMax := w }.recomputed)
        (decide ((w : Int) ≠ v)) w := by
  have hclamp := clampNat_cast 0 3200 v (by decide)
  obtain rfl : max (clampNat 0 3200 v) (s.room r).setpointMin = w := by omega
  rfl

theorem State.writeRoom_fallbackDemand (hw : (w : Int) = max 0 (min v 1024)) :
    s.writeRoom .fallbackDemand v r =
      Reply.held (s.setRoom r { s.room r with fallbackDemand := w }.recomputed)
        (decide ((w : Int) ≠ v)) w := by
  obtain rfl := clampNat_eq (lo := 0) (hi := 1024) (by decide) hw
  rfl

end fields

theorem exec_roomFieldWrite (src : Byte) (r : Nat) (field : RoomField) (v : Int) (s : State) :
    exec (.roomFieldWrite src r field v) s =
      .next (s.beginAll.takeWrite src (State.writeAt (.room field) r v)) := rfl

section roomWrites
variable {s t : State} {r : Fin 12} {field : RoomField} {v w : Int} {b : Bool} {o : AnswerCode}

theorem roomFieldWrite_stores (hs : s.Takes) (src : Byte)
    (hwrite : s.writeRoom field v r = Reply.held t b w) (hb : b = decide (w ≠ v)) :
    Stores (.roomFieldWrite src r field v) src s t v w :=
  stores_of_held hs (exec_roomFieldWrite src r field v s) ((withIndex_val r s _).trans hwrite) hb

theorem roomFieldWrite_answers (hs : s.Takes) (src : Byte)
    (hwrite : s.writeRoom field v r = Reply.plain s o) :
    Answers (.roomFieldWrite src r field v) src 0x02 s s o :=
  answers_of_plain hs (exec_roomFieldWrite src r field v s) ((withIndex_val r s _).trans hwrite)

end roomWrites

/-- A clause for each field of R22, each from its equation of the write. -/
theorem roomFieldWritten : Parts.RoomFieldWritten := by
  intro src r v s hs
  refine ⟨fun hv => ?_, ?_, fun w hw => ?_, fun w hw => ?_, fun w hw => ?_, fun w hw => ?_,
    fun w hw => ?_⟩
  · exact roomFieldWrite_answers hs src (s.writeRoom_demandSource_outside r hv)
  · rintro d rfl
    exact roomFieldWrite_stores hs src (s.writeRoom_demandSource r d) (by simp)
  · exact roomFieldWrite_stores hs src (s.writeRoom_band r hw) rfl
  · exact roomFieldWrite_stores hs src (s.writeRoom_setback r hw) rfl
  · exact roomFieldWrite_stores hs src (s.writeRoom_setpointMin r hw) rfl
  · exact roomFieldWrite_stores hs src (s.writeRoom_setpointMax r hw) rfl
  · exact roomFieldWrite_stores hs src (s.writeRoom_fallbackDemand r hw) rfl

/-! ## The write of a unit address (R23) -/

/-- The scan of R23's second check finds a room exactly where another one has the address. -/
theorem State.unitTaken_iff (s : State) (r : Fin 12) (n : Nat) :
    roomIds.any (fun q => q != r && (s.room q).unitAddress == n) = true ↔
      ∃ q, q ≠ r ∧ (s.room q).unitAddress = n := by
  simp [roomIds]

section address
variable {s : State} {r : Fin 12} {n : Nat}

theorem State.writeUnitAddress_outside {v : Int} (hv : ¬(0 ≤ v ∧ v ≤ 126)) :
    s.writeUnitAddress v r = Reply.plain s .range := by
  rw [State.writeUnitAddress, if_pos (by omega)]

theorem State.writeUnitAddress_conflict (hn : n ≤ 126) (hne : n ≠ 0)
    (htaken : ∃ q, q ≠ r ∧ (s.room q).unitAddress = n) :
    s.writeUnitAddress n r = Reply.plain s .conflict := by
  rw [State.writeUnitAddress, if_neg (by omega), Int.toNat_natCast,
    if_pos ⟨by omega, (s.unitTaken_iff r n).mpr htaken⟩]

/-- An address that passes both checks. -/
theorem State.writeUnitAddress_free (hn : n ≤ 126)
    (hfree : n = 0 ∨ ∀ q, q ≠ r → (s.room q).unitAddress ≠ n) :
    s.writeUnitAddress n r =
      if (s.room r).unitAddress = n then Reply.held s false n
      else Reply.held (s.setRoom r ((s.room r).restarted s.now n).recomputed) false n := by
  have hpass : ¬((n : Int) ≠ 0 ∧
      roomIds.any (fun q => q != r && (s.room q).unitAddress == n) = true) := by
    rintro ⟨hne, htaken⟩
    obtain ⟨q, hq, hunit⟩ := (s.unitTaken_iff r n).mp htaken
    obtain hzero | hfree := hfree
    · omega
    · exact hfree q hq hunit
  rw [State.writeUnitAddress, if_neg (by omega), Int.toNat_natCast, if_neg hpass]
  rfl

end address

theorem exec_unitAddressWrite (src : Byte) (r : Nat) (v : Int) (s : State) :
    exec (.unitAddressWrite src r v) s =
      .next (s.beginAll.takeWrite src (State.writeAt .unitAddress r v)) := rfl

section addressWrites
variable {s t : State} {r : Fin 12} {v : Int} {o : AnswerCode}

/-- A taken address is held as it was written. -/
theorem unitAddressWrite_stores (hs : s.Takes) (src : Byte)
    (hwrite : s.writeUnitAddress v r = Reply.held t false v) :
    Stores (.unitAddressWrite src r v) src s t v v :=
  stores_of_held hs (exec_unitAddressWrite src r v s) ((withIndex_val r s _).trans hwrite) (by simp)

theorem unitAddressWrite_answers (hs : s.Takes) (src : Byte)
    (hwrite : s.writeUnitAddress v r = Reply.plain s o) :
    Answers (.unitAddressWrite src r v) src 0x02 s s o :=
  answers_of_plain hs (exec_unitAddressWrite src r v s) ((withIndex_val r s _).trans hwrite)

end addressWrites

/-- The checks of R23 in their order, then the present address and a new one. -/
theorem unitAddressWritten : Parts.UnitAddressWritten := by
  intro src r v s hs
  refine ⟨fun hv => unitAddressWrite_answers hs src (State.writeUnitAddress_outside hv), ?_⟩
  rintro n rfl hn
  refine ⟨fun hne htaken => ?_, fun hfree => ⟨fun hsame => ?_, fun hnew => ?_⟩⟩
  · exact unitAddressWrite_answers hs src (State.writeUnitAddress_conflict hn hne htaken)
  · exact unitAddressWrite_stores hs src
      ((State.writeUnitAddress_free hn hfree).trans (if_pos hsame))
  · exact unitAddressWrite_stores hs src
      ((State.writeUnitAddress_free hn hfree).trans (if_neg hnew))

/-! ## The statement -/

/-- Settles O16: R22 field by field, R23 check by check. -/
theorem roomFieldsWritten : Obligations.RoomFieldsWritten :=
  ⟨roomFieldWritten, unitAddressWritten⟩

end Sys2Proof.Machine
end

section
/-! PROOFS. The arithmetic of the balancing step (R63 to R68): the mean and its range, the share, the
request floor as a quotient rounded up, the floored request, and the settling of O45. -/

namespace Sys2Proof.Machine

open Sys2Proof

/-! ## The measured cooling (R63) -/

/-- A mean of samples within ±b is within ±b: the half count that is added before the floor is below one
whole count. -/
theorem roundedMean_bounds {sum b : Int} {n : Nat} (hn : 1 ≤ n) (hlo : -b * n ≤ sum)
    (hhi : sum ≤ b * n) : -b ≤ (sum + (n / 2 : Nat)) / (n : Int) ∧
      (sum + (n / 2 : Nat)) / (n : Int) ≤ b := by
  have hpos : (0 : Int) < n := by omega
  constructor
  · rw [Int.le_ediv_iff_mul_le hpos]
    omega
  · rw [← Int.lt_add_one_iff, Int.ediv_lt_iff_lt_mul hpos, add_one_mul]
    omega

@[simp] theorem State.loop_restart (s : State) (i : Fin 16) :
    s.restart.loop i = (s.loop i).restarted := by
  simp [State.loop, State.restart]

@[simp] theorem Loop.cooling_restarted (l : Loop) : l.restarted.cooling = l.cooling := by
  simp only [Loop.restarted, Loop.clearStatus, Loop.emptyAcc, Loop.leaveCycle, Loop.noDuties]

/-- ENABLE forgets the measured cooling, whatever state the loop enters. -/
@[simp] theorem State.cooling_enabledLoop (s : State) (i : Fin 16) :
    (s.enabledLoop i).cooling = none := by
  unfold State.enabledLoop
  split <;> rfl

@[simp] theorem State.loop_reset (i : Fin 16) : State.reset.loop i = Loop.powerOn i := by
  simp [State.loop, State.reset]

/-! ## The share (R64, R65) -/

/-- Without samples the step is not taken (R61). -/
theorem Loop.balance_of_no_samples {l : Loop} (k : FloorClass) (h : l.accCount = 0) :
    l.balance k = l := if_pos h

theorem shareChange_eq (k : FloorClass) (cooling : Int) :
    shareChange k cooling =
      max (-(k.limit : Int)) (min (((cooling - k.target) * k.gain).tdiv 64) k.limit) :=
  clampInt_eq _ _ _ (by omega)

theorem newShare_cast {l : Loop} (k : FloorClass) (h : l.smin ≤ l.smax) (cooling : Int) :
    (newShare l k cooling : Int) =
      max (l.smin : Int) (min (l.share + shareChange k cooling) l.smax) :=
  clampNat_cast _ _ _ h

/-! ## The unfloored request (R66) -/

/-- A demand of at most 1024 asks for at most the share. -/
theorem unflooredRequest_le_share (S : Nat) {D : Nat} (hD : D ≤ 1024) : unflooredRequest S D ≤ S :=
  Nat.div_le_of_le_mul ((Nat.mul_le_mul_left S hD).trans_eq (Nat.mul_comm S 1024))

theorem State.demandOf_of_room {s : State} {i : Fin 16} {r : Fin 12} (h : (s.loop i).room = some r) :
    s.demandOf i = (s.room r).demand := by
  simp only [State.demandOf, h]

/-! ## The request floor (R67) -/

/-- The model's quotient rounded up is the library's. -/
theorem ceilDiv_eq (a b : Nat) : ceilDiv a b = a ⌈/⌉ b := (Nat.ceilDiv_eq_add_pred_div a b).symm

theorem ceilDiv_le_iff {a b c : Nat} (hb : 0 < b) : ceilDiv a b ≤ c ↔ a ≤ c * b := by
  rw [ceilDiv_eq, ceilDiv_le_iff_le_mul hb, Nat.mul_comm]

theorem le_ceilDiv_mul (a : Nat) {b : Nat} (hb : 0 < b) : a ≤ ceilDiv a b * b :=
  (ceilDiv_le_iff hb).mp le_rfl

/-- One less than the quotient rounded up is too little, when there is anything to divide. -/
theorem pred_ceilDiv_mul_lt {a b : Nat} (ha : 0 < a) (hb : 0 < b) : (ceilDiv a b - 1) * b < a := by
  have hpos : 0 < ceilDiv a b := Nat.pos_of_mul_pos_right (ha.trans_le (le_ceilDiv_mul a hb))
  have hless : ¬ ceilDiv a b ≤ ceilDiv a b - 1 := by omega
  rwa [ceilDiv_le_iff hb, not_le] at hless

/-- The floor covers the opening time and is the least that does; half a cycle, which bounds the opening
time, is 2048 units. -/
theorem State.requestFloor_spec (s : State) (i : Fin 16) (hT : 0 < s.general.cycleLength)
    (hopening : 0 < (s.profileOf i).opening)
    (hhalf : 2 * (s.profileOf i).opening ≤ s.general.cycleLength) :
    4096 * (s.profileOf i).opening ≤ s.requestFloor i * s.general.cycleLength ∧
      (s.requestFloor i - 1) * s.general.cycleLength < 4096 * (s.profileOf i).opening ∧
      1 ≤ s.requestFloor i ∧ s.requestFloor i ≤ 2048 ∧
      (s.profileOf i).opening ≤ s.requestFloor i * s.general.cycleLength / 4096 := by
  have hdemand : 0 < 4096 * (s.profileOf i).opening := by omega
  have hcovers : 4096 * (s.profileOf i).opening ≤ s.requestFloor i * s.general.cycleLength :=
    le_ceilDiv_mul _ hT
  refine ⟨hcovers, pred_ceilDiv_mul_lt hdemand hT, ?_, ?_, ?_⟩
  · exact Nat.pos_of_mul_pos_right (hdemand.trans_le hcovers)
  · have hfits : 4096 * (s.profileOf i).opening ≤ 2048 * s.general.cycleLength := by omega
    exact (ceilDiv_le_iff hT).mpr hfits
  · exact (Nat.le_div_iff_mul_le (by decide)).mpr (by omega)

/-! ## The floored request (R68) -/

section floored
variable {r0 rf : Nat}

theorem flooredRequest_of_le (h : rf ≤ r0) : flooredRequest r0 rf = r0 := if_pos h

theorem flooredRequest_of_half (hhalf : rf / 2 ≤ r0) (hbelow : r0 < rf) :
    flooredRequest r0 rf = rf := by
  rw [flooredRequest, if_neg (Nat.not_le.mpr hbelow), if_pos hhalf]

theorem flooredRequest_of_lt_half (h : r0 < rf / 2) : flooredRequest r0 rf = 0 := by
  rw [flooredRequest, if_neg (by omega), if_neg (Nat.not_le.mpr h)]

end floored

/-! ## The statement -/

/-- Settles O45: the mean, the share, the request floor and the floored request, each from its laws. -/
theorem balancingArithmetic : Obligations.BalancingArithmetic := by
  refine ⟨fun l k hcount hlimits => ?_, fun l k => Loop.balance_of_no_samples k, fun s i => ?_,
    fun S D => ⟨rfl, fun hS hD => (unflooredRequest_le_share S hD).trans hS⟩,
    State.requestFloor_spec, fun r0 rf => ?_, fun s i r hroom => ?_⟩
  · simp only [← shareChange_eq, ← measuredCooling_eq]
    refine ⟨_, newShare_cast k hlimits _, Loop.balance_of_samples k hcount, fun hlo hhi => ?_⟩
    rw [measuredCooling_eq]
    exact roundedMean_bounds hcount hlo hhi
  · simp [Loop.powerOn]
  · exact ⟨flooredRequest_of_le, flooredRequest_of_half, flooredRequest_of_lt_half⟩
  · rw [State.requestOf, State.demandOf_of_room hroom]

end Sys2Proof.Machine
end

section
/-! PROOFS. The pass filter (R106, R107, R121 to R126): the model's judging and matching tests as the
statements say them, the rule that applies as the least one, the application of a rule, the decisions by
action, and the settling of O34. -/

namespace Sys2Proof.Machine

open Sys2Proof

/-! ## Judging a telegram (R106, R107) -/

theorem telegramDamaged_iff (t : Telegram) : telegramDamaged t = true ↔ t.Damaged := by
  rw [telegramDamaged, Bool.or_eq_true, decide_eq_true_iff, decide_eq_true_iff]
  rfl

theorem telegramMalformed_eq_any (t : Telegram) :
    telegramMalformed t = (leastLength t.kind).any fun n => decide (t.data.length < n) := by
  unfold telegramMalformed
  cases leastLength t.kind <;> rfl

/-- The chain of kinds in R157's order and the list of the statements give the same test. -/
theorem telegramMalformed_eq (t : Telegram) : telegramMalformed t = t.tooShort := by
  rw [telegramMalformed_eq_any]
  unfold leastLength Telegram.tooShort kindRoomReport kindSupplyReport kindZoneOrder kindProbeReport
    kindHeadOrder kindHeadEcho kindSetupRequest kindSetupAnswer kindNotice
  split_ifs <;> simp_all

/-- The counting of a good telegram, as the statements say it. -/
theorem State.updCounters_goodTelegram (s : State) (p : PortId) (t : Telegram) :
    s.updCounters p (·.goodTelegram (telegramMalformed t)) = s.afterGood p t := by
  rw [telegramMalformed_eq]
  rfl

section afterGood
variable (s : State) (p : PortId) (t : Telegram)

@[simp] theorem State.mode_afterGood : (s.afterGood p t).mode = s.mode := s.mode_setPort p _
@[simp] theorem State.general_afterGood : (s.afterGood p t).general = s.general :=
  s.general_setPort p _
@[simp] theorem State.notices_afterGood : (s.afterGood p t).notices = s.notices :=
  s.notices_setPort p _
@[simp] theorem State.rule_afterGood (r : Fin 24) : (s.afterGood p t).rule r = s.rule r :=
  s.rule_setPort p _ r
@[simp] theorem State.address_afterGood : (s.afterGood p t).address = s.address := by
  rw [State.address, State.afterGood, State.strap_setPort, State.address]

end afterGood

theorem exec_telegramReceived (p : PortId) (t : Telegram) (s : State) :
    exec (.telegramReceived p t) s = .next (s.beginAll.receive p t) := rfl

/-- A good telegram for another address goes from the counting to the filter (R110). -/
theorem exec_telegramReceived_filtered {s : State} {t : Telegram} (p : PortId)
    (hnothing : s.NothingToBegin) (hgood : ¬t.Damaged) (hother : t.dst.toNat ≠ s.address) :
    exec (.telegramReceived p t) s = .next ((s.afterGood p t).passFilter p t) := by
  rw [exec_telegramReceived, State.beginAll_of_nothing hnothing, State.receive,
    if_neg (mt (telegramDamaged_iff t).mp hgood), State.takeGood, State.updCounters_goodTelegram,
    if_neg (by rwa [State.address_afterGood])]

/-! ## Matching (R121) -/

theorem Direction.admits_iff (d : Machine.Direction) (p : PortId) :
    d.admits p = true ↔ d = .both ∨ (d = .hToM ∧ p = .h) ∨ (d = .mToH ∧ p = .m) := by
  cases d <;> simp [Direction.admits]

theorem matchAny_iff (field : Option Nat) (value : Nat) :
    matchAny field value = true ↔ field = none ∨ field = some value := by
  cases field <;> simp [matchAny]

/-- A selector other than ANY fails on a telegram without data. -/
theorem selectorMatches_iff (field : Option Nat) (data : List Byte) :
    selectorMatches field data = true ↔
      field = none ∨ ∃ b rest, data = b :: rest ∧ field = some b.toNat := by
  cases field with
  | none => simp [selectorMatches]
  | some n => cases data <;> simp [selectorMatches]

theorem Rule.matchesTelegram_iff (k : Rule) (p : PortId) (t : Telegram) :
    k.matchesTelegram p t = true ↔ k.Matches p t := by
  simp only [Rule.matchesTelegram, Rule.Matches, Bool.and_eq_true, Direction.admits_iff,
    matchAny_iff, selectorMatches_iff, and_assoc]

/-! ## The rule that applies (R122) -/

/-- The test of the scan over the rules. -/
theorem Rule.applies_iff (k : Rule) (p : PortId) (t : Telegram) :
    (k.valid && k.count != 0 && k.matchesTelegram p t) = true ↔ k.Applies p t := by
  simp only [Rule.Applies, Bool.and_eq_true, bne_iff_ne, Rule.matchesTelegram_iff, and_assoc]

/-- The scan finds the least index of a rule that applies. -/
theorem State.applyingRule_first {s : State} {p : PortId} {t : Telegram} {r : Fin 24}
    (happlies : (s.rule r).Applies p t) (hfirst : ∀ q, q < r → ¬(s.rule q).Applies p t) :
    s.applyingRule p t = some r := by
  refine List.find?_eq_some_iff_getElem.mpr ⟨(Rule.applies_iff _ p t).mpr happlies, r.val,
    by simp [ruleIds], by simp [ruleIds], fun j hj => ?_⟩
  have hindex : ruleIds[j]'(by simp [ruleIds]; omega) = ⟨j, hj.trans r.isLt⟩ := by simp [ruleIds]
  rw [hindex, Bool.not_eq_true', ← Bool.not_eq_true, Rule.applies_iff]
  exact hfirst _ hj

theorem State.applyingRule_none {s : State} {p : PortId} {t : Telegram}
    (hnone : ∀ r, ¬(s.rule r).Applies p t) : s.applyingRule p t = none :=
  List.find?_eq_none.mpr fun r _ => mt (Rule.applies_iff _ p t).mp (hnone r)

/-! ## The application of a rule (R123, R124) -/

/-- Away from a count of 1 the rule alone changes. -/
theorem State.applyRule_unspent {s : State} {r : Fin 24} (h : (s.rule r).count ≠ 1) :
    s.applyRule r = s.setRule r (s.rule r).applied := if_neg h

/-- A count of 1 is spent: the rule changes and RULE SPENT is raised with its new hits. -/
theorem State.applyRule_spent {s : State} {r : Fin 24} (h : (s.rule r).count = 1) :
    s.applyRule r = { s.setRule r (s.rule r).applied with
      notices := s.notices.raise .ruleSpent (some r.val) (some ((s.rule r).applied.hits : Int)) } :=
  if_pos h

/-! ## The evaluation (R121, R122, R125) -/

section evaluation
variable {s : State} {p : PortId} {t : Telegram}

theorem State.filter_passive (hmode : s.mode = .passive) : s.filter p t = (s, .pass) := if_pos hmode

theorem State.filter_rule {r : Fin 24} (hmode : s.mode ≠ .passive)
    (happlying : s.applyingRule p t = some r) :
    s.filter p t = (s.applyRule r, (s.rule r).action) := by
  rw [State.filter, if_neg hmode, happlying]

theorem State.filter_default (hmode : s.mode ≠ .passive) (hnone : s.applyingRule p t = none) :
    s.filter p t = (s, s.directionDefault p) := by
  rw [State.filter, if_neg hmode, hnone]

end evaluation

theorem State.directionDefault_eq (s : State) (p : PortId) :
    s.directionDefault p =
      if p = .h then s.general.directionDefaultH else s.general.directionDefaultM := by
  cases p <;> rfl

/-! ## The decisions (R110, R123, R126) -/

/-- Intake on either port reads by kind. -/
theorem State.intake_eq_readBy (s : State) (p : PortId) (t : Telegram) :
    s.intake p t = s.readBy p t := by
  unfold State.intake State.readBy
  rw [telegramMalformed_eq]
  cases p with
  | h =>
    unfold State.intakeH kindRoomReport kindSupplyReport kindZoneOrder
    split_ifs <;> simp_all
  | m =>
    unfold State.intakeM kindProbeReport
    simp

theorem State.carryDecisions_eq_decided (s : State) (p : PortId) (t : Telegram) (a : FilterAction) :
    s.carryDecisions p t a = s.decided p t a := by
  cases a
  case pass => exact State.intake_eq_readBy _ p t
  case block => exact s.intake_eq_readBy p t
  case ignore => rfl
  case drop => rfl

/-- The filter carries out the action it evaluates to on the part its evaluation leaves. -/
theorem State.passFilter_of_filter {s u : State} {p : PortId} {t : Telegram} {a : FilterAction}
    (h : s.filter p t = (u, a)) : s.passFilter p t = u.decided p t a := by
  rw [State.passFilter, h, State.carryDecisions_eq_decided]

/-! ## The statement -/

/-- Settles O34: the telegram reaches the filter, and each of the filter's three answers is carried out. -/
theorem filterDecides : Obligations.FilterDecides := by
  intro p t s hnothing hgood hother g
  rw [exec_telegramReceived_filtered p hnothing hgood hother]
  refine ⟨fun hmode => ?_, fun hmode => ⟨fun r happlies hfirst => ?_, fun hnone => ?_⟩⟩
  · exact congrArg _ (State.passFilter_of_filter (State.filter_passive (by simpa using hmode)))
  · have hpass : g.passFilter p t = (g.applyRule r).decided p t (g.rule r).action :=
      State.passFilter_of_filter (State.filter_rule (by simpa [g] using hmode)
        (State.applyingRule_first (by simpa [g] using happlies) (by simpa [g] using hfirst)))
    refine ⟨fun hcount => ?_, fun hcount => ?_⟩
    · rw [hpass, State.applyRule_unspent (by simpa [g] using hcount), State.rule_afterGood]
      rfl
    · rw [hpass, State.applyRule_spent (by simpa [g] using hcount), State.rule_afterGood,
        State.notices_afterGood]
      rfl
  · rw [State.passFilter_of_filter (State.filter_default (by simpa using hmode)
      (State.applyingRule_none (by simpa using hnone))), State.directionDefault_eq,
      State.general_afterGood]

end Sys2Proof.Machine
end

section
/-! PROOFS. The writes of a rule (R119, R120): the codes of its fields, one equation of the write per field
that is stored or refused, and the settling of O20. -/

namespace Sys2Proof.Machine

open Sys2Proof

/-! ## The codes of written values (R119) -/

theorem flagOfValue_toNat (b : Bool) : flagOfValue b.toNat = some b := by
  cases b <;> rfl

theorem flagOfValue_outside {v : Int} (h : ¬(0 ≤ v ∧ v ≤ 1)) : flagOfValue v = none := by
  rw [flagOfValue, if_neg (by omega), if_neg (by omega)]

theorem Direction.ofValue_code (d : Machine.Direction) :
    Direction.ofValue (d.code : Int) = some d := by
  cases d <;> rfl

theorem Direction.ofValue_outside {v : Int} (h : ¬(0 ≤ v ∧ v ≤ 2)) : Direction.ofValue v = none := by
  rw [Direction.ofValue, if_neg (by omega), if_neg (by omega), if_neg (by omega)]

theorem FilterAction.ofValue_code (a : FilterAction) :
    FilterAction.ofValue (a.code : Int) = some a := by
  cases a <;> rfl

theorem FilterAction.ofValue_outside {v : Int} (h : ¬(0 ≤ v ∧ v ≤ 3)) :
    FilterAction.ofValue v = none := by
  rw [FilterAction.ofValue, if_neg (by omega), if_neg (by omega), if_neg (by omega),
    if_neg (by omega)]

/-! ## The write of a match field (R119) -/

section matchField
variable (s : State) (r : Fin 24) {hi : Nat} (f : Option Nat → Rule)

theorem State.writeMatch_outside {v : Int} (hv : ¬(-1 ≤ v ∧ v ≤ hi)) :
    s.writeMatch r hi v f = Reply.plain s .range := by
  rw [State.writeMatch, if_neg (by omega), if_pos (by omega)]

/-- ANY, spelled −1, and a number within the range are stored. -/
theorem State.writeMatch_of_upTo {m : Option Nat} (hm : fieldUpTo hi m) :
    s.writeMatch r hi (natOrNone m) f = Reply.held (s.storeRule r (f m)) false (natOrNone m) := by
  cases m with
  | none => exact if_pos rfl
  | some n =>
    have hn : n ≤ hi := hm n rfl
    rw [State.writeMatch, natOrNone, if_neg (by omega), if_neg (by omega), Int.toNat_natCast]

end matchField

/-! ## The write of a rule field (R119, R120) -/

section fields
variable (s : State) (r : Fin 24) {v : Int}

theorem State.writeRule_valid_outside (hv : ¬(0 ≤ v ∧ v ≤ 1)) :
    s.writeRule .valid v r = Reply.plain s .range := by
  simp only [State.writeRule, flagOfValue_outside hv]

theorem State.writeRule_valid (b : Bool) :
    s.writeRule .valid b.toNat r =
      Reply.held (s.storeRule r { s.rule r with valid := b }) false b.toNat := by
  simp only [State.writeRule, flagOfValue_toNat]

theorem State.writeRule_direction_outside (hv : ¬(0 ≤ v ∧ v ≤ 2)) :
    s.writeRule .direction v r = Reply.plain s .range := by
  simp only [State.writeRule, Direction.ofValue_outside hv]

theorem State.writeRule_direction (d : Machine.Direction) :
    s.writeRule .direction d.code r =
      Reply.held (s.storeRule r { s.rule r with direction := d }) false d.code := by
  simp only [State.writeRule, Direction.ofValue_code]

theorem State.writeRule_kind (v : Int) : s.writeRule .kind v r =
    s.writeMatch r (255 : Nat) v fun m => { s.rule r with kind := m } := rfl

theorem State.writeRule_source (v : Int) : s.writeRule .source v r =
    s.writeMatch r (127 : Nat) v fun m => { s.rule r with source := m } := rfl

theorem State.writeRule_destination (v : Int) : s.writeRule .destination v r =
    s.writeMatch r (127 : Nat) v fun m => { s.rule r with destination := m } := rfl

theorem State.writeRule_selector (v : Int) : s.writeRule .selector v r =
    s.writeMatch r (255 : Nat) v fun m => { s.rule r with selector := m } := rfl

theorem State.writeRule_action_outside (hv : ¬(0 ≤ v ∧ v ≤ 3)) :
    s.writeRule .action v r = Reply.plain s .range := by
  simp only [State.writeRule, FilterAction.ofValue_outside hv]

theorem State.writeRule_action (a : FilterAction) :
    s.writeRule .action a.code r =
      Reply.held (s.storeRule r { s.rule r with action := a }) false a.code := by
  simp only [State.writeRule, FilterAction.ofValue_code]

theorem State.writeRule_count {w : Nat} (hw : (w : Int) = max 0 (min v 255)) :
    s.writeRule .count v r =
      Reply.held (s.storeRule r { s.rule r with count := w }) (decide ((w : Int) ≠ v)) w := by
  obtain rfl := clampNat_eq (lo := 0) (hi := 255) (by decide) hw
  rfl

end fields

/-! ## The commands -/

theorem exec_ruleFieldWrite (src : Byte) (r : Nat) (field : RuleField) (v : Int) (s : State) :
    exec (.ruleFieldWrite src r field v) s =
      .next (s.beginAll.takeWrite src (State.writeAt (.rule field) r v)) := rfl

theorem exec_hitsWrite (src : Byte) (r : Nat) (v : Int) (s : State) :
    exec (.hitsWrite src r v) s = .next (s.beginAll.takeWrite src (State.writeAt .hits r v)) := rfl

section ruleWrites
variable {s t : State} {r : Fin 24} {field : RuleField} {v w : Int} {b : Bool} {o : AnswerCode}

theorem ruleFieldWrite_stores (hs : s.Takes) (src : Byte)
    (hwrite : s.writeRule field v r = Reply.held t b w) (hb : b = decide (w ≠ v)) :
    Stores (.ruleFieldWrite src r field v) src s t v w :=
  stores_of_held hs (exec_ruleFieldWrite src r field v s) ((withIndex_val r s _).trans hwrite) hb

/-- A code or a match value that is taken is held as it was written. -/
theorem ruleFieldWrite_stores_same (hs : s.Takes) (src : Byte)
    (hwrite : s.writeRule field v r = Reply.held t false v) :
    Stores (.ruleFieldWrite src r field v) src s t v v :=
  ruleFieldWrite_stores hs src hwrite (by simp)

theorem ruleFieldWrite_answers (hs : s.Takes) (src : Byte)
    (hwrite : s.writeRule field v r = Reply.plain s o) :
    Answers (.ruleFieldWrite src r field v) src 0x02 s s o :=
  answers_of_plain hs (exec_ruleFieldWrite src r field v s) ((withIndex_val r s _).trans hwrite)

section matchWrites
variable {hi : Nat} {f : Option Nat → Rule}

theorem matchFieldWrite_answers (hs : s.Takes) (src : Byte)
    (hfield : ∀ v, s.writeRule field v r = s.writeMatch r hi v f) (hv : ¬(-1 ≤ v ∧ v ≤ hi)) :
    Answers (.ruleFieldWrite src r field v) src 0x02 s s .range :=
  ruleFieldWrite_answers hs src ((hfield v).trans (s.writeMatch_outside r f hv))

theorem matchFieldWrite_stores (hs : s.Takes) (src : Byte)
    (hfield : ∀ v, s.writeRule field v r = s.writeMatch r hi v f) {m : Option Nat}
    (hm : fieldUpTo hi m) :
    Stores (.ruleFieldWrite src r field (natOrNone m)) src s (s.storeRule r (f m)) (natOrNone m)
      (natOrNone m) :=
  ruleFieldWrite_stores_same hs src ((hfield _).trans (s.writeMatch_of_upTo r f hm))

end matchWrites

/-- A write of the hits names no value: 0 is held and answered DONE. -/
theorem hitsWrite_stores (hs : s.Takes) (src : Byte) (r : Fin 24) (v : Int) :
    Stores (.hitsWrite src r v) src s (s.setRule r { s.rule r with hits := 0 }) 0 0 :=
  stores_of_held hs (exec_hitsWrite src r v s) (withIndex_val r s State.writeHits) rfl

end ruleWrites

/-! ## The statement -/

/-- Settles O20: a clause for each field of R119, each from its equation of the write. -/
theorem ruleFieldWritten : Obligations.RuleFieldWritten := by
  intro src r v s hs
  refine ⟨fun hv => ?_, ?_, fun hv => ?_, ?_, fun hv => ?_, ?_, fun hv => ⟨?_, ?_⟩,
    fun hv => ⟨?_, ?_⟩, ?_, fun w hw => ?_, hitsWrite_stores hs src r v⟩
  · exact ruleFieldWrite_answers hs src (s.writeRule_valid_outside r hv)
  · rintro b rfl
    exact ruleFieldWrite_stores_same hs src (s.writeRule_valid r b)
  · exact ruleFieldWrite_answers hs src (s.writeRule_direction_outside r hv)
  · rintro d rfl
    exact ruleFieldWrite_stores_same hs src (s.writeRule_direction r d)
  · exact ruleFieldWrite_answers hs src (s.writeRule_action_outside r hv)
  · rintro a rfl
    exact ruleFieldWrite_stores_same hs src (s.writeRule_action r a)
  · exact matchFieldWrite_answers hs src (s.writeRule_kind r) hv
  · exact matchFieldWrite_answers hs src (s.writeRule_selector r) hv
  · exact matchFieldWrite_answers hs src (s.writeRule_source r) hv
  · exact matchFieldWrite_answers hs src (s.writeRule_destination r) hv
  · rintro m rfl
    refine ⟨fun hm => ⟨?_, ?_⟩, fun hm => ⟨?_, ?_⟩⟩
    · exact matchFieldWrite_stores hs src (s.writeRule_kind r) hm
    · exact matchFieldWrite_stores hs src (s.writeRule_selector r) hm
    · exact matchFieldWrite_stores hs src (s.writeRule_source r) hm
    · exact matchFieldWrite_stores hs src (s.writeRule_destination r) hm
  · exact ruleFieldWrite_stores hs src (s.writeRule_count r hw) rfl

end Sys2Proof.Machine
end

section
/-! PROOFS. The verdict of a SWEEP's test (R135, R136): the model's scan for the crossing loop is an argmax
of the rise over the candidates in ascending index; one equation of `writeVerdict` per verdict, and the
settling of O51. -/

namespace Sys2Proof.Machine

open Sys2Proof

/-! ## The largest rise, the lowest index on equal rises -/

/-- `argmax` takes the first of the largest values, which in a list of ascending index is that of the
lowest index. -/
theorem argmax_of_ascending {α : Type} [DecidableEq α] {index : α → Fin 16} {value : α → Int}
    {l : List α} (hl : l.Pairwise (index · < index ·)) {m : α} (hm : m ∈ l)
    (htop : ∀ a ∈ l, value a < value m ∨ (value a = value m ∧ index m ≤ index a)) :
    l.argmax value = some m := by
  refine List.argmax_eq_some_iff.mpr ⟨hm, fun a ha => ?_, fun a ha hle => ?_⟩
  · have := htop a ha
    omega
  · by_contra! hidx
    have hlt : index a < index m := by
      simpa using List.pairwise_iff_getElem.mp hl _ _ (List.idxOf_lt_length_of_mem ha)
        (List.idxOf_lt_length_of_mem hm) hidx
    have := htop a ha
    omega

/-! ## The loop that crosses (R135) -/

section crossing
variable (s : State) (k : Fin 16) (own threshold : Int)

theorem State.mem_testingLoops {j : Fin 16} : j ∈ s.testingLoops ↔ (s.loop j).state = .testing := by
  simp only [testingLoops, loopIds, List.mem_filter, List.mem_finRange, true_and, beq_iff_eq]

theorem State.testingLoops_ascending : s.testingLoops.Pairwise (· < ·) :=
  (List.pairwise_lt_finRange 16).filter _

/-- A loop with its rise, where the rise lets it be the j of a CROSSED verdict on loop k (R135). -/
def State.crossingCandidate (j : Fin 16) : Option (Fin 16 × Int) :=
  (s.riseOf j).bind fun r => if j ≠ k ∧ own < r ∧ threshold ≤ r then some (j, r) else none

theorem State.crossingCandidate_eq_some {i j : Fin 16} {r : Int} :
    s.crossingCandidate k own threshold i = some (j, r) ↔
      i = j ∧ s.riseOf j = some r ∧ j ≠ k ∧ own < r ∧ threshold ≤ r := by
  simp only [crossingCandidate, Option.bind_eq_some_iff, Option.ite_none_right_eq_some,
    Option.some.injEq, Prod.mk.injEq]
  constructor
  · rintro ⟨_, hrise, hfits, rfl, rfl⟩
    exact ⟨rfl, hrise, hfits⟩
  · rintro ⟨rfl, hrise, hfits⟩
    exact ⟨r, hrise, hfits, rfl, rfl⟩

/-- The candidates of the TESTING loops, in ascending index. -/
def State.crossingCandidates : List (Fin 16 × Int) :=
  s.testingLoops.filterMap (s.crossingCandidate k own threshold)

theorem State.mem_crossingCandidates {j : Fin 16} {r : Int} :
    (j, r) ∈ s.crossingCandidates k own threshold ↔
      j ≠ k ∧ (s.loop j).state = .testing ∧ s.riseOf j = some r ∧ own < r ∧ threshold ≤ r := by
  simp only [crossingCandidates, List.mem_filterMap, mem_testingLoops, crossingCandidate_eq_some]
  constructor
  · rintro ⟨_, htesting, rfl, hrise, hne, hfits⟩
    exact ⟨hne, htesting, hrise, hfits⟩
  · rintro ⟨hne, htesting, hrise, hfits⟩
    exact ⟨j, htesting, rfl, hrise, hne, hfits⟩

theorem State.crossingCandidates_ascending :
    (s.crossingCandidates k own threshold).Pairwise (·.1 < ·.1) := by
  refine s.testingLoops_ascending.filterMap _ fun i j hij p hp q hq => ?_
  obtain ⟨rfl, -⟩ := (s.crossingCandidate_eq_some k own threshold).mp hp
  obtain ⟨rfl, -⟩ := (s.crossingCandidate_eq_some k own threshold).mp hq
  exact hij

/-- `betterCrossing` is the step of an argmax of the rise. -/
theorem betterCrossing_eq_argAux (best : Option (Fin 16 × Int)) (p : Fin 16 × Int) :
    betterCrossing best p.1 p.2 = List.argAux (fun b c => c.2 < b.2) best p := by
  cases best <;> rfl

/-- The scan of the TESTING loops finds the candidate of the largest rise. -/
theorem State.crossingOf_eq_argmax :
    s.crossingOf k own threshold = (s.crossingCandidates k own threshold).argmax Prod.snd := by
  rw [crossingOf, crossingCandidates, List.argmax, List.foldl_filterMap]
  congr 1
  funext best j
  simp only [← betterCrossing_eq_argAux, crossingCandidate]
  cases s.riseOf j with
  | none => rfl
  | some r =>
    by_cases hfits : j ≠ k ∧ own < r ∧ threshold ≤ r
    · simp only [Option.bind_some, if_pos hfits]
    · simp only [Option.bind_some, if_neg hfits]

end crossing

/-! ## The verdicts (R135, R136) -/

section verdict
variable {s : State} {k : Fin 16} {own : Int}

theorem State.writeVerdict_of_rise_none (h : s.riseOf k = none) :
    s.writeVerdict k = s.setSweepResult k ⟨.noProbe, none, none⟩ := by
  simp only [writeVerdict, verdictOf, h]

theorem State.writeVerdict_of_rise_low (h : s.riseOf k = some own) (hlow : own < s.pattern.arg2) :
    s.writeVerdict k = s.setSweepResult k ⟨.noRise, some own, none⟩ := by
  simp only [writeVerdict, verdictOf, h, if_pos hlow]

theorem State.writeVerdict_of_crossing_none (h : s.riseOf k = some own)
    (hrose : (s.pattern.arg2 : Int) ≤ own) (hnone : s.crossingOf k own s.pattern.arg2 = none) :
    s.writeVerdict k = s.setSweepResult k ⟨.confirmed, some own, none⟩ := by
  simp only [writeVerdict, verdictOf, h, if_neg (not_lt.mpr hrose), hnone]

theorem State.writeVerdict_of_crossing {j : Fin 16} {r : Int} (h : s.riseOf k = some own)
    (hrose : (s.pattern.arg2 : Int) ≤ own)
    (hcrossing : s.crossingOf k own s.pattern.arg2 = some (j, r)) :
    s.writeVerdict k = (s.setSweepResult k ⟨.crossed, some own, some j⟩).raise .crossed
      (some k.val) (some (j.val : Int)) := by
  simp only [writeVerdict, verdictOf, h, if_neg (not_lt.mpr hrose), hcrossing]

end verdict

/-! ## The statement -/

/-- The reading of a TESTING loop is its loop return (R134, R46). -/
theorem State.readReturns_of_testing {s : State} {j : Fin 16} (h : (s.loop j).state = .testing) :
    s.readReturns[j] = s.loopReturn j := by
  simp [readReturns, h]

/-- Settles O51: each verdict from its equation of `writeVerdict`, the crossing loop as the argmax of the
rise over the candidates. -/
theorem verdictFormed : Obligations.VerdictFormed := by
  intro s k hk rise qualifies
  have hrise : ∀ j, (s.loop j).state = .testing → s.riseOf j = rise j := by
    intro j hj
    simp only [State.riseOf, State.readReturns_of_testing hj, rise]
    cases s.loopReturn j <;> cases s.pattern.snapshot[j] <;> rfl
  have hqualifies : ∀ j own r, qualifies j own r ↔
      (j, r) ∈ s.crossingCandidates k own s.pattern.arg2 := by
    intro j own r
    rw [State.mem_crossingCandidates]
    exact and_congr_right fun _ => and_congr_right fun hj => by rw [hrise j hj]
  rw [← hrise k hk]
  refine ⟨State.writeVerdict_of_rise_none, fun own hown =>
    ⟨State.writeVerdict_of_rise_low hown, fun hrose => ⟨fun hnone => ?_, fun j r hj htop => ?_⟩⟩⟩
  · refine State.writeVerdict_of_crossing_none hown hrose ?_
    rw [State.crossingOf_eq_argmax, List.argmax_eq_none, List.eq_nil_iff_forall_not_mem]
    exact fun p hp => hnone p.1 p.2 ((hqualifies ..).mpr hp)
  · refine State.writeVerdict_of_crossing (r := r) hown hrose ?_
    rw [State.crossingOf_eq_argmax]
    refine argmax_of_ascending (s.crossingCandidates_ascending k own _) ((hqualifies ..).mp hj) ?_
    exact fun p hp => htop p.1 p.2 ((hqualifies ..).mpr hp)

end Sys2Proof.Machine
end

section
/-! PROOFS. What a command can do once the transmissions that were due have begun: `RequestBody` says which
requests there are, `State.Event` lists the events of the part, and `exec_events` says that every command
is made of them. -/

namespace Sys2Proof.Machine

open Sys2Proof

/-! ## The requests (R143, R145) -/

/-- What the responder carries out for a setup request. -/
inductive RequestBody : (State → Reply) → Prop
  | read (table index field : Nat) : RequestBody (State.readField table index field)
  | write (target : WriteTarget) (index : Nat) (v : Int) : RequestBody (State.writeAt target index v)
  | writeField (table index field : Nat) (v : Int) : RequestBody (State.writeField table index field v)
  | enable (loop : Nat) : RequestBody fun s => withIndex 16 loop s State.enableLoop
  | disable (loop : Nat) : RequestBody fun s => withIndex 16 loop s State.disableLoop
  | setMode (requested : Nat) : RequestBody (State.setMode requested)
  | startPattern (request : PatternRequest) : RequestBody (State.startPattern request)
  | stopPattern : RequestBody State.stopPattern
  | setLock (value : Nat) : RequestBody (State.setLock value)
  | takeNotice : RequestBody State.takeNotice
  | readStatus : RequestBody State.readStatus
  | restart : RequestBody State.restartRequest

/-- Each command that is a setup request has a body, and is taken under its own code by the lock's rule. -/
theorem exec_request {c : Instr} {src code : Byte} (h : c.request = some (src, code)) :
    ∃ body, RequestBody body ∧ ∀ s, exec c s =
      .next (s.beginAll.takeRequest src code (!openUnderLock code) body) := by
  cases c <;> simp only [Instr.request, reduceCtorEq, Option.some.injEq, Prod.mk.injEq] at h <;>
    obtain ⟨rfl, rfl⟩ := h
  case readField => exact ⟨_, .read .., fun _ => rfl⟩
  case writeField => exact ⟨_, .writeField .., fun _ => rfl⟩
  case loopStaticFieldWrite => exact ⟨_, .write (.loopStatic _) .., fun _ => rfl⟩
  case loopRoomWrite => exact ⟨_, .write .loopRoom .., fun _ => rfl⟩
  case shareWrite => exact ⟨_, .write (.share _) .., fun _ => rfl⟩
  case levelWrite => exact ⟨_, .write (.priority _) .., fun _ => rfl⟩
  case floorClassWrite => exact ⟨_, .write (.floorClass _) .., fun _ => rfl⟩
  case profileWrite => exact ⟨_, .write (.profile _) .., fun _ => rfl⟩
  case roomFieldWrite => exact ⟨_, .write (.room _) .., fun _ => rfl⟩
  case unitAddressWrite => exact ⟨_, .write .unitAddress .., fun _ => rfl⟩
  case probeFieldWrite => exact ⟨_, .write (.probe _) .., fun _ => rfl⟩
  case probeValidWrite => exact ⟨_, .write .probeValid .., fun _ => rfl⟩
  case probeStaleTimeWrite => exact ⟨_, .write (.general .probeStaleTime) 0 _, fun _ => rfl⟩
  case faultStaleTimeWrite => exact ⟨_, .write (.general .faultStaleTime) 0 _, fun _ => rfl⟩
  case roomStaleTimeWrite => exact ⟨_, .write (.general .roomStaleTime) 0 _, fun _ => rfl⟩
  case fdefWrite => exact ⟨_, .write (.general .fdef) 0 _, fun _ => rfl⟩
  case supplyStaleTimeWrite => exact ⟨_, .write (.general .supplyStaleTime) 0 _, fun _ => rfl⟩
  case supplySourceAddressWrite => exact ⟨_, .write (.general .supplySource) 0 _, fun _ => rfl⟩
  case manualShedLevelWrite => exact ⟨_, .write (.general .manualShedLevel) 0 _, fun _ => rfl⟩
  case cycleLengthWrite => exact ⟨_, .write (.general .cycleLength) 0 _, fun _ => rfl⟩
  case overflowPolicyWrite => exact ⟨_, .write (.general (.overflowPolicy _)) 0 _, fun _ => rfl⟩
  case directionDefaultWrite => exact ⟨_, .write (.general (.directionDefault _)) 0 _, fun _ => rfl⟩
  case noticeAddressWrite => exact ⟨_, .write (.general .noticeAddress) 0 _, fun _ => rfl⟩
  case counterWrite => exact ⟨_, .write (.counter _) .., fun _ => rfl⟩
  case ruleFieldWrite => exact ⟨_, .write (.rule _) .., fun _ => rfl⟩
  case hitsWrite => exact ⟨_, .write .hits .., fun _ => rfl⟩
  case enableLoop => exact ⟨_, .enable _, fun _ => rfl⟩
  case disableLoop => exact ⟨_, .disable _, fun _ => rfl⟩
  case setMode => exact ⟨_, .setMode _, fun _ => rfl⟩
  case startPattern => exact ⟨_, .startPattern _, fun _ => rfl⟩
  case stopPattern => exact ⟨_, .stopPattern, fun _ => rfl⟩
  case setLock => exact ⟨_, .setLock _, fun _ => rfl⟩
  case takeNotice => exact ⟨_, .takeNotice, fun _ => rfl⟩
  case readStatus => exact ⟨_, .readStatus, fun _ => rfl⟩
  case restartRequest => exact ⟨_, .restart, fun _ => rfl⟩

/-- A request read from the bytes of a telegram has one of the same bodies. -/
theorem requestBody_carryOut (request : SetupRequest) : RequestBody (State.carryOut request) := by
  cases request
  case readField => exact .read ..
  case writeField => exact .writeField ..
  case enableLoop => exact .enable _
  case disableLoop => exact .disable _
  case setMode => exact .setMode _
  case startPattern => exact .startPattern _
  case stopPattern => exact .stopPattern
  case setLock => exact .setLock _
  case takeNotice => exact .takeNotice
  case readStatus => exact .readStatus
  case restart => exact .restart

/-! ## The events -/

/-- The part after what a SUPPLY REPORT brings once the filter has passed it (R51, R73). -/
def State.supplyRead (s : State) (t : Telegram) : State :=
  let read := s.supply.report s.now (signedAt t.data 0) (unsignedAt t.data 2) (byteAt t.data 4)
  if read.allowance ≠ s.supply.allowance ∨ read.source ≠ s.supply.source ∨ s.supply.stale then
    { s with supply := read }.recompute
  else { s with supply := read }

theorem State.readSupplyReport_eq (s : State) (t : Telegram) :
    s.readSupplyReport t = if s.supplyFilter t.src.toNat then s.supplyRead t else s.countUnmatched .h :=
  rfl

/-- One event of the part, each with the condition under which it comes. -/
inductive State.Event (s : State) : State → Prop
  | counted (p : PortId) (f : Counters → Counters) : s.Event (s.updCounters p f)
  | raised (k : NoticeKind) (n : Option Nat) (v : Option Int) : s.Event (s.raise k n v)
  | answered (src code : Byte) (o : AnswerCode) (content : List Byte) :
      s.Event (s.putAnswer src code o content)
  | written (target : WriteTarget) (index : Nat) (v : Int) : s.Event (s.writeAt target index v).part
  | enabled (i : Fin 16) (h : s.enableFails i = none) : s.Event (s.enable i)
  | disabled (i : Fin 16) (hm : s.mode = .passive ∨ s.mode = .active)
      (h : (s.loop i).enabled = true) : s.Event (s.disable i)
  | started (hm : s.mode = .passive) : s.Event s.start
  | halted (hm : s.mode = .active) : s.Event s.beginHalting
  | identified (loop : Nat) (a b toggles interval : Nat)
      (h : s.patternFails (.identify loop a b) = none) :
      s.Event (s.startIdentify (Fin.ofNat 16 loop) toggles interval)
  | swept (a b dwell threshold : Nat) (h : s.patternFails (.sweep a b) = none) :
      s.Event (s.startSweep dwell threshold)
  | stopped (hm : s.mode = .test) (h : ¬(s.pattern.stage = .idle ∨ s.pattern.stage = .windingDown)) :
      s.Event (s.endPattern .stopped)
  | locked (b : Bool) : s.Event { s with lock := b }
  | noticeTaken : s.Event { s with notices := { s.notices with
      entries := s.notices.entries.eraseP fun e => !e.inTransmission, overflow := false } }
  | ruleApplied (r : Fin 24) : s.Event (s.setRule r (s.rule r).applied)
  | forwarded (p : PortId) (t : Telegram) : s.Event (s.placeForward p t)
  | roomRead (r : Fin 12) (measured setpoint : Int) (mode : Nat) :
      s.Event (s.updRoom r fun k => k.report s.now measured setpoint mode)
  | called (r : Fin 12) (call : Bool) : s.Event (s.updRoom r fun k => { k with call := call })
  | supplied (t : Telegram) : s.Event (s.supplyRead t)
  | sampled (e : Fin 32) (sample : Int) (h : (s.probe e).valid = true) : s.Event (s.takeSample e sample)
  | echoed (i : Fin 16) (a : Action) (c : Condition) (h : (s.loop i).accepts a = true) :
      s.Event (s.takeEcho i a c)
  | answerSent (t : Telegram) (h : s.portH.tx = some (.answer t)) : s.Event s.completeAnswer
  | forwardSent (p : PortId) (t : Telegram) (o : Bool) (h : (s.port p).tx = some (.forward t o)) :
      s.Event (s.freeTx p)
  | noticeSent (t : Telegram) (h : s.portH.tx = some (.notice t)) :
      s.Event { s.freeTx .h with notices := s.notices.complete s.now }
  | orderSent (i : Fin 16) (a : Action) (t : Telegram) (o : Bool)
      (h : s.portM.tx = some (.headOrder i a t o)) : s.Event (s.completeHeadOrder i a o)
  | timedOut (i : Fin 16) (a : Action) (h : (s.loop i).head.sentAction = some a)
      (hd : s.echoTimeoutDue i = true) : s.Event (s.timeout i a)
  | boundary (i : Fin 16) (h : s.boundaryDue i = true) : s.Event (s.boundary i)
  | boundaryPassed (i : Fin 16) :
      s.Event (s.updLoop i fun l => { l with lastBoundary := some s.now })
  | onTimeOver (i : Fin 16) (h : s.onTimeDue i = true) :
      s.Event ((s.updLoop i fun l => { l with openPhase := false }).want i (s.closingAction i) false)
  | settleOver (i : Fin 16) (h : s.settleDue i = true) :
      s.Event (s.updLoop i fun l => { l with settle := .settled })
  | roomStale (r : Fin 12) : s.Event (s.roomStale r)
  | probeStale (e : Fin 32) (h : s.probeStaleDue e = true) : s.Event (s.probeStale e)
  | probeFault (e : Fin 32) (h : s.probeFaultDue e = true) : s.Event (s.probeFault e)
  | reportTempOver : s.Event { s with supply := { s.supply with young := false } }
  | supplyStale : s.Event s.supplyStale
  | spacingOver : s.Event { s with notices := { s.notices with spacingDue := none } }
  | openHalfOver (k : Fin 16) (hk : s.pattern.subject = some k)
      (h : s.stageDue .identify .openHalf = true) :
      s.Event (s.driveStage .closing k (s.closingAction k))
  | closedHalfOver (k : Fin 16) (hk : s.pattern.subject = some k)
      (h : s.stageDue .identify .closedHalf = true) : s.Event (s.toggleDone k)
  | clearingOver (h : s.stageDue .sweep .clearing = true) : s.Event (s.nextTest fun _ => true)
  | dwellOver (k : Fin 16) (hk : s.pattern.subject = some k) (h : s.stageDue .sweep .dwell = true) :
      s.Event ((s.writeVerdict k).driveStage .closing k (s.closingAction k))
  | closeWaitOver (k : Fin 16) (hk : s.pattern.subject = some k)
      (h : s.stageDue .sweep .closeWait = true) :
      s.Event (s.nextTest fun i => decide (k.val < i.val))

/-- Events, one after the other. -/
def State.Events : State → State → Prop := Relation.ReflTransGen State.Event

theorem State.Events.refl (s : State) : s.Events s := Relation.ReflTransGen.refl
theorem State.Event.events {s t : State} (h : s.Event t) : s.Events t := Relation.ReflTransGen.single h
theorem State.Events.trans {s t u : State} (h : s.Events t) (g : t.Events u) : s.Events u :=
  Relation.ReflTransGen.trans h g
theorem State.Events.next {s t u : State} (h : s.Events t) (g : t.Event u) : s.Events u := h.tail g

/-- What every event keeps, events one after the other keep. -/
theorem State.Events.keep {P : State → Prop} {s t : State}
    (hP : ∀ s t, P s → s.Event t → P t) (h : s.Events t) (hs : P s) : P t := by
  induction h with
  | refl => exact hs
  | tail _ he ih => exact hP _ _ ih he

/-! ## Requests are events -/

theorem State.readField_part (table index field : Nat) (s : State) :
    (s.readField table index field).part = s := by
  unfold State.readField
  split
  · rfl
  · split
    · rfl
    · split <;> rfl

theorem State.writeField_part_events (table index field : Nat) (v : Int) (s : State) :
    s.Events (s.writeField table index field v).part := by
  unfold State.writeField
  split
  · exact .refl s
  · split
    · exact .refl s
    · split
      · exact .refl s
      · exact (State.Event.written ..).events

theorem State.enableLoop_events (i : Fin 16) (s : State) : s.Events (s.enableLoop i).part := by
  unfold State.enableLoop
  split
  · exact .refl s
  · exact (State.Event.enabled i ‹_›).events

theorem State.disableLoop_events (i : Fin 16) (s : State) : s.Events (s.disableLoop i).part := by
  unfold State.disableLoop
  split
  · exact .refl s
  · rename_i hm
    split
    · refine (State.Event.disabled i ?_ ‹_›).events
      cases hmode : s.mode <;> simp_all
    · exact .refl s

theorem State.setMode_events (requested : Nat) (s : State) : s.Events (s.setMode requested).part := by
  unfold State.setMode
  split
  · split
    · split <;> simp only [Reply.part_plain]
      · exact .refl s
      · exact (State.Event.started ‹_›).events
    all_goals exact .refl s
  · split
    · split <;> simp only [Reply.part_plain]
      · exact (State.Event.halted ‹_›).events
      all_goals exact .refl s
    · exact .refl s

theorem State.startPattern_events (request : PatternRequest) (s : State) :
    s.Events (s.startPattern request).part := by
  unfold State.startPattern
  split
  · exact .refl s
  · cases request <;> simp only [Reply.part_plain]
    case identify => exact (State.Event.identified _ _ _ _ _ ‹_›).events
    case sweep => exact (State.Event.swept _ _ _ _ ‹_›).events
    case other => exact .refl s

theorem State.stopPattern_events (s : State) : s.Events s.stopPattern.part := by
  unfold State.stopPattern
  split
  · split <;> simp only [Reply.part_plain]
    · exact .refl s
    · exact (State.Event.stopped ‹_› ‹_›).events
  all_goals exact .refl s

theorem State.setLock_events (value : Nat) (s : State) : s.Events (s.setLock value).part := by
  unfold State.setLock
  split
  · exact (State.Event.locked false).events
  · exact (State.Event.locked true).events
  · exact .refl s

theorem State.takeNotice_events (s : State) : s.Events s.takeNotice.part := by
  unfold State.takeNotice
  split
  · exact .refl s
  · split
    · exact .refl s
    · exact State.Event.noticeTaken.events

/-- An index outside its table leaves the part. -/
theorem withIndex_events {n index : Nat} {s : State} {body : Fin n → State → Reply}
    (h : ∀ i, s.Events (body i s).part) : s.Events (withIndex n index s body).part := by
  rcases withIndex_cases index s body with ⟨-, e⟩ | ⟨i, -, e⟩ <;> rw [e]
  · exact .refl s
  · exact h i

/-- The carrying out of a request leaves the part, or is one event. -/
theorem RequestBody.events {body : State → Reply} (h : RequestBody body) (s : State) :
    s.Events (body s).part := by
  cases h
  case read => rw [State.readField_part]; exact .refl s
  case write => exact (State.Event.written ..).events
  case writeField => exact State.writeField_part_events ..
  case enable => exact withIndex_events fun i => s.enableLoop_events i
  case disable => exact withIndex_events fun i => s.disableLoop_events i
  case setMode => exact s.setMode_events _
  case startPattern => exact s.startPattern_events _
  case stopPattern => exact s.stopPattern_events
  case setLock => exact s.setLock_events _
  case takeNotice => exact s.takeNotice_events
  case readStatus => exact .refl s
  case restart => exact .refl s

theorem State.countUnmatched_events (s : State) (p : PortId) : s.Events (s.countUnmatched p) :=
  (State.Event.counted ..).events

theorem State.countStray_events (s : State) (p : PortId) : s.Events (s.countStray p) :=
  (State.Event.counted ..).events

/-- A request taken is made of events. -/
theorem RequestBody.takeRequest_events {body : State → Reply} (h : RequestBody body) (s : State)
    (src code : Byte) (lockable : Bool) : s.Events (s.takeRequest src code lockable body) := by
  rcases s.takeRequest_cases src code lockable body with ⟨-, e⟩ | ⟨-, -, -, e⟩ | ⟨-, -, e⟩ <;> rw [e]
  · exact s.countUnmatched_events .h
  · exact (State.Event.answered ..).events
  · exact (h.events s).next (.answered ..)

/-! ## Telegrams are events (R106 to R110, R126) -/

theorem State.takeSetup_events (s : State) (t : Telegram) : s.Events (s.takeSetup t) := by
  unfold State.takeSetup
  split
  · rcases s.takeRequest_cases t.src (requestCode t.data) false (fun s => Reply.plain s .unknown) with
      ⟨-, e⟩ | ⟨-, -, -, e⟩ | ⟨-, -, e⟩ <;> rw [e]
    · exact s.countUnmatched_events .h
    · exact (State.Event.answered ..).events
    · exact (State.Event.answered ..).events
  · exact (requestBody_carryOut _).takeRequest_events s _ _ _

/-- The loop that accepts an echo is one that accepts it. -/
theorem State.accepts_of_acceptor {s : State} {address channel : Nat} {a : Action} {i : Fin 16}
    (h : s.acceptor address channel a = some i) : (s.loop i).accepts a = true := by
  have := List.find?_some h
  simp only [Bool.and_eq_true] at this
  exact this.2

theorem State.readEcho_events (s : State) (t : Telegram) : s.Events (s.readEcho t) := by
  unfold State.readEcho
  split
  · split
    · exact (State.Event.echoed _ _ _ (State.accepts_of_acceptor ‹_›)).events
    · exact s.countStray_events .m
  all_goals exact s.countStray_events .m

theorem State.consume_events (s : State) (p : PortId) (t : Telegram) : s.Events (s.consume p t) := by
  cases p
  · simp only [State.consume, State.consumeH]
    split
    · exact s.takeSetup_events t
    · split
      · split
        · exact .refl s
        · exact s.countStray_events .h
      · exact s.countUnmatched_events .h
  · simp only [State.consume, State.consumeM]
    split
    · split
      · exact .refl s
      · exact s.readEcho_events t
    · exact s.countUnmatched_events .m

theorem State.filter_events (s : State) (p : PortId) (t : Telegram) : s.Events (s.filter p t).1 := by
  unfold State.filter
  split
  · exact .refl s
  · split
    · unfold State.applyRule
      dsimp only
      split
      · exact (State.Event.ruleApplied _).events.next (.raised ..)
      · exact (State.Event.ruleApplied _).events
    · exact .refl s

theorem State.setCall_events (s : State) (i : Fin 16) (call : Bool) : s.Events (s.setCall i call) := by
  unfold State.setCall
  split
  · exact .refl s
  · split
    · exact .refl s
    · exact (State.Event.called ..).events

theorem State.readZoneOrder_events (s : State) (t : Telegram) : s.Events (s.readZoneOrder t) := by
  unfold State.readZoneOrder
  split
  · exact s.countUnmatched_events .h
  · split
    · exact s.setCall_events _ _
    · split
      · exact s.setCall_events _ _
      · exact s.countUnmatched_events .h

theorem State.readRoomReport_events (s : State) (t : Telegram) : s.Events (s.readRoomReport t) := by
  unfold State.readRoomReport
  split
  · exact s.countUnmatched_events .h
  · exact (State.Event.roomRead ..).events

theorem State.readSupplyReport_events (s : State) (t : Telegram) : s.Events (s.readSupplyReport t) := by
  rw [State.readSupplyReport_eq]
  split
  · exact (State.Event.supplied t).events
  · exact s.countUnmatched_events .h

/-- The entry on a channel is a valid one. -/
theorem State.valid_of_entryOn {s : State} {address channel : Nat} {e : Fin 32}
    (h : s.entryOn address channel = some e) : (s.probe e).valid = true := by
  have := List.find?_some h
  simp only [Bool.and_eq_true] at this
  exact this.1.1

theorem State.takePosition_events (t : Telegram) (s : State) (k : Nat) :
    s.Events (State.takePosition t s k) := by
  unfold State.takePosition
  split
  · exact (State.Event.sampled _ _ (State.valid_of_entryOn ‹_›)).events
  · exact .refl s

theorem State.takePositions_events (t : Telegram) (ks : List Nat) (s : State) :
    s.Events (ks.foldl (State.takePosition t) s) := by
  induction ks generalizing s with
  | nil => exact .refl s
  | cons k ks ih => exact (State.takePosition_events t s k).trans (ih _)

theorem State.readProbeReport_events (s : State) (t : Telegram) : s.Events (s.readProbeReport t) := by
  unfold State.readProbeReport
  dsimp only
  split
  · exact State.takePositions_events t _ s
  · exact s.countUnmatched_events .m

theorem State.intake_events (s : State) (p : PortId) (t : Telegram) : s.Events (s.intake p t) := by
  unfold State.intake
  split
  · exact .refl s
  · cases p
    · simp only [State.intakeH]
      split
      · exact s.readRoomReport_events t
      · split
        · exact s.readZoneOrder_events t
        · split
          · exact s.readSupplyReport_events t
          · exact .refl s
    · simp only [State.intakeM]
      split
      · exact s.readProbeReport_events t
      · exact .refl s

theorem State.passFilter_events (s : State) (p : PortId) (t : Telegram) :
    s.Events (s.passFilter p t) := by
  unfold State.passFilter State.carryDecisions
  refine (s.filter_events p t).trans ?_
  generalize s.filter p t = d
  have hforward : d.1.Events (if d.2.forwards then d.1.placeForward (opposite p) t else d.1) := by
    split
    · exact (State.Event.forwarded ..).events
    · exact .refl _
  dsimp only
  split
  · exact hforward.trans (State.intake_events _ p t)
  · exact hforward

theorem State.receive_events (s : State) (p : PortId) (t : Telegram) : s.Events (s.receive p t) := by
  unfold State.receive
  split
  · unfold State.takeDamaged
    dsimp only
    split
    · exact (State.Event.counted ..).events.next (.raised ..)
    · exact (State.Event.counted ..).events
  · unfold State.takeGood
    dsimp only
    refine State.Events.trans (State.Event.counted p (·.goodTelegram (telegramMalformed t))).events ?_
    split
    · exact State.consume_events _ p t
    · exact State.passFilter_events _ p t

/-! ## The inversion of exec and step -/

/-- A command that begins a transmission, and no other event. -/
def isBeginning : Instr → Bool
  | .transmissionBegin _ | .headOrderTransmissionBegin | .noticeTransmissionBegin => true
  | _ => false

/-- Everything a command can do that is neither POWER_ON nor a beginning: events, on the part as the
beginnings leave it. -/
theorem exec_events (c : Instr) (s : State) (hp : ∀ b, c ≠ .powerOn b) (hb : isBeginning c = false) :
    ∃ t, exec c s = .next t ∧ s.beginAll.Events t := by
  cases hr : c.request with
  | some r =>
    obtain ⟨body, hbody, hexec⟩ := exec_request hr
    exact ⟨_, hexec s, hbody.takeRequest_events _ _ _ _⟩
  | none =>
    cases c <;> simp only [Instr.request, reduceCtorEq, isBeginning, Bool.true_eq_false] at hr hb
    case powerOn b => exact absurd rfl (hp b)
    case telegramReceived p t => exact ⟨_, rfl, s.beginAll.receive_events p t⟩
    case answerTransmissionComplete =>
      show ∃ t, execAnswerTransmissionComplete s = _ ∧ _
      unfold execAnswerTransmissionComplete
      dsimp only
      split
      · exact ⟨_, rfl, (State.Event.answerSent _ ‹_›).events⟩
      all_goals exact ⟨_, rfl, .refl _⟩
    case forwardTransmissionComplete p =>
      show ∃ t, execForwardTransmissionComplete p s = _ ∧ _
      unfold execForwardTransmissionComplete
      dsimp only
      split
      · split
        · exact ⟨_, rfl, (State.Event.forwardSent p _ _ ‹_›).events⟩
        · exact ⟨_, rfl, (State.Event.forwardSent p _ _ ‹_›).events.next (.counted ..)⟩
      all_goals exact ⟨_, rfl, .refl _⟩
    case noticeTransmissionComplete =>
      show ∃ t, execNoticeTransmissionComplete s = _ ∧ _
      unfold execNoticeTransmissionComplete
      dsimp only
      split
      · exact ⟨_, rfl, (State.Event.noticeSent _ ‹_›).events⟩
      all_goals exact ⟨_, rfl, .refl _⟩
    case headOrderTransmissionComplete =>
      show ∃ t, execHeadOrderTransmissionComplete s = _ ∧ _
      unfold execHeadOrderTransmissionComplete
      dsimp only
      split
      · exact ⟨_, rfl, (State.Event.orderSent _ _ _ _ ‹_›).events⟩
      all_goals exact ⟨_, rfl, .refl _⟩
    case echoTimeout i =>
      show ∃ t, execEchoTimeout i s = _ ∧ _
      unfold execEchoTimeout
      dsimp only
      split
      · split
        · exact ⟨_, rfl, (State.Event.timedOut i _ ‹_› ‹_›).events⟩
        · exact ⟨_, rfl, .refl _⟩
      · exact ⟨_, rfl, .refl _⟩
    case loopBoundary i =>
      show ∃ t, execLoopBoundary i s = _ ∧ _
      unfold execLoopBoundary
      dsimp only
      split
      · exact ⟨_, rfl, (State.Event.boundary i ‹_›).events⟩
      · split
        · exact ⟨_, rfl, (State.Event.boundaryPassed i).events⟩
        · exact ⟨_, rfl, .refl _⟩
    case onTimeExpiry i =>
      show ∃ t, execOnTimeExpiry i s = _ ∧ _
      unfold execOnTimeExpiry
      dsimp only
      split
      · exact ⟨_, rfl, (State.Event.onTimeOver i ‹_›).events⟩
      · exact ⟨_, rfl, .refl _⟩
    case settleIntervalExpiry i =>
      show ∃ t, execSettleIntervalExpiry i s = _ ∧ _
      unfold execSettleIntervalExpiry
      dsimp only
      split
      · exact ⟨_, rfl, (State.Event.settleOver i ‹_›).events⟩
      · exact ⟨_, rfl, .refl _⟩
    case roomStaleExpiry r =>
      show ∃ t, execRoomStaleExpiry r s = _ ∧ _
      unfold execRoomStaleExpiry
      dsimp only
      split
      · exact ⟨_, rfl, (State.Event.roomStale r).events⟩
      · exact ⟨_, rfl, .refl _⟩
    case probeStaleExpiry e =>
      show ∃ t, execProbeStaleExpiry e s = _ ∧ _
      unfold execProbeStaleExpiry
      dsimp only
      split
      · exact ⟨_, rfl, (State.Event.probeStale e ‹_›).events⟩
      · exact ⟨_, rfl, .refl _⟩
    case probeFaultExpiry e =>
      show ∃ t, execProbeFaultExpiry e s = _ ∧ _
      unfold execProbeFaultExpiry
      dsimp only
      split
      · exact ⟨_, rfl, (State.Event.probeFault e ‹_›).events⟩
      · exact ⟨_, rfl, .refl _⟩
    case reportTemperatureExpiry =>
      show ∃ t, execReportTemperatureExpiry s = _ ∧ _
      unfold execReportTemperatureExpiry
      dsimp only
      split
      · exact ⟨_, rfl, State.Event.reportTempOver.events⟩
      · exact ⟨_, rfl, .refl _⟩
    case supplyStaleExpiry =>
      show ∃ t, execSupplyStaleExpiry s = _ ∧ _
      unfold execSupplyStaleExpiry
      dsimp only
      split
      · exact ⟨_, rfl, State.Event.supplyStale.events⟩
      · exact ⟨_, rfl, .refl _⟩
    case spacingIntervalExpiry =>
      show ∃ t, execSpacingIntervalExpiry s = _ ∧ _
      unfold execSpacingIntervalExpiry
      dsimp only
      split
      · exact ⟨_, rfl, State.Event.spacingOver.events⟩
      · exact ⟨_, rfl, .refl _⟩
    case identifyHalfExpiry =>
      show ∃ t, execIdentifyHalfExpiry s = _ ∧ _
      unfold execIdentifyHalfExpiry
      dsimp only
      split
      · exact ⟨_, rfl, .refl _⟩
      · split
        · exact ⟨_, rfl, (State.Event.openHalfOver _ ‹_› ‹_›).events⟩
        · split
          · exact ⟨_, rfl, (State.Event.closedHalfOver _ ‹_› ‹_›).events⟩
          · exact ⟨_, rfl, .refl _⟩
    case clearingExpiry =>
      show ∃ t, execClearingExpiry s = _ ∧ _
      unfold execClearingExpiry
      dsimp only
      split
      · exact ⟨_, rfl, (State.Event.clearingOver ‹_›).events⟩
      · exact ⟨_, rfl, .refl _⟩
    case dwellExpiry =>
      show ∃ t, execDwellExpiry s = _ ∧ _
      unfold execDwellExpiry
      dsimp only
      split
      · exact ⟨_, rfl, .refl _⟩
      · split
        · exact ⟨_, rfl, (State.Event.dwellOver _ ‹_› ‹_›).events⟩
        · exact ⟨_, rfl, .refl _⟩
    case closeWaitExpiry =>
      show ∃ t, execCloseWaitExpiry s = _ ∧ _
      unfold execCloseWaitExpiry
      dsimp only
      split
      · exact ⟨_, rfl, .refl _⟩
      · split
        · exact ⟨_, rfl, (State.Event.closeWaitOver _ ‹_› ‹_›).events⟩
        · exact ⟨_, rfl, .refl _⟩

/-- Beginnings at the transmitters, one after the other: what begins at a port, a notice or a head order. -/
inductive State.Begun : State → State → Prop
  | transmission (s : State) (p : PortId) : s.Begun (s.beginTransmission p)
  | notice (s : State) : s.Begun s.beginNotice
  | headOrder (s : State) : s.Begun s.beginHeadOrder

/-- What every beginning keeps, the beginnings together keep. -/
theorem State.beginAll_keep {P : State → Prop} (hP : ∀ s t, P s → State.Begun s t → P t) {s : State}
    (h : P s) : P s.beginAll :=
  hP _ _ (hP _ _ (hP _ _ (hP _ _ h (.transmission s .h)) (.notice _)) (.headOrder _))
    (.transmission _ .m)

/-- A law of the part that every kind of change keeps. -/
structure State.Law (P : State → Prop) : Prop where
  queued : ∀ s q, P s → P { s with pending := q }
  poweredOn : ∀ straps q, P { State.reset with strap := straps, pending := q }
  begun : ∀ s t, P s → s.Begun t → P t
  event : ∀ s t, P s → s.Event t → P t
  ticked : ∀ s, P s → P s.tick

/-- What each kind of change keeps, every command keeps. -/
theorem State.Law.exec {P : State → Prop} (h : State.Law P) {c : Instr} {s t : State} (hs : P s)
    (he : exec c s = .next t) : P t := by
  by_cases hp : ∃ b, c = .powerOn b
  · obtain ⟨b, rfl⟩ := hp
    cases he
    exact h.poweredOn b _
  · cases hb : isBeginning c
    · obtain ⟨u, hu, hevents⟩ := exec_events c s (fun b e => hp ⟨b, e⟩) hb
      obtain rfl : t = u := by rw [he] at hu; injection hu
      exact hevents.keep h.event (State.beginAll_keep h.begun hs)
    · cases c <;> simp only [isBeginning, Bool.false_eq_true] at hb <;> cases he
      · exact h.begun _ _ hs (.transmission ..)
      · exact h.begun _ _ hs (.headOrder _)
      · exact h.begun _ _ hs (.notice _)

/-- What each kind of change keeps, every step keeps. -/
theorem State.Law.step {P : State → Prop} (h : State.Law P) {s t : State} (hs : P s)
    (he : step s = .next t) : P t := by
  unfold Machine.step at he
  split at he
  · cases he
    unfold State.idle
    split
    · exact State.beginAll_keep h.begun hs
    · split
      · exact hs
      · exact h.ticked s hs
  · exact h.exec (h.queued s _ hs) he

end Sys2Proof.Machine
end

section
/-! PROOFS. The changes that leave the configuration, the rooms, the probes, the supply record and the rules
alone: `State.RunStep` says it once, and each event of the drive, of a pattern or of the traffic is one. -/

namespace Sys2Proof.Machine

open Sys2Proof

/-- t differs from s in modes, loop records, lists, ports, the pattern, the answer and the notices only, and
every loop keeps its settings. -/
def State.RunStep (s t : State) : Prop :=
  t = { s with
    mode := t.mode, lock := t.lock, t0 := t.t0, loops := t.loops, alloc := t.alloc
    orders := t.orders, waits := t.waits, portH := t.portH, portM := t.portM
    pattern := t.pattern, sweep := t.sweep, answer := t.answer, notices := t.notices } ∧
  ∀ j, (s.loop j).SameSettings (t.loop j)

theorem State.RunStep.refl (s : State) : s.RunStep s := ⟨rfl, fun _ => Loop.SameSettings.refl _⟩

theorem State.RunStep.trans {s t u : State} (h : s.RunStep t) (g : t.RunStep u) : s.RunStep u := by
  refine ⟨?_, fun j => (h.2 j).trans (g.2 j)⟩
  rw [g.1, h.1]

theorem State.DriveStep.run {s t : State} (h : s.DriveStep t) : s.RunStep t := by
  refine ⟨?_, h.2⟩
  rw [h.1]

/-- A change that leaves the loop records too is a run step. -/
theorem State.runStep_of_loops {s t : State}
    (h : t = { s with
      mode := t.mode, lock := t.lock, t0 := t.t0, alloc := t.alloc
      orders := t.orders, waits := t.waits, portH := t.portH, portM := t.portM
      pattern := t.pattern, sweep := t.sweep, answer := t.answer, notices := t.notices }) :
    s.RunStep t := by
  have hloops : t.loops = s.loops := by rw [h]
  refine ⟨by rw [hloops]; exact h, fun j => ?_⟩
  rw [State.loop, State.loop, hloops]
  exact Loop.SameSettings.refl _

theorem State.StageStep.run {s t : State} (h : s.StageStep t) : s.RunStep t := by
  obtain ⟨u, hu, ht⟩ := h
  refine hu.run.trans (State.runStep_of_loops ?_)
  rw [ht]

section fields

variable {s t : State} (h : s.RunStep t)
include h

theorem State.RunStep.now : t.now = s.now := by rw [h.1]
theorem State.RunStep.pending : t.pending = s.pending := by rw [h.1]
theorem State.RunStep.strap : t.strap = s.strap := by rw [h.1]
theorem State.RunStep.general : t.general = s.general := by rw [h.1]
theorem State.RunStep.classes : t.classes = s.classes := by rw [h.1]
theorem State.RunStep.profiles : t.profiles = s.profiles := by rw [h.1]
theorem State.RunStep.rooms : t.rooms = s.rooms := by rw [h.1]
theorem State.RunStep.probes : t.probes = s.probes := by rw [h.1]
theorem State.RunStep.supply : t.supply = s.supply := by rw [h.1]
theorem State.RunStep.rules : t.rules = s.rules := by rw [h.1]
theorem State.RunStep.settings (j : Fin 16) : (s.loop j).SameSettings (t.loop j) := h.2 j

end fields

/-! ## The operations -/

theorem State.updLoop_runStep (s : State) (i : Fin 16) (f : Loop → Loop)
    (h : ∀ l, Loop.SameSettings l (f l)) : s.RunStep (s.updLoop i f) := (s.updLoop_driveStep i f h).run

theorem State.setPort_runStep (s : State) (p : PortId) (k : Port) : s.RunStep (s.setPort p k) := by
  cases p <;> exact State.runStep_of_loops rfl

theorem State.raise_runStep (s : State) (k : NoticeKind) (n : Option Nat) (v : Option Int) :
    s.RunStep (s.raise k n v) := (s.raise_driveStep k n v).run

theorem State.placeForward_runStep (s : State) (p : PortId) (t : Telegram) :
    s.RunStep (s.placeForward p t) := by
  unfold State.placeForward
  split
  · exact s.setPort_runStep p _
  · exact (s.setPort_runStep p _).trans (State.raise_runStep _ _ _ _)

theorem State.checkHalting_runStep (s : State) : s.RunStep s.checkHalting := by
  rcases s.checkHalting_cases with e | ⟨-, -, e⟩ <;> rw [e]
  · exact .refl s
  · exact State.runStep_of_loops rfl

theorem State.checkWindDown_runStep (s : State) : s.RunStep s.checkWindDown := by
  rcases s.checkWindDown_cases with e | ⟨-, -, n, e⟩ <;> rw [e]
  · exact .refl s
  · exact State.runStep_of_loops rfl

theorem State.patternSettle_runStep (s : State) : s.RunStep s.patternSettle := by
  rw [s.patternSettle_pattern]
  exact State.runStep_of_loops rfl

theorem State.afterHeadEvent_runStep (s : State) : s.RunStep s.afterHeadEvent :=
  (s.patternSettle_runStep.trans (State.checkHalting_runStep _)).trans (State.checkWindDown_runStep _)

theorem Loop.goodEcho_sameSettings (l : Loop) : l.SameSettings l.goodEcho := by
  simp [Loop.SameSettings, Loop.enabled, Loop.goodEcho]

theorem State.takeEcho_runStep (s : State) (i : Fin 16) (a : Action) (c : Condition) :
    s.RunStep (s.takeEcho i a c) := by
  have hgood : s.DriveStep (if (s.loop i).head == a.sent then
      ((s.confirm i a).updLoop i Loop.goodEcho).clearSilent i else s.confirm i a) := by
    split
    · exact ((s.confirm_driveStep i a).trans
        (State.updLoop_driveStep _ i _ Loop.goodEcho_sameSettings)).trans (State.clearSilent_driveStep _ i)
    · exact s.confirm_driveStep i a
  unfold State.takeEcho
  exact ((hgood.trans (State.damageBy_driveStep _ i c)).trans
    (State.placeDiffering_driveStep _ i a)).run.trans (State.afterHeadEvent_runStep _)

theorem State.timeout_runStep (s : State) (i : Fin 16) (a : Action) : s.RunStep (s.timeout i a) := by
  have hcount : s.DriveStep ((s.setHead i a.silent).updLoop i fun l =>
      { l with echoDue := none, misses := satInc l.misses, goodRun := 0 }) :=
    (s.setHead_driveStep i _).trans
      (State.updLoop_driveStep _ i _ fun _ => by simp [Loop.SameSettings, Loop.enabled])
  unfold State.timeout
  dsimp only
  refine (State.DriveStep.run ?_).trans (State.afterHeadEvent_runStep _)
  refine State.DriveStep.trans ?_ (State.placeDiffering_driveStep _ i a)
  split
  · exact hcount.trans (State.addCause_driveStep _ i _)
  · exact hcount

theorem State.orderSent_driveStep (s : State) (i : Fin 16) (a : Action) :
    s.DriveStep (s.orderSent i a) := by
  have hsent : s.DriveStep ((s.setHead i a.sent).updLoop i fun l =>
      { l with echoDue := some (s.now + Config.echoTimeout) }) :=
    (s.setHead_driveStep i _).trans
      (State.updLoop_driveStep _ i _ fun _ => by simp [Loop.SameSettings, Loop.enabled])
  cases a
  · exact hsent.trans (State.grantSlot_driveStep _)
  · exact hsent

theorem State.completeHeadOrder_runStep (s : State) (i : Fin 16) (a : Action) (o : Bool) :
    s.RunStep (s.completeHeadOrder i a o) := by
  unfold State.completeHeadOrder
  dsimp only
  refine State.RunStep.trans ?_
    ((State.checkHalting_runStep _).trans (State.checkWindDown_runStep _))
  split
  · exact s.setPort_runStep .m _
  · exact (s.setPort_runStep .m _).trans (State.orderSent_driveStep _ i a).run

theorem State.haltingWork_driveStep (s : State) (i : Fin 16) : s.DriveStep (s.haltingWork i) := by
  unfold State.haltingWork
  split
  · exact s.balance_driveStep i
  · exact s.updLoop_driveStep i _ Loop.emptyAcc_sameSettings

/-- A record that stays enabled, or stays out, and changes no setting. -/
theorem Loop.leaveCycle_sameSettings (l : Loop) : l.SameSettings l.leaveCycle := by
  simp [Loop.SameSettings, Loop.enabled, Loop.leaveCycle]

theorem Loop.noDuties_sameSettings (l : Loop) : l.SameSettings l.noDuties := by
  simp [Loop.SameSettings, Loop.enabled, Loop.noDuties]

/-- The state of an enabled record may become any other in which it is enabled. -/
theorem Loop.sameSettings_of_state {l : Loop} {x : LoopState} (hl : l.enabled = true)
    (hx : x ≠ .disabled) (request grant : Nat) :
    l.SameSettings { l with state := x, request := request, grant := grant } := by
  have : (x != .disabled) = true := by simpa using hx
  unfold Loop.enabled at hl
  simp [Loop.SameSettings, Loop.enabled, hl, this]

/-- A loop that takes part in the drive is enabled. -/
theorem Loop.enabled_of_engaged {l : Loop} (h : l.engaged = true) : l.enabled = true := by
  unfold Loop.engaged at h
  unfold Loop.enabled
  cases hs : l.state <;> simp_all

/-- The record of a loop that has finished in HALTING mode (R103). -/
def Loop.halted (l : Loop) : Loop :=
  { l.noDuties.leaveCycle with state := .standby, request := 0, grant := 0 }

theorem Loop.halted_sameSettings {l : Loop} (h : l.enabled = true) : l.SameSettings l.halted :=
  (l.noDuties_sameSettings.trans (Loop.leaveCycle_sameSettings _)).trans
    (Loop.sameSettings_of_state (x := .standby) h (by decide) 0 0)

/-- What the work in HALTING mode does before the loop is halted. -/
def State.haltingWanted (s : State) (i : Fin 16) : State :=
  ((s.capture i).haltingWork i).want i .release false

theorem State.haltingBoundary_eq (s : State) (i : Fin 16) :
    s.haltingBoundary i = ((s.haltingWanted i).updLoop i Loop.halted).recompute.checkHalting := rfl

theorem State.haltingWanted_driveStep (s : State) (i : Fin 16) : s.DriveStep (s.haltingWanted i) :=
  ((s.capture_driveStep i).trans (State.haltingWork_driveStep _ i)).trans
    (State.want_driveStep _ i .release false)

theorem Loop.SameSettings.enabled {l k : Loop} (h : l.SameSettings k) : k.enabled = l.enabled := by
  obtain ⟨-, -, -, -, -, -, -, -, -, -, -, -, -, henabled⟩ := h
  exact henabled

theorem State.haltingBoundary_runStep (s : State) (i : Fin 16) (h : (s.loop i).enabled = true) :
    s.RunStep (s.haltingBoundary i) := by
  have hwork := s.haltingWanted_driveStep i
  rw [State.haltingBoundary_eq]
  refine (hwork.trans (State.DriveStep.trans (State.setLoop_driveStep _ i _ ?_)
    (State.recompute_driveStep _))).run.trans (State.checkHalting_runStep _)
  exact Loop.halted_sameSettings ((hwork.2 i).enabled.trans h)

theorem State.boundary_runStep (s : State) (i : Fin 16) (h : s.boundaryDue i = true) :
    s.RunStep (s.boundary i) := by
  have hen : (s.loop i).enabled = true := by
    simp only [State.boundaryDue, Bool.and_eq_true] at h
    exact Loop.enabled_of_engaged h.1.2
  have hnext : s.DriveStep (s.updLoop i fun l => { l with
      nextBoundary := l.nextBoundary.map (· + s.general.cycleLength), lastBoundary := some s.now }) :=
    s.updLoop_driveStep i _ fun _ => by simp [Loop.SameSettings, Loop.enabled]
  unfold State.boundary
  dsimp only
  split
  · refine hnext.run.trans (State.haltingBoundary_runStep _ i ?_)
    rw [State.loop_updLoop_self]
    exact hen
  · exact hnext.run.trans (State.activeBoundary_driveStep _ i).run

theorem State.want_updLoop_driveStep (s : State) (i : Fin 16) (f : Loop → Loop) (a : Action)
    (h : ∀ l, Loop.SameSettings l (f l)) : s.DriveStep ((s.updLoop i f).want i a false) :=
  (s.updLoop_driveStep i f h).trans (State.want_driveStep _ i a false)

theorem State.wantAll_driveStep (s : State) (f : State → Fin 16 → Action) (is : List (Fin 16)) :
    s.DriveStep (is.foldl (fun s i => s.want i (f s i) false) s) :=
  State.foldl_driveStep _ _ (fun s i => s.want_driveStep i _ false) s

theorem State.endPattern_runStep (s : State) (e : Ending) : s.RunStep (s.endPattern e) := by
  have hreleased : s.RunStep (s.testingLoops.foldl (fun s i => s.want i .release false)
      { s with pattern := { s.pattern with intervalDue := none } }) :=
    (State.runStep_of_loops (t := { s with pattern := { s.pattern with intervalDue := none } }) rfl).trans
      (State.wantAll_driveStep _ (fun _ _ => .release) _).run
  unfold State.endPattern
  dsimp only
  refine State.RunStep.trans ?_ (State.checkWindDown_runStep _)
  refine (hreleased.trans (State.DriveStep.run (State.mapLoops_driveStep _
    (fun _ l => if l.state = .testing then { l with state := .standby } else l) ?_))).trans
    (State.runStep_of_loops rfl)
  intro _ l
  split
  · exact Loop.sameSettings_of_state (by simp [Loop.enabled, *]) (by decide) l.request l.grant
  · exact .refl l

theorem State.setStage_runStep (s : State) (st : Stage) (k : Option (Fin 16)) :
    s.RunStep (s.setStage st k) := State.runStep_of_loops rfl

theorem State.nextTest_runStep (s : State) (f : Fin 16 → Bool) : s.RunStep (s.nextTest f) := by
  unfold State.nextTest
  split
  · exact (s.beginTest_stageStep _).run
  · exact s.endPattern_runStep _

theorem State.toggleDone_runStep (s : State) (k : Fin 16) : s.RunStep (s.toggleDone k) := by
  have hcount : s.RunStep { s with pattern :=
      { s.pattern with togglesDone := s.pattern.togglesDone + 1 } } := State.runStep_of_loops rfl
  unfold State.toggleDone
  dsimp only
  split
  · exact hcount.trans (State.driveStage_stageStep _ _ k _).run
  · exact hcount.trans (State.endPattern_runStep _ _)

theorem State.enterTest_runStep (s : State) : s.RunStep s.enterTest := by
  refine State.RunStep.trans (State.DriveStep.run (s.mapLoops_driveStep
    (fun _ l => if l.state = .standby then { l with state := .testing } else l) ?_))
    (State.runStep_of_loops rfl)
  intro _ l
  split
  · exact Loop.sameSettings_of_state (by simp [Loop.enabled, *]) (by decide) l.request l.grant
  · exact .refl l

theorem State.setPattern_runStep (s : State) (k : PatternKind) (a b c : Nat) :
    s.RunStep (s.setPattern k a b c) := State.runStep_of_loops rfl

theorem State.startIdentify_runStep (s : State) (k : Fin 16) (toggles interval : Nat) :
    s.RunStep (s.startIdentify k toggles interval) :=
  (s.enterTest_runStep.trans (State.setPattern_runStep _ _ _ _ _)).trans
    (State.driveStage_stageStep _ _ k _).run

theorem State.startSweep_runStep (s : State) (dwell threshold : Nat) :
    s.RunStep (s.startSweep dwell threshold) := by
  have hset : s.RunStep ((s.enterTest.setPattern .sweep dwell threshold 0).setStage .closingAll none) :=
    (s.enterTest_runStep.trans (State.setPattern_runStep _ _ _ _ _)).trans (State.setStage_runStep _ _ _)
  unfold State.startSweep
  dsimp only
  exact ((hset.trans (State.runStep_of_loops rfl)).trans
    (State.wantAll_driveStep _ State.closingAction _).run).trans (State.patternSettle_runStep _)

theorem State.writeVerdict_runStep (s : State) (k : Fin 16) : s.RunStep (s.writeVerdict k) := by
  unfold State.writeVerdict
  dsimp only
  split
  · exact (State.runStep_of_loops (t := s.setSweepResult k _) rfl).trans (State.raise_runStep _ _ _ _)
  · exact State.runStep_of_loops rfl

/-- A STANDBY record that START places keeps its settings. -/
theorem Loop.placed_sameSettings {l : Loop} (h : l.state = .standby) (r : Bool) (b : Nat) :
    l.SameSettings (l.placed r b) := by
  have hx : (if !l.causes.isEmpty then LoopState.fault else if r then .shed else .running) ≠ .disabled := by
    split
    · decide
    · split <;> decide
  simp only [Loop.SameSettings, Loop.placed, Loop.leaveCycle, Loop.enabled, h, true_and, imp_self]
  exact bne_iff_ne.mpr hx

theorem State.start_runStep (s : State) : s.RunStep s.start := by
  unfold State.start
  dsimp only
  refine State.RunStep.trans (State.RunStep.trans (State.RunStep.trans
    (State.runStep_of_loops (t := { s with mode := .active, t0 := some s.now }) rfl)
    (State.DriveStep.run (State.foldl_driveStep _ loopIds ?_ _)))
    (State.DriveStep.run (State.mapLoops_driveStep _ _ ?_))) (State.recompute_driveStep _).run
  · intro u i
    split
    · exact u.addProbeCause_driveStep i
    · exact .refl u
  · intro i l
    split
    · exact Loop.placed_sameSettings ‹_› _ _
    · exact .refl l

theorem State.beginHalting_runStep (s : State) : s.RunStep s.beginHalting :=
  (State.runStep_of_loops (t := { s with mode := .halting }) rfl).trans (State.checkHalting_runStep _)

/-- A beginning is a run step. -/
theorem State.BeginStep.run {s t : State} (h : s.BeginStep t) : s.RunStep t := by
  obtain ⟨_, _, _, _, _, _, _, _, _, rfl, -, hl⟩ := h
  refine ⟨rfl, fun j => ?_⟩
  obtain ⟨b, hb⟩ := hl j
  rw [hb]
  simp [Loop.SameSettings, Loop.enabled]

theorem State.Begun.beginStep {s t : State} (h : s.Begun t) : s.BeginStep t := by
  cases h with
  | transmission p => exact s.beginTransmission_step p
  | notice => exact s.beginNotice_step
  | headOrder => exact s.beginHeadOrder_step

/-- The passing of a second leaves the settings of every loop. -/
theorem State.loop_tick_sameSettings (s : State) (j : Fin 16) :
    (s.loop j).SameSettings (s.tick.loop j) := by
  have h : s.tick.loop j = (s.loop j).countOpen (s.openState j) := by
    show (s.mapLoops fun i l => l.countOpen (s.openState i)).loop j = _
    rw [State.loop_mapLoops]
  rw [h]
  unfold Loop.countOpen
  split
  · simp [Loop.SameSettings, Loop.enabled]
  · exact .refl _

/-! ## The events -/

/-- The events that write a table, move a loop in or out, read a report, let a stale time run out, or
restart the part. -/
inductive State.TableEvent (s : State) : State → Prop
  | written (target : WriteTarget) (index : Nat) (v : Int) :
      s.TableEvent (s.writeAt target index v).part
  | enabled (i : Fin 16) (h : s.enableFails i = none) : s.TableEvent (s.enable i)
  | disabled (i : Fin 16) : s.TableEvent (s.disable i)
  | ruleApplied (r : Fin 24) : s.TableEvent (s.setRule r (s.rule r).applied)
  | roomRead (r : Fin 12) (measured setpoint : Int) (mode : Nat) :
      s.TableEvent (s.updRoom r fun k => k.report s.now measured setpoint mode)
  | called (r : Fin 12) (call : Bool) : s.TableEvent (s.updRoom r fun k => { k with call := call })
  | supplied (t : Telegram) : s.TableEvent (s.supplyRead t)
  | sampled (e : Fin 32) (sample : Int) : s.TableEvent (s.takeSample e sample)
  | answerSent : s.TableEvent s.completeAnswer
  | roomStale (r : Fin 12) : s.TableEvent (s.roomStale r)
  | probeStale (e : Fin 32) : s.TableEvent (s.probeStale e)
  | probeFault (e : Fin 32) : s.TableEvent (s.probeFault e)
  | reportTempOver : s.TableEvent { s with supply := { s.supply with young := false } }
  | supplyStale : s.TableEvent s.supplyStale

/-- An event reaches no further than a run step, or is one of those on a table. -/
theorem State.Event.run_or_table {s t : State} (h : s.Event t) : s.RunStep t ∨ s.TableEvent t := by
  cases h
  case written => exact .inr (.written ..)
  case enabled i hi => exact .inr (.enabled i hi)
  case disabled i _ _ => exact .inr (.disabled i)
  case ruleApplied r => exact .inr (.ruleApplied r)
  case roomRead => exact .inr (.roomRead ..)
  case called => exact .inr (.called ..)
  case supplied x => exact .inr (.supplied x)
  case sampled e v _ => exact .inr (.sampled e v)
  case answerSent => exact .inr .answerSent
  case roomStale r => exact .inr (.roomStale r)
  case probeStale e _ => exact .inr (.probeStale e)
  case probeFault e _ => exact .inr (.probeFault e)
  case reportTempOver => exact .inr .reportTempOver
  case supplyStale => exact .inr .supplyStale
  case counted p f => exact .inl (s.setPort_runStep p _)
  case raised => exact .inl (s.raise_runStep _ _ _)
  case answered => exact .inl (State.runStep_of_loops rfl)
  case started => exact .inl s.start_runStep
  case halted => exact .inl s.beginHalting_runStep
  case identified => exact .inl (s.startIdentify_runStep _ _ _)
  case swept => exact .inl (s.startSweep_runStep _ _)
  case stopped => exact .inl (s.endPattern_runStep _)
  case locked => exact .inl (State.runStep_of_loops rfl)
  case noticeTaken => exact .inl (State.runStep_of_loops rfl)
  case forwarded => exact .inl (s.placeForward_runStep _ _)
  case echoed i a c _ => exact .inl (s.takeEcho_runStep i a c)
  case forwardSent p _ _ _ => exact .inl (s.setPort_runStep p _)
  case noticeSent => exact .inl (State.runStep_of_loops rfl)
  case orderSent i a x o _ => exact .inl (s.completeHeadOrder_runStep i a o)
  case timedOut i a _ _ => exact .inl (s.timeout_runStep i a)
  case boundary i hi => exact .inl (s.boundary_runStep i hi)
  case boundaryPassed i =>
    exact .inl (s.updLoop_runStep i _ fun _ => by simp [Loop.SameSettings, Loop.enabled])
  case onTimeOver i _ =>
    exact .inl (s.want_updLoop_driveStep i _ _ fun _ => by simp [Loop.SameSettings, Loop.enabled]).run
  case settleOver i _ =>
    exact .inl (s.updLoop_runStep i _ fun _ => by simp [Loop.SameSettings, Loop.enabled])
  case spacingOver => exact .inl (State.runStep_of_loops rfl)
  case openHalfOver k _ _ => exact .inl (s.driveStage_stageStep _ k _).run
  case closedHalfOver k _ _ => exact .inl (s.toggleDone_runStep k)
  case clearingOver => exact .inl (s.nextTest_runStep _)
  case dwellOver k _ _ =>
    exact .inl ((s.writeVerdict_runStep k).trans (State.driveStage_stageStep _ _ k _).run)
  case closeWaitOver => exact .inl (s.nextTest_runStep _)

end Sys2Proof.Machine
end

section
/-! PROOFS. What a table can take: `State.TableWrite` lists the changes of a record of a table with what each
write has checked, and every event is made of them and of run steps. -/

namespace Sys2Proof.Machine

open Sys2Proof

/-! ## The changes of a record -/

/-- The settings of a loop that decide which head and which room it is on. -/
def Loop.SamePlace (l k : Loop) : Prop :=
  k.room = l.room ∧ k.driverAddress = l.driverAddress ∧ k.headChannel = l.headChannel ∧
    k.enabled = l.enabled

/-- The part of a probe entry that decides what it measures. -/
def Probe.SameIdentity (p q : Probe) : Prop :=
  q.valid = p.valid ∧ q.moduleAddress = p.moduleAddress ∧ q.channel = p.channel ∧ q.role = p.role ∧
    q.loop = p.loop

/-- The accumulator and the published value of an entry lie in their ranges (R40, R53). -/
def Probe.Conditioned (p : Probe) : Prop :=
  p.accCount < p.depth ∧ p.accSum ≤ 5760 * p.accCount ∧ ∀ v, p.published = some v → v ≤ 5760

/-- One change of a record of a table, with what its write has checked. -/
inductive State.TableWrite (s : State) : State → Prop
  | loop (i : Fin 16) (l : Loop) (hplace : (s.loop i).SamePlace l)
      (hrange : (s.loop i).InRange → l.InRange) : s.TableWrite (s.setLoop i l)
  | binding (i : Fin 16) (l : Loop) (hout : l.enabled = false)
      (hroom : l.room = (s.loop i).room) (hrange : (s.loop i).InRange → l.InRange) :
      s.TableWrite (s.setLoop i l)
  | loopRoom (i : Fin 16) (r : Option (Fin 12)) (hout : (s.loop i).enabled = false)
      (hroom : ∀ q, r = some q → ((s.loopList q).countP fun j => j != i) < 3) :
      s.TableWrite (s.updLoop i fun l => { l with room := r })
  | joining (i : Fin 16) (l : Loop) (h : s.enableFails i = none)
      (hsame : { s.loop i with state := .running }.SameSettings l) : s.TableWrite (s.setLoop i l)
  | leaving (i : Fin 16) (l : Loop) (hsame : { s.loop i with state := .disabled }.SameSettings l) :
      s.TableWrite (s.setLoop i l)
  | floorClass (c : Fin 4) (k : FloorClass) (hrange : (s.floorClass c).InRange → k.InRange) :
      s.TableWrite (s.setFloorClass c k)
  | profile (p : Fin 4) (k : Profile)
      (hrange : s.general.InRange → (s.profile p).InRange s.general.cycleLength →
        k.InRange s.general.cycleLength) : s.TableWrite (s.setProfile p k)
  | general (f : General → General) (hrange : s.general.InRange →
      (∀ p, (s.profile p).InRange s.general.cycleLength) →
        (f s.general).InRange ∧ ∀ p, (s.profile p).InRange (f s.general).cycleLength) :
      s.TableWrite (s.updGeneral f)
  | room (r : Fin 12) (k : Room) (hunit : k.unitAddress = (s.room r).unitAddress)
      (hrange : (s.room r).InRange → k.InRange) : s.TableWrite (s.setRoom r k)
  | unit (r : Fin 12) (k : Room)
      (hunit : k.unitAddress = 0 ∨ ∀ q, q ≠ r → (s.room q).unitAddress ≠ k.unitAddress)
      (hrange : (s.room r).InRange → k.InRange) : s.TableWrite (s.setRoom r k)
  | probe (e : Fin 32) (p : Probe) (hsame : (s.probe e).SameIdentity p)
      (hrange : (s.probe e).InRange → p.InRange)
      (htemp : (s.probe e).Conditioned → p.Conditioned) : s.TableWrite (s.setProbe e p)
  | invalid (e : Fin 32) (p : Probe) (hinvalid : p.valid = false)
      (hrange : (s.probe e).InRange → p.InRange)
      (htemp : (s.probe e).Conditioned → p.Conditioned) : s.TableWrite (s.setProbe e p)
  | validated (e : Fin 32) (hv : (s.probe e).valid = false) (h : s.validationFails e = none) :
      s.TableWrite (s.setProbe e ((s.probe e).cleared true s.now))
  | probes (ps : Vector Probe 32) (hsame : ∀ e : Fin 32, (s.probe e).SameIdentity ps[e])
      (hrange : ∀ e : Fin 32, (s.probe e).InRange → ps[e].InRange)
      (htemp : ∀ e : Fin 32, (s.probe e).Conditioned → ps[e].Conditioned) :
      s.TableWrite { s with probes := ps }
  | rule (r : Fin 24) (k : Rule) (hrange : (s.rule r).InRange → k.InRange) : s.TableWrite (s.setRule r k)
  | rules (rs : Vector Rule 24) (hrange : ∀ r : Fin 24, (s.rule r).InRange → rs[r].InRange) :
      s.TableWrite { s with rules := rs }
  | supply (k : Supply) (hallowance : s.general.InRange → s.supply.allowance ≤ 2000 → k.allowance ≤ 2000)
      (htemp : ∀ v, k.reportTemp = some v → v ≤ 5760 ∨ s.supply.reportTemp = some v) :
      s.TableWrite { s with supply := k }

/-- A change of the part: of what is not configured, or of a record of a table. -/
def State.Change (s t : State) : Prop := s.RunStep t ∨ s.TableWrite t

/-- Changes, one after the other. -/
def State.Changes : State → State → Prop := Relation.ReflTransGen State.Change

theorem State.Changes.refl (s : State) : s.Changes s := Relation.ReflTransGen.refl
theorem State.RunStep.changes {s t : State} (h : s.RunStep t) : s.Changes t := .single (.inl h)
theorem State.TableWrite.changes {s t : State} (h : s.TableWrite t) : s.Changes t := .single (.inr h)
theorem State.Changes.trans {s t u : State} (h : s.Changes t) (g : t.Changes u) : s.Changes u :=
  Relation.ReflTransGen.trans h g
theorem State.Changes.run {s t u : State} (h : s.Changes t) (g : t.RunStep u) : s.Changes u :=
  h.trans g.changes
theorem State.DriveStep.changes {s t : State} (h : s.DriveStep t) : s.Changes t := h.run.changes

/-- What run steps and table writes keep, changes keep. -/
theorem State.Changes.keep {P : State → Prop} {s t : State}
    (hrun : ∀ s t, P s → State.RunStep s t → P t) (hwrite : ∀ s t, P s → State.TableWrite s t → P t)
    (h : s.Changes t) (hs : P s) : P t := by
  induction h with
  | refl => exact hs
  | tail _ he ih => exact he.elim (hrun _ _ ih) (hwrite _ _ ih)

/-- A fold of changes is made of changes. -/
theorem State.foldl_changes {α : Type} (f : State → α → State) (h : ∀ s a, State.Changes s (f s a))
    (l : List α) (s : State) : s.Changes (l.foldl f s) := by
  induction l generalizing s with
  | nil => exact .refl s
  | cons a l ih => exact (h s a).trans (ih _)

/-! ## Ranges of a stored number -/

theorem clampNat_ge {lo hi : Nat} (v : Int) (h : lo ≤ hi) : lo ≤ clampNat lo hi v :=
  (clampNat_bounds lo hi v h).1

theorem clampNat_le {lo hi : Nat} (v : Int) (h : lo ≤ hi) : clampNat lo hi v ≤ hi :=
  (clampNat_bounds lo hi v h).2

theorem clampInt_bounds (lo hi v : Int) (h : lo ≤ hi) :
    lo ≤ clampInt lo hi v ∧ clampInt lo hi v ≤ hi := by
  rw [clampInt_eq _ _ _ h]
  omega

/-! ## Writes of a loop (R2 to R5) -/

theorem Loop.SamePlace.of_eq {l k : Loop} (hroom : k.room = l.room)
    (haddress : k.driverAddress = l.driverAddress) (hchannel : k.headChannel = l.headChannel)
    (hstate : k.state = l.state) : l.SamePlace k :=
  ⟨hroom, haddress, hchannel, by simp [Loop.enabled, hstate]⟩

/-- The store of a structural value changes one record of a loop that is out. -/
theorem State.storeLoop_changes {s : State} {i : Fin 16} {hi v : Int} {f : Loop → Nat → Loop}
    (hout : ∀ n, (f (s.loop i) n).enabled = false) (hroom : ∀ n, (f (s.loop i) n).room = (s.loop i).room)
    (hrange : ∀ n : Nat, (n : Int) ≤ hi → (s.loop i).InRange → (f (s.loop i) n).InRange) :
    s.Changes (s.storeLoop i hi v f).part := by
  unfold State.storeLoop
  split
  · exact .refl s
  · exact State.TableWrite.changes (.binding i _ (hout _) (hroom _) (hrange _ (by omega)))

theorem State.storeHeadBinding_changes {s : State} {i : Fin 16} {hi v : Int} {f : Loop → Nat → Loop}
    (hout : ∀ n, (f (s.loop i) n).enabled = false) (hroom : ∀ n, (f (s.loop i) n).room = (s.loop i).room)
    (hrange : ∀ n : Nat, (n : Int) ≤ hi → (s.loop i).InRange → (f (s.loop i) n).InRange) :
    s.Changes (s.storeHeadBinding i hi v f).part := by
  unfold State.storeHeadBinding
  split
  · exact .refl s
  · split
    · exact .refl s
    · exact State.TableWrite.changes (.binding i _ (hout _) (hroom _) (hrange _ (by omega)))

/-- The clamping of a tuning value changes one record of a loop that is out. -/
theorem State.tuneLoop_changes {s : State} {i : Fin 16} {lo hi : Nat} {v : Int}
    {f : Loop → Nat → Loop} (hle : lo ≤ hi)
    (hout : ∀ n, (f (s.loop i) n).enabled = false) (hroom : ∀ n, (f (s.loop i) n).room = (s.loop i).room)
    (hrange : ∀ n, lo ≤ n → n ≤ hi → (s.loop i).InRange → (f (s.loop i) n).InRange) :
    s.Changes (s.tuneLoop i lo hi v f).part :=
  State.TableWrite.changes (.binding i _ (hout _) (hroom _)
    (hrange _ (clampNat_ge v hle) (clampNat_le v hle)))

theorem State.writeLoopStatic_changes (s : State) (field : LoopStaticField) (v : Int) (i : Fin 16) :
    s.Changes (s.writeLoopStatic field v i).part := by
  unfold State.writeLoopStatic
  split
  · exact .refl s
  · rename_i hstate
    have hout : (s.loop i).enabled = false := by
      have := not_not.mp hstate
      simp [Loop.enabled, this]
    cases field
    case driverAddress =>
      exact State.storeHeadBinding_changes (fun _ => hout) (fun _ => rfl)
        fun n hn h => by unfold Loop.InRange at h ⊢; dsimp only; omega
    case headChannel =>
      exact State.storeHeadBinding_changes (fun _ => hout) (fun _ => rfl)
        fun n hn h => by unfold Loop.InRange at h ⊢; dsimp only; omega
    case profile => exact State.storeLoop_changes (fun _ => hout) (fun _ => rfl) fun _ _ h => h
    case floorClass => exact State.storeLoop_changes (fun _ => hout) (fun _ => rfl) fun _ _ h => h
    case weight =>
      exact State.tuneLoop_changes (by decide) (fun _ => hout) (fun _ => rfl)
        fun n h1 h2 h => by unfold Loop.InRange at h ⊢; dsimp only; omega
    case phase =>
      exact State.tuneLoop_changes (by decide) (fun _ => hout) (fun _ => rfl)
        fun n h1 h2 h => by unfold Loop.InRange at h ⊢; dsimp only; omega
    case fallbackDuty =>
      exact State.tuneLoop_changes (by decide) (fun _ => hout) (fun _ => rfl)
        fun n h1 h2 h => by unfold Loop.InRange at h ⊢; dsimp only; omega

theorem Loop.enabled_eq_false {l : Loop} : l.enabled = false ↔ l.state = .disabled := by
  simp [Loop.enabled]

theorem State.writeLoopRoom_changes (s : State) (v : Int) (i : Fin 16) :
    s.Changes (s.writeLoopRoom v i).part := by
  unfold State.writeLoopRoom
  split
  · exact .refl s
  · rename_i hstate
    have hout := Loop.enabled_eq_false.mpr (not_not.mp hstate)
    split
    · exact State.TableWrite.changes (.loopRoom i none hout nofun)
    · split
      · exact .refl s
      · dsimp only
        split
        · exact .refl s
        · rename_i hfew
          refine State.TableWrite.changes (.loopRoom i (some _) hout ?_)
          rintro q ⟨⟩
          exact Nat.lt_of_not_le hfew

theorem State.writeShare_changes (s : State) (field : ShareField) (v : Int) (i : Fin 16) :
    s.Changes (s.writeShare field v i).part := by
  unfold State.writeShare
  cases field <;> dsimp only
  case smin =>
    split
    · exact .refl s
    · rw [Reply.part_held]
      refine State.TableWrite.changes (.loop i _ (.of_eq rfl rfl rfl rfl) fun h => ?_)
      have hw := clampNat_ge (lo := 64) (hi := 4096) v (by decide)
      unfold Loop.InRange at h ⊢
      simp only [Loop.clampShare]
      have hc := clampNat_bounds (min (clampNat 64 4096 v) (s.loop i).smax) (s.loop i).smax
        (s.loop i).share (Nat.min_le_right _ _)
      omega
  case smax =>
    split
    · exact .refl s
    · rw [Reply.part_held]
      refine State.TableWrite.changes (.loop i _ (.of_eq rfl rfl rfl rfl) fun h => ?_)
      have hw := clampNat_le (lo := 64) (hi := 4096) v (by decide)
      unfold Loop.InRange at h ⊢
      simp only [Loop.clampShare]
      have hc := clampNat_bounds (s.loop i).smin (max (clampNat 64 4096 v) (s.loop i).smin)
        (s.loop i).share (Nat.le_max_right _ _)
      omega
  case share =>
    rw [Reply.part_held]
    refine State.TableWrite.changes (.loop i _ (.of_eq rfl rfl rfl rfl) fun h => ?_)
    unfold Loop.InRange at h ⊢
    have hc := clampNat_bounds (s.loop i).smin (s.loop i).smax v (by omega)
    dsimp only
    omega

theorem State.writePriority_changes (s : State) (field : PriorityField) (v : Int) (i : Fin 16) :
    s.Changes (s.writePriority field v i).part := by
  unfold State.writePriority
  cases field <;> dsimp only
  case level =>
    have hw := clampNat_le (lo := 0) (hi := 7) v (by decide)
    have hstored : s.Changes (s.updLoop i fun l => { l with level := clampNat 0 7 v }) := by
      refine State.TableWrite.changes (.loop i _ (.of_eq rfl rfl rfl rfl) fun h => ?_)
      unfold Loop.InRange at h ⊢
      dsimp only
      omega
    rw [Reply.part_held]
    split
    · exact hstored.run (State.recompute_driveStep _).run
    · exact hstored
  case group =>
    have hw := clampNat_le (lo := 0) (hi := 3) v (by decide)
    rw [Reply.part_held]
    refine State.TableWrite.changes (.loop i _ (.of_eq rfl rfl rfl rfl) fun h => ?_)
    unfold Loop.InRange at h ⊢
    dsimp only
    omega

/-! ## ENABLE and DISABLE (R10 to R12) -/

/-- The record of an enabled loop has the settings of the loop as it stood. -/
theorem Loop.clearStatus_sameSettings (l : Loop) {x : LoopState} (hx : x ≠ .disabled)
    (c : Option Int) (p : Bool) (b : Option Nat) :
    { l with state := .running }.SameSettings
      { l.clearStatus with cooling := c, probeHeld := p, state := x, nextBoundary := b } := by
  refine ⟨?_, ?_, ?_, ?_, ?_, ?_, ?_, ?_, ?_, ?_, ?_, ?_, ?_, bne_iff_ne.mpr hx⟩ <;>
    simp [Loop.clearStatus, Loop.noDuties, Loop.leaveCycle, Loop.emptyAcc]

theorem State.enabledLoop_sameSettings (s : State) (i : Fin 16) :
    { s.loop i with state := .running }.SameSettings (s.enabledLoop i) := by
  unfold State.enabledLoop
  dsimp only
  split
  · exact Loop.clearStatus_sameSettings _ (by split <;> decide) _ _ _
  · exact Loop.clearStatus_sameSettings _ (by decide) _ _ _

theorem State.enable_changes (s : State) (i : Fin 16) (h : s.enableFails i = none) :
    s.Changes (s.enable i) := by
  have hjoined : s.Changes (s.setLoop i (s.enabledLoop i)) :=
    State.TableWrite.changes (.joining i _ h (s.enabledLoop_sameSettings i))
  exact hjoined.run (((s.setLoop i (s.enabledLoop i)).leaveWaits_driveStep i).trans
    ((State.recompute_driveStep _).trans (State.addProbeCause_driveStep _ i))).run

theorem Loop.disabled_sameSettings (l : Loop) :
    { l with state := .disabled }.SameSettings l.disabled := by
  simp [Loop.SameSettings, Loop.disabled, Loop.noDuties, Loop.leaveCycle, Loop.emptyAcc, Loop.enabled]

theorem State.leaveWaitsAtDisable_driveStep (s : State) (i : Fin 16) :
    s.DriveStep (s.leaveWaitsAtDisable i) := by
  unfold State.leaveWaitsAtDisable
  split
  · exact .refl s
  · exact s.leaveWaits_driveStep i

/-- A loop that leaves the drive. -/
theorem State.updLoop_disabled_changes (s : State) (i : Fin 16) :
    s.Changes (s.updLoop i Loop.disabled) :=
  State.TableWrite.changes (.leaving i (s.loop i).disabled (Loop.disabled_sameSettings _))

theorem State.disable_changes (s : State) (i : Fin 16) : s.Changes (s.disable i) := by
  have hcleared := (s.leaveWaitsAtDisable_driveStep i).changes.trans
    (State.updLoop_disabled_changes _ i)
  have hrecomputed : s.Changes (if (s.loop i).engaged then
      ((s.leaveWaitsAtDisable i).updLoop i Loop.disabled).recompute
      else (s.leaveWaitsAtDisable i).updLoop i Loop.disabled) := by
    split
    · exact hcleared.run (State.recompute_driveStep _).run
    · exact hcleared
  unfold State.disable
  dsimp only
  split
  · exact hrecomputed.run (State.want_driveStep _ i _ _).run
  · exact hrecomputed

/-! ## Floor classes and profiles (R7, R9) -/

theorem State.writeClass_changes (s : State) (field : ClassField) (v : Int) (c : Fin 4) :
    s.Changes (s.writeClass field v c).part := by
  rw [State.writeClass_eq]
  refine State.TableWrite.changes (.floorClass c _ fun h => ?_)
  have hw := clampNat_bounds _ _ v (classRange_le field)
  unfold FloorClass.InRange at h ⊢
  cases field <;> simp only [classRange, FloorClass.withField] at hw ⊢ <;> omega

theorem State.writeProfile_changes (s : State) (field : ProfileField) (v : Int) (p : Fin 4) :
    s.Changes (s.writeProfile field v p).part := by
  have hw := clampNat_bounds 30 600 v (by decide)
  unfold State.writeProfile
  dsimp only
  split
  · exact .refl s
  · cases field <;> dsimp only
    case polarity =>
      split
      · exact .refl s
      · rw [Reply.part_held]
        exact State.TableWrite.changes (.profile p _ fun _ h => h)
    all_goals
      rw [Reply.part_held]
      refine State.TableWrite.changes (.profile p _ fun hg h => ?_)
      unfold General.InRange at hg
      unfold Profile.InRange at h ⊢
      dsimp only
      omega

/-! ## Rooms (R22, R23, R27, R32) -/

theorem Room.reportDemand_le (k : Room) (h : k.fallbackDemand ≤ 1024) : k.reportDemand ≤ 1024 := by
  unfold Room.reportDemand
  split
  · exact h
  · split
    · split
      · split <;> omega
      · exact clampNat_le _ (by decide)
    all_goals exact h

/-- The demand formed from any record stays within 1024 where its fallback demand does. -/
theorem Room.demandNow_le (k : Room) (h : k.fallbackDemand ≤ 1024) : k.demandNow ≤ 1024 := by
  have hr := k.reportDemand_le h
  have hc : k.callDemand ≤ 1024 := by unfold Room.callDemand; split <;> omega
  unfold Room.demandNow
  split <;> omega

/-- A record whose configuration is in range stays in range when it is recomputed. -/
theorem Room.recomputed_inRange {k : Room} (h : k.unitAddress ≤ 126 ∧ 32 ≤ k.band ∧ k.band ≤ 256 ∧
    k.setback ≤ 640 ∧ k.setpointMin ≤ k.setpointMax ∧ k.setpointMax ≤ 3200 ∧
    k.fallbackDemand ≤ 1024) : k.recomputed.InRange := by
  obtain ⟨h1, h2, h3, h4, h5, h6, h7⟩ := h
  exact ⟨h1, h2, h3, h4, h5, h6, h7, k.demandNow_le h7⟩

theorem Room.InRange.config {k : Room} (h : k.InRange) :
    k.unitAddress ≤ 126 ∧ 32 ≤ k.band ∧ k.band ≤ 256 ∧ k.setback ≤ 640 ∧
    k.setpointMin ≤ k.setpointMax ∧ k.setpointMax ≤ 3200 ∧ k.fallbackDemand ≤ 1024 := by
  obtain ⟨h1, h2, h3, h4, h5, h6, h7, -⟩ := h
  exact ⟨h1, h2, h3, h4, h5, h6, h7⟩

/-- A change of a room that leaves its unit address is one table write. -/
theorem State.updRoom_changes {s : State} {r : Fin 12} (f : Room → Room)
    (hunit : (f (s.room r)).unitAddress = (s.room r).unitAddress)
    (hrange : (s.room r).InRange → (f (s.room r)).recomputed.InRange) : s.Changes (s.updRoom r f) :=
  State.TableWrite.changes (.room r (f (s.room r)).recomputed hunit hrange)

theorem State.roomStale_changes (s : State) (r : Fin 12) : s.Changes (s.roomStale r) :=
  (State.updRoom_changes (fun k => { k with stale := true }) rfl
    fun h => Room.recomputed_inRange h.config).run (State.raise_runStep _ _ _ _)

theorem State.staleRooms_changes (s : State) : s.Changes s.staleRooms := by
  refine State.foldl_changes _ (fun u r => ?_) roomIds s
  split
  · exact u.roomStale_changes r
  · exact .refl u

theorem State.writeRoom_changes (s : State) (field : RoomField) (v : Int) (r : Fin 12) :
    s.Changes (s.writeRoom field v r).part := by
  have h32 := clampNat_bounds 32 256 v (by decide)
  have h640 := clampNat_bounds 0 640 v (by decide)
  have h3200 := clampNat_bounds 0 3200 v (by decide)
  have h1024 := clampNat_bounds 0 1024 v (by decide)
  unfold State.writeRoom
  cases field <;> dsimp only
  case demandSource =>
    split
    · exact .refl s
    · rw [Reply.part_held]
      exact State.updRoom_changes _ rfl fun h => Room.recomputed_inRange h.config
  all_goals
    rw [Reply.part_held]
    refine State.updRoom_changes _ rfl fun h => Room.recomputed_inRange ?_
    have hc := h.config
    dsimp only
    omega

theorem State.writeUnitAddress_changes (s : State) (v : Int) (r : Fin 12) :
    s.Changes (s.writeUnitAddress v r).part := by
  unfold State.writeUnitAddress
  split
  · exact .refl s
  · rename_i hv
    split
    · exact .refl s
    · rename_i hfree
      split
      · exact .refl s
      · rw [Reply.part_held]
        refine State.TableWrite.changes (.unit r ((s.room r).restarted s.now v.toNat).recomputed ?_
          fun h => ?_)
        · by_cases h0 : v = 0
          · subst h0; exact .inl rfl
          · refine .inr fun q hq hu => hfree ⟨h0, ?_⟩
            exact (s.unitTaken_iff r v.toNat).mpr ⟨q, hq, hu⟩
        · refine Room.recomputed_inRange ?_
          have hc := h.config
          simp only [Room.restarted]
          omega

/-! ## GENERAL (R146) -/

/-- A static tuning value of GENERAL is one table write. -/
theorem State.tuneGeneral_changes {s : State} {w : Nat} {v : Int} {f : General → General}
    (hrange : s.general.InRange → (∀ p, (s.profile p).InRange s.general.cycleLength) →
      (f s.general).InRange ∧ ∀ p, (s.profile p).InRange (f s.general).cycleLength) :
    s.Changes (s.tuneGeneral w v f).part := by
  unfold State.tuneGeneral
  split
  · exact .refl s
  · exact State.TableWrite.changes (.general f hrange)

theorem State.storeGeneral_changes {s : State} {hi v : Int} {f : General → General}
    (hrange : 0 ≤ v → v ≤ hi → s.general.InRange →
      (∀ p, (s.profile p).InRange s.general.cycleLength) →
        (f s.general).InRange ∧ ∀ p, (s.profile p).InRange (f s.general).cycleLength) :
    s.Changes (s.storeGeneral hi v f).part := by
  unfold State.storeGeneral
  split
  · exact .refl s
  · split
    · exact .refl s
    · exact State.TableWrite.changes (.general f (hrange (by omega) (by omega)))

/-- The largest opening time is at least that of each profile, and within what they are within. -/
theorem State.largestOpening (s : State) :
    (∀ p, (s.profile p).opening ≤ profileIds.foldl (fun m p => max m (s.profile p).opening) 0) ∧
    ∀ b, (∀ p, (s.profile p).opening ≤ b) →
      profileIds.foldl (fun m p => max m (s.profile p).opening) 0 ≤ b := by
  have hfold : profileIds.foldl (fun m p => max m (s.profile p).opening) 0 =
      max (max (max (max 0 (s.profile 0).opening) (s.profile 1).opening) (s.profile 2).opening)
        (s.profile 3).opening := rfl
  rw [hfold]
  refine ⟨fun p => ?_, fun b hb => ?_⟩
  · fin_cases p <;> simp
  · have h0 := hb 0; have h1 := hb 1; have h2 := hb 2; have h3 := hb 3
    omega

theorem State.writeCycleLength_changes (s : State) (v : Int) :
    s.Changes (s.writeCycleLength v).part := by
  have hw := clampNat_bounds 600 3600 v (by decide)
  obtain ⟨hall, hleast⟩ := s.largestOpening
  refine State.tuneGeneral_changes fun hg hp => ⟨?_, fun p => ?_⟩
  · have := hleast 600 fun p => (hp p).2.1
    unfold General.InRange at hg ⊢
    dsimp only
    omega
  · have := hall p
    have := hp p
    unfold Profile.InRange at *
    dsimp only
    omega

theorem State.writeFdef_changes (s : State) (v : Int) : s.Changes (s.writeFdef v).part := by
  have hw := clampNat_le (lo := 0) (hi := 2000) v (by decide)
  have htuned := State.tuneGeneral_changes (s := s) (w := clampNat 0 2000 v) (v := v)
    (f := fun g => { g with fdef := clampNat 0 2000 v }) fun hg hp => ⟨by
      unfold General.InRange at hg ⊢; dsimp only; omega, hp⟩
  unfold State.writeFdef
  dsimp only
  split
  · exact htuned.trans (State.TableWrite.changes (.supply _ (fun _ _ => hw) fun _ h => .inr h))
  · exact htuned

theorem State.probeStale_changes (s : State) (e : Fin 32) : s.Changes (s.probeStale e) := by
  have hset : s.Changes (s.setProbe e { s.probe e with stale := true }) :=
    State.TableWrite.changes (.probe e _ ⟨rfl, rfl, rfl, rfl, rfl⟩ id id)
  have hmark := hset.run (State.raise_runStep _ .probeStale (some e.val) none)
  unfold State.probeStale
  dsimp only
  split
  · exact hmark.run (State.evaluateHeld_driveStep _ _).run
  · exact hmark

theorem State.staleProbes_changes (s : State) : s.Changes s.staleProbes := by
  refine State.foldl_changes _ (fun u e => ?_) probeIds s
  split
  · exact u.probeStale_changes e
  · exact .refl u

theorem State.writeProbeStaleTime_changes (s : State) (v : Int) :
    s.Changes (s.writeProbeStaleTime v).part := by
  have hw := clampNat_bounds 60 1800 v (by decide)
  have htuned := State.tuneGeneral_changes (s := s)
    (w := min (clampNat 60 1800 v) s.general.faultStaleTime) (v := v)
    (f := fun g => { g with probeStaleTime := min (clampNat 60 1800 v) s.general.faultStaleTime })
    fun hg hp => ⟨by unfold General.InRange at hg ⊢; dsimp only; omega, hp⟩
  unfold State.writeProbeStaleTime
  dsimp only
  split
  · dsimp only
    exact htuned.trans (State.staleProbes_changes _)
  · exact htuned

/-- A change of every entry that keeps what each one measures. -/
theorem State.mapProbes_changes {s : State} {f : Fin 32 → Probe}
    (hsame : ∀ e, (s.probe e).SameIdentity (f e)) (hrange : ∀ e, (s.probe e).InRange → (f e).InRange)
    (htemp : ∀ e, (s.probe e).Conditioned → (f e).Conditioned) :
    s.Changes { s with probes := Vector.ofFn f } :=
  State.TableWrite.changes (.probes _ (fun e => by simpa using hsame e)
    (fun e => by simpa using hrange e) fun e => by simpa using htemp e)

theorem State.moveFaultExpiries_changes (s : State) : s.Changes s.moveFaultExpiries :=
  State.mapProbes_changes (fun _ => ⟨rfl, rfl, rfl, rfl, rfl⟩) (fun _ => id) fun _ => id

theorem State.writeFaultStaleTime_changes (s : State) (v : Int) :
    s.Changes (s.writeFaultStaleTime v).part := by
  have hw := clampNat_bounds 600 7200 v (by decide)
  have htuned := State.tuneGeneral_changes (s := s)
    (w := max (clampNat 600 7200 v) s.general.probeStaleTime) (v := v)
    (f := fun g => { g with faultStaleTime := max (clampNat 600 7200 v) s.general.probeStaleTime })
    fun hg hp => ⟨by unfold General.InRange at hg ⊢; dsimp only; omega, hp⟩
  unfold State.writeFaultStaleTime
  dsimp only
  split
  · dsimp only
    exact (htuned.trans (State.moveFaultExpiries_changes _)).run
      (State.foldl_driveStep _ loopIds (fun u i => u.evaluateProbe_driveStep i) _).run
  · exact htuned

theorem State.writeRoomStaleTime_changes (s : State) (v : Int) :
    s.Changes (s.writeRoomStaleTime v).part := by
  have hw := clampNat_bounds 300 7200 v (by decide)
  have htuned := State.tuneGeneral_changes (s := s) (w := clampNat 300 7200 v) (v := v)
    (f := fun g => { g with roomStaleTime := clampNat 300 7200 v })
    fun hg hp => ⟨by unfold General.InRange at hg ⊢; dsimp only; omega, hp⟩
  unfold State.writeRoomStaleTime
  dsimp only
  split
  · dsimp only
    exact htuned.trans (State.staleRooms_changes _)
  · exact htuned

theorem State.supplyStale_changes (s : State) : s.Changes s.supplyStale := by
  have hstale : s.Changes { s with supply := { s.supply with
      stale := true, allowance := s.general.fdef, source := .run } } := by
    refine State.TableWrite.changes (.supply _ (fun hg _ => ?_) fun _ h => .inr h)
    unfold General.InRange at hg
    dsimp only
    omega
  exact hstale.run
    ((State.raise_runStep _ .supplyStale none none).trans (State.recompute_driveStep _).run)

theorem State.moveTempExpiry_changes (s : State) : s.Changes s.moveTempExpiry :=
  State.TableWrite.changes (.supply _ (fun _ h => h) fun _ h => .inr h)

theorem State.writeSupplyStaleTime_changes (s : State) (v : Int) :
    s.Changes (s.writeSupplyStaleTime v).part := by
  have hw := clampNat_bounds 120 3600 v (by decide)
  have htuned := State.tuneGeneral_changes (s := s) (w := clampNat 120 3600 v) (v := v)
    (f := fun g => { g with supplyStaleTime := clampNat 120 3600 v })
    fun hg hp => ⟨by unfold General.InRange at hg ⊢; dsimp only; omega, hp⟩
  unfold State.writeSupplyStaleTime
  dsimp only
  split
  · refine (htuned.trans (State.moveTempExpiry_changes _)).trans ?_
    dsimp only
    split
    · exact State.supplyStale_changes _
    · exact .refl _
  · exact htuned

theorem State.writeGeneral_changes (s : State) (field : GeneralField) (v : Int) :
    s.Changes (s.writeGeneral field v).part := by
  have h16 := clampNat_bounds 1 16 v (by decide)
  have h7 := clampNat_bounds 0 7 v (by decide)
  cases field
  case cycleLength => exact s.writeCycleLength_changes v
  case hmax =>
    exact State.tuneGeneral_changes fun hg hp => ⟨by
      unfold General.InRange at hg ⊢; dsimp only; omega, hp⟩
  case fdef => exact s.writeFdef_changes v
  case defrostShedLevel =>
    exact State.tuneGeneral_changes fun hg hp => ⟨by
      unfold General.InRange at hg ⊢; dsimp only; omega, hp⟩
  case probeStaleTime => exact s.writeProbeStaleTime_changes v
  case faultStaleTime => exact s.writeFaultStaleTime_changes v
  case roomStaleTime => exact s.writeRoomStaleTime_changes v
  case supplyStaleTime => exact s.writeSupplyStaleTime_changes v
  case supplySource =>
    exact State.storeGeneral_changes fun h0 h1 hg hp => ⟨by
      unfold General.InRange at hg ⊢; dsimp only; omega, hp⟩
  case overflowPolicy p =>
    cases p <;> exact State.storeGeneral_changes fun h0 h1 hg hp => ⟨hg, hp⟩
  case directionDefault p =>
    cases p <;> exact State.storeGeneral_changes fun h0 h1 hg hp => ⟨hg, hp⟩
  case noticeAddress =>
    exact State.storeGeneral_changes fun h0 h1 hg hp => ⟨by
      unfold General.InRange at hg ⊢; dsimp only; omega, hp⟩
  case manualShedLevel =>
    have hset : s.Changes (s.updGeneral fun g => { g with manualShedLevel := clampNat 0 7 v }) := by
      refine State.TableWrite.changes (.general _ fun hg hp => ⟨?_, hp⟩)
      unfold General.InRange at hg ⊢
      dsimp only
      omega
    exact hset.run (State.recompute_driveStep _).run

/-! ## Probes (R38, R39, R42 to R44) -/

theorem State.writeIdentity_changes {s : State} {e : Fin 32} {v : Int} {b : Bool} {f : Probe → Probe}
    (hvalid : (f (s.probe e)).valid = (s.probe e).valid)
    (hrange : b = true → (s.probe e).InRange → (f (s.probe e)).InRange)
    (htemp : (s.probe e).Conditioned → (f (s.probe e)).Conditioned) :
    s.Changes (s.writeIdentity e v b f).part := by
  unfold State.writeIdentity
  split
  · exact .refl s
  · rename_i hv
    split
    · exact State.TableWrite.changes (.invalid e _ (by rw [hvalid]; simpa using hv) (hrange ‹_›) htemp)
    · exact .refl s

theorem depthAllowed_iff (v : Int) : depthAllowed v = true ↔ v = 1 ∨ v = 2 ∨ v = 4 ∨ v = 8 := by
  simp [depthAllowed, or_assoc]

theorem State.writeProbe_changes (s : State) (field : ProbeField) (v : Int) (e : Fin 32) :
    s.Changes (s.writeProbe field v e).part := by
  cases field
  case moduleAddress =>
    refine State.writeIdentity_changes rfl (fun hb h => ?_) id
    simp only [Bool.and_eq_true, decide_eq_true_iff] at hb
    unfold Probe.InRange at h ⊢
    dsimp only
    omega
  case channel =>
    refine State.writeIdentity_changes rfl (fun hb h => ?_) id
    simp only [Bool.and_eq_true, decide_eq_true_iff] at hb
    unfold Probe.InRange at h ⊢
    dsimp only
    omega
  case role => exact State.writeIdentity_changes rfl (fun _ h => h) id
  case loop => exact State.writeIdentity_changes rfl (fun _ h => h) id
  case trim =>
    have hw := clampInt_bounds (-128) 127 v (by decide)
    refine State.TableWrite.changes (.probe e { s.probe e with trim := clampInt (-128) 127 v }
      ⟨rfl, rfl, rfl, rfl, rfl⟩ (fun h => ?_) id)
    unfold Probe.InRange at h ⊢
    exact ⟨h.1, h.2.1, hw.1, hw.2, h.2.2.2.2⟩
  case depth =>
    unfold State.writeProbe
    dsimp only
    split
    · rename_i hd
      have hv := (depthAllowed_iff v).mp hd
      refine State.TableWrite.changes (.probe e { s.probe e with depth := v.toNat, accSum := 0, accCount := 0 }
        ⟨rfl, rfl, rfl, rfl, rfl⟩ (fun h => ?_) fun h => ?_)
      · unfold Probe.InRange at h ⊢
        refine ⟨h.1, h.2.1, h.2.2.1, h.2.2.2.1, ?_⟩
        dsimp only
        omega
      · obtain ⟨-, -, hp⟩ := h
        refine ⟨?_, ?_, hp⟩ <;> dsimp only <;> omega
    · exact .refl s

theorem State.mapChanged_driveStep (s : State) (e : Fin 32) : s.DriveStep (s.mapChanged e) := by
  unfold State.mapChanged
  dsimp only
  split
  · exact (s.evaluateHeld_driveStep _).trans (State.evaluateProbe_driveStep _ _)
  · exact .refl s

theorem Probe.Conditioned.depth_pos {p : Probe} (h : p.Conditioned) : 0 < p.depth :=
  Nat.zero_lt_of_lt h.1

theorem Probe.cleared_conditioned {p : Probe} (h : p.Conditioned) (b : Bool) (now : Nat) :
    (p.cleared b now).Conditioned :=
  ⟨h.depth_pos, Nat.zero_le _, nofun⟩

theorem State.writeValid_changes (s : State) (v : Int) (e : Fin 32) :
    s.Changes (s.writeValid v e).part := by
  unfold State.writeValid
  split
  · exact .refl s
  · rename_i valid _
    split
    · exact .refl s
    · rename_i hne
      split
      · exact .refl s
      · rename_i hpass
        refine State.Changes.run ?_ (State.mapChanged_driveStep _ e).run
        cases valid
        · exact State.TableWrite.changes (.invalid e ((s.probe e).cleared false s.now) rfl id
            fun h => Probe.cleared_conditioned h _ _)
        · refine State.TableWrite.changes (.validated e ?_ hpass)
          exact Bool.eq_false_iff.mpr fun h => hne h.symm

theorem State.probeFault_changes (s : State) (e : Fin 32) : s.Changes (s.probeFault e) := by
  have hmark : s.Changes (s.setProbe e { s.probe e with faultRunning := false }) :=
    State.TableWrite.changes (.probe e _ ⟨rfl, rfl, rfl, rfl, rfl⟩ id id)
  unfold State.probeFault
  dsimp only
  split
  · exact hmark.run (State.addProbeCause_driveStep _ _).run
  · exact hmark

/-- An entry stored twice is the entry stored last. -/
theorem State.setProbe_setProbe (s : State) (e : Fin 32) (p q : Probe) :
    (s.setProbe e p).setProbe e q = s.setProbe e q := by
  simp [State.setProbe]

/-- A run step goes on beside the store of a probe entry. -/
theorem State.RunStep.setProbe {s t : State} (h : s.RunStep t) (e : Fin 32) (p : Probe) :
    (s.setProbe e p).RunStep (t.setProbe e p) := by
  refine ⟨?_, h.2⟩
  have hprobes := h.probes
  unfold State.setProbe
  rw [hprobes, h.1]

/-- The entry that a sample leaves (R42, R43). -/
def Probe.sampled (p : Probe) (now : Nat) (sample : Int) : Probe :=
  let trimmed := sample + p.trim
  if trimmed < 0 ∨ (Config.tempMax : Int) < trimmed then { p with rejected := satInc p.rejected }
  else
    let q := p.accept now trimmed.toNat
    if q.accCount < q.depth then q else q.publish

theorem State.publishTest_runStep (s : State) (e : Fin 32) :
    (s.setProbe e (if (s.probe e).accCount < (s.probe e).depth then s.probe e else (s.probe e).publish)).RunStep
      (s.publishTest e) := by
  unfold State.publishTest
  dsimp only
  split
  · have : s.setProbe e (s.probe e) = s := by simp [State.setProbe, State.probe]
    rw [this]
    exact .refl s
  · split
    · exact ((State.evaluateHeld_driveStep _ _).trans (State.offerReturn_driveStep _ _)).run
    · exact .refl _

/-- A sample changes one entry, and beside it what a run step changes. -/
theorem State.takeSample_runStep (s : State) (e : Fin 32) (sample : Int) :
    (s.setProbe e ((s.probe e).sampled s.now sample)).RunStep (s.takeSample e sample) := by
  unfold State.takeSample Probe.sampled
  dsimp only
  split
  · exact .refl _
  · set q := (s.probe e).accept s.now (sample + (s.probe e).trim).toNat with hq
    have hcause : (s.setProbe e q).RunStep (match (s.probe e).role with
        | .returnWater => ((s.setProbe e q).evaluateHeld (s.probe e).loop).removeProbeCause
            (s.probe e).loop
        | .supplyWater => s.setProbe e q) := by
      split
      · exact ((State.evaluateHeld_driveStep _ _).trans (State.removeProbeCause_driveStep _ _)).run
      · exact .refl _
    set u : State := (match (s.probe e).role with
        | .returnWater => ((s.setProbe e q).evaluateHeld (s.probe e).loop).removeProbeCause
            (s.probe e).loop
        | .supplyWater => s.setProbe e q)
    have hu : u.probe e = q := by
      rw [State.probe, hcause.probes]
      exact State.probe_setProbe_self s e q
    have htest := u.publishTest_runStep e
    rw [hu] at htest
    have hset := hcause.setProbe e (if q.accCount < q.depth then q else q.publish)
    rw [State.setProbe_setProbe] at hset
    exact hset.trans htest

theorem Probe.sampled_sameIdentity (p : Probe) (now : Nat) (sample : Int) :
    p.SameIdentity (p.sampled now sample) := by
  unfold Probe.sampled
  dsimp only
  split
  · exact ⟨rfl, rfl, rfl, rfl, rfl⟩
  · split <;> exact ⟨rfl, rfl, rfl, rfl, rfl⟩

theorem Probe.sampled_inRange {p : Probe} (h : p.InRange) (now : Nat) (sample : Int) :
    (p.sampled now sample).InRange := by
  unfold Probe.sampled
  dsimp only
  split
  · exact h
  · split <;> exact h

/-- The rounded mean of samples within a limit lies within it. -/
theorem publication_le {sum n b : Nat} (hn : 0 < n) (h : sum ≤ b * n) : publication sum n ≤ b := by
  unfold publication
  refine Nat.lt_succ_iff.mp ((Nat.div_lt_iff_lt_mul hn).mpr ?_)
  have : n / 2 < n := Nat.div_lt_self hn (by decide)
  rw [Nat.succ_mul]
  omega

theorem Probe.sampled_conditioned {p : Probe} (h : p.Conditioned) (now : Nat) (sample : Int) :
    (p.sampled now sample).Conditioned := by
  obtain ⟨hcount, hsum, hpub⟩ := h
  unfold Probe.sampled
  dsimp only
  split
  · exact ⟨hcount, hsum, hpub⟩
  · rename_i hrange
    have htrim : (sample + p.trim).toNat ≤ 5760 := by
      simp only [Config.tempMax] at hrange
      omega
    have hacc : p.accSum + (sample + p.trim).toNat ≤ 5760 * (p.accCount + 1) := by omega
    split
    · rename_i hless
      exact ⟨hless, hacc, hpub⟩
    · rename_i hfull
      refine ⟨Nat.zero_lt_of_lt hcount, Nat.zero_le _, ?_⟩
      rintro v ⟨⟩
      refine publication_le (Nat.zero_lt_of_lt hcount) (hacc.trans ?_)
      exact Nat.mul_le_mul_left 5760 hcount

theorem State.takeSample_changes (s : State) (e : Fin 32) (sample : Int) :
    s.Changes (s.takeSample e sample) :=
  (State.TableWrite.changes (.probe e _ (Probe.sampled_sameIdentity _ _ _)
    (fun h => Probe.sampled_inRange h _ _) fun h => Probe.sampled_conditioned h _ _)).run
    (s.takeSample_runStep e sample)

/-! ## Counters and rules (R115, R119, R120, R124) -/

theorem State.writeCounter_changes (s : State) (field : CounterField) (index : Nat) :
    s.Changes (s.writeCounter field index).part := by
  cases field
  case rejected entry =>
    simp only [State.writeCounter, State.writeRejected]
    split
    · split
      · exact .refl s
      · split
        · exact .refl s
        · rw [Reply.part_held]
          exact State.TableWrite.changes (.probe _ _ ⟨rfl, rfl, rfl, rfl, rfl⟩ id id)
    · exact .refl s
  all_goals
    simp only [State.writeCounter]
    split
    · exact .refl s
    · exact (State.setPort_runStep s _ _).changes

/-- A stored rule is in range where the record with its hits at 0 is. -/
theorem State.storeRule_changes {s : State} {r : Fin 24} {k : Rule}
    (h : (s.rule r).InRange → { k with hits := 0 }.InRange) : s.Changes (s.storeRule r k) :=
  State.TableWrite.changes (.rule r _ h)

theorem State.writeMatch_changes {s : State} {r : Fin 24} {hi v : Int} {f : Option Nat → Rule}
    (h : ∀ m : Option Nat, (∀ n, m = some n → (n : Int) ≤ hi) → (s.rule r).InRange →
      Rule.InRange { f m with hits := 0 }) : s.Changes (s.writeMatch r hi v f).part := by
  unfold State.writeMatch
  split
  · exact State.storeRule_changes (h none nofun)
  · split
    · exact .refl s
    · refine State.storeRule_changes (h (some v.toNat) ?_)
      rintro n ⟨⟩
      omega

theorem State.writeRule_changes (s : State) (field : RuleField) (v : Int) (r : Fin 24) :
    s.Changes (s.writeRule field v r).part := by
  have hupTo : ∀ {m : Option Nat} {hi : Nat}, (∀ n, m = some n → (n : Int) ≤ hi) → fieldUpTo hi m :=
    fun h n hn => by exact_mod_cast h n hn
  have hcount := clampNat_le (lo := 0) (hi := 255) v (by decide)
  unfold State.writeRule
  cases field <;> dsimp only
  case valid =>
    split
    · exact .refl s
    · exact State.storeRule_changes fun ⟨h1, h2, h3, h4, h5, h6⟩ => ⟨h1, h2, h3, h4, h5, Nat.zero_le _⟩
  case direction =>
    split
    · exact .refl s
    · exact State.storeRule_changes fun ⟨h1, h2, h3, h4, h5, h6⟩ => ⟨h1, h2, h3, h4, h5, Nat.zero_le _⟩
  case kind =>
    exact State.writeMatch_changes fun m hm ⟨h1, h2, h3, h4, h5, h6⟩ =>
      ⟨hupTo hm, h2, h3, h4, h5, Nat.zero_le _⟩
  case source =>
    exact State.writeMatch_changes fun m hm ⟨h1, h2, h3, h4, h5, h6⟩ =>
      ⟨h1, hupTo hm, h3, h4, h5, Nat.zero_le _⟩
  case destination =>
    exact State.writeMatch_changes fun m hm ⟨h1, h2, h3, h4, h5, h6⟩ =>
      ⟨h1, h2, hupTo hm, h4, h5, Nat.zero_le _⟩
  case selector =>
    exact State.writeMatch_changes fun m hm ⟨h1, h2, h3, h4, h5, h6⟩ =>
      ⟨h1, h2, h3, hupTo hm, h5, Nat.zero_le _⟩
  case action =>
    split
    · exact .refl s
    · exact State.storeRule_changes fun ⟨h1, h2, h3, h4, h5, h6⟩ => ⟨h1, h2, h3, h4, h5, Nat.zero_le _⟩
  case count =>
    exact State.storeRule_changes fun ⟨h1, h2, h3, h4, h5, h6⟩ => ⟨h1, h2, h3, h4, hcount, Nat.zero_le _⟩

theorem State.writeHits_changes (s : State) (r : Fin 24) : s.Changes (s.writeHits r).part :=
  State.storeRule_changes fun ⟨h1, h2, h3, h4, h5, _⟩ => ⟨h1, h2, h3, h4, h5, Nat.zero_le _⟩

theorem Rule.applied_inRange {k : Rule} (h : k.InRange) : k.applied.InRange := by
  obtain ⟨h1, h2, h3, h4, h5, -⟩ := h
  refine ⟨h1, h2, h3, h4, ?_, ?_⟩
  · simp only [Rule.applied]
    split <;> omega
  · simp only [Rule.applied, wrapInc]
    omega

/-! ## Everything -/

/-- An index outside its table leaves the part. -/
theorem withIndex_changes {n index : Nat} {s : State} {body : Fin n → State → Reply}
    (h : ∀ i, s.Changes (body i s).part) : s.Changes (withIndex n index s body).part := by
  rcases withIndex_cases index s body with ⟨-, e⟩ | ⟨i, -, e⟩ <;> rw [e]
  · exact .refl s
  · exact h i

theorem State.writeAt_changes (s : State) (target : WriteTarget) (index : Nat) (v : Int) :
    s.Changes (s.writeAt target index v).part := by
  cases target
  case readOnly => exact .refl s
  case general field => exact s.writeGeneral_changes field v
  case loopRoom => exact withIndex_changes fun i => s.writeLoopRoom_changes v i
  case loopStatic field => exact withIndex_changes fun i => s.writeLoopStatic_changes field v i
  case share field => exact withIndex_changes fun i => s.writeShare_changes field v i
  case priority field => exact withIndex_changes fun i => s.writePriority_changes field v i
  case unitAddress => exact withIndex_changes fun r => s.writeUnitAddress_changes v r
  case room field => exact withIndex_changes fun r => s.writeRoom_changes field v r
  case probeValid => exact withIndex_changes fun e => s.writeValid_changes v e
  case probe field => exact withIndex_changes fun e => s.writeProbe_changes field v e
  case rule field => exact withIndex_changes fun r => s.writeRule_changes field v r
  case hits => exact withIndex_changes fun r => s.writeHits_changes r
  case floorClass field => exact withIndex_changes fun c => s.writeClass_changes field v c
  case profile field => exact withIndex_changes fun p => s.writeProfile_changes field v p
  case counter field => exact s.writeCounter_changes field index

theorem State.supplyRead_changes (s : State) (t : Telegram) : s.Changes (s.supplyRead t) := by
  have hread : s.Changes { s with
      supply := (s.supply.report s.now (signedAt t.data 0) (unsignedAt t.data 2) (byteAt t.data 4)) } := by
    refine State.TableWrite.changes (.supply _ (fun _ _ => ?_) fun v hv => ?_)
    · unfold Supply.report
      dsimp only
      split <;> exact Nat.min_le_right _ _
    · unfold Supply.report at hv
      dsimp only at hv
      split at hv
      · rename_i htemp
        cases hv
        refine .inl ?_
        simp only [Config.tempMax] at htemp
        omega
      · exact .inr hv
  unfold State.supplyRead
  dsimp only
  split
  · exact hread.run (State.recompute_driveStep _).run
  · exact hread

theorem Loop.enabled_restarted (l : Loop) : l.restarted.enabled = l.enabled := by
  have hstate : l.restarted.state = if l.enabled then .standby else .disabled := rfl
  rw [Loop.enabled, hstate]
  cases l.enabled <;> rfl

theorem Loop.restarted_sameSettings (l : Loop) : l.SameSettings l.restarted := by
  refine ⟨?_, ?_, ?_, ?_, ?_, ?_, ?_, ?_, ?_, ?_, ?_, ?_, ?_, l.enabled_restarted⟩ <;>
    simp [Loop.restarted, Loop.clearStatus, Loop.noDuties, Loop.leaveCycle, Loop.emptyAcc]

theorem Probe.restarted_conditioned {p : Probe} (h : p.Conditioned) : p.restarted.Conditioned :=
  ⟨h.depth_pos, Nat.zero_le _, h.2.2⟩

theorem State.restartProbes_changes (s : State) :
    s.Changes { s with probes := Vector.ofFn fun e => (s.probe e).restarted } :=
  State.mapProbes_changes (fun _ => ⟨rfl, rfl, rfl, rfl, rfl⟩) (fun _ => id)
    fun _ => Probe.restarted_conditioned

theorem State.restartRules_changes (s : State) :
    s.Changes { s with rules := Vector.ofFn fun r => { s.rule r with hits := 0 } } :=
  State.TableWrite.changes (.rules _ fun r ⟨h1, h2, h3, h4, h5, _⟩ => by
    simpa using ⟨h1, h2, h3, h4, h5, Nat.zero_le _⟩)

theorem State.restart_changes (s : State) : s.Changes s.restart := by
  refine (s.restartProbes_changes.trans (State.restartRules_changes _)).run ⟨?_, fun j => ?_⟩
  · simp only [State.restart, State.rule]
  · have hloop := (s.loop j).restarted_sameSettings
    rw [← State.loop_restart] at hloop
    simpa only [State.loop] using hloop

theorem State.completeAnswer_changes (s : State) : s.Changes s.completeAnswer := by
  have hdone : s.Changes { s.freeTx .h with answer := none } :=
    (State.runStep_of_loops rfl).changes
  unfold State.completeAnswer
  dsimp only
  split
  · split
    · exact hdone.trans (State.restart_changes _)
    · exact hdone
  · exact hdone

theorem State.TableEvent.changes {s t : State} (h : s.TableEvent t) : s.Changes t := by
  cases h
  case written => exact s.writeAt_changes ..
  case enabled i hi => exact s.enable_changes i hi
  case disabled i => exact s.disable_changes i
  case ruleApplied r => exact State.TableWrite.changes (.rule r _ Rule.applied_inRange)
  case roomRead r m p o => exact State.updRoom_changes _ rfl fun h => Room.recomputed_inRange h.config
  case called r b => exact State.updRoom_changes _ rfl fun h => Room.recomputed_inRange h.config
  case supplied x => exact s.supplyRead_changes x
  case sampled e v => exact s.takeSample_changes e v
  case answerSent => exact s.completeAnswer_changes
  case roomStale r => exact s.roomStale_changes r
  case probeStale e => exact s.probeStale_changes e
  case probeFault e => exact s.probeFault_changes e
  case reportTempOver => exact State.TableWrite.changes (.supply _ (fun _ h => h) fun _ h => .inr h)
  case supplyStale => exact s.supplyStale_changes

/-- Every event is made of run steps and table writes. -/
theorem State.Event.changes {s t : State} (h : s.Event t) : s.Changes t :=
  h.run_or_table.elim State.RunStep.changes State.TableEvent.changes

/-- A law that power-on meets and that run steps, table writes, the clock and the queue keep is a law of the
part. -/
theorem State.law_of_changes {P : State → Prop} (hqueue : ∀ s q, P s → P { s with pending := q })
    (hreset : ∀ straps q, P { State.reset with strap := straps, pending := q })
    (hrun : ∀ s t, P s → State.RunStep s t → P t) (hwrite : ∀ s t, P s → State.TableWrite s t → P t)
    (hclock : ∀ s n, P s → P { s with now := n }) : State.Law P where
  queued := hqueue
  poweredOn := hreset
  begun s t h hb := hrun s t h hb.beginStep.run
  event s t h he := he.changes.keep hrun hwrite h
  ticked s h := by
    refine hclock _ (s.now + 1) (hrun s (s.mapLoops fun i l => l.countOpen (s.openState i)) h ?_)
    exact ⟨rfl, s.loop_tick_sameSettings⟩

end Sys2Proof.Machine
end

section
/-! PROOFS. Configuration and temperatures in range (O52, O53) and commands that complete (O3). -/

namespace Sys2Proof.Machine

open Sys2Proof

/-! ## Records of a changed table -/

theorem State.forall_setLoop {s : State} {i : Fin 16} {l : Loop} {Q : Loop → Prop}
    (h : ∀ j, Q (s.loop j)) (hl : Q l) : ∀ j, Q ((s.setLoop i l).loop j) := by
  intro j
  rw [State.loop_setLoop]
  split
  · exact hl
  · exact h j

theorem State.forall_setRoom {s : State} {r : Fin 12} {k : Room} {Q : Room → Prop}
    (h : ∀ j, Q (s.room j)) (hk : Q k) : ∀ j, Q ((s.setRoom r k).room j) := by
  intro j
  rw [State.room_setRoom]
  split
  · exact hk
  · exact h j

theorem State.forall_setProbe {s : State} {e : Fin 32} {p : Probe} {Q : Probe → Prop}
    (h : ∀ j, Q (s.probe j)) (hp : Q p) : ∀ j, Q ((s.setProbe e p).probe j) := by
  intro j
  rw [State.probe_setProbe]
  split
  · exact hp
  · exact h j

theorem State.RunStep.probe {s t : State} (h : s.RunStep t) (e : Fin 32) : t.probe e = s.probe e := by
  rw [State.probe, State.probe, h.probes]

theorem State.RunStep.room {s t : State} (h : s.RunStep t) (r : Fin 12) : t.room r = s.room r := by
  rw [State.room, State.room, h.rooms]

theorem State.RunStep.rule {s t : State} (h : s.RunStep t) (r : Fin 24) : t.rule r = s.rule r := by
  rw [State.rule, State.rule, h.rules]

theorem State.RunStep.profile {s t : State} (h : s.RunStep t) (p : Fin 4) :
    t.profile p = s.profile p := by
  rw [State.profile, State.profile, h.profiles]

theorem State.RunStep.floorClass {s t : State} (h : s.RunStep t) (c : Fin 4) :
    t.floorClass c = s.floorClass c := by
  rw [State.floorClass, State.floorClass, h.classes]

/-! ## The configuration (R1, R3, R5, R7 to R9, R21, R37, R45, R118, R146) -/

/-- Settings in range stay in range while they are kept. -/
theorem Loop.SameSettings.inRange {l k : Loop} (h : l.SameSettings k) (hl : l.InRange) :
    k.InRange := by
  obtain ⟨-, hda, hhc, -, -, hw, hp, hsmin, hsmax, hf, hlev, hg, hshare, -⟩ := h
  obtain ⟨h1, h2, h3, h4, h5, h6, h7, h8, h9, h10, h11, h12⟩ := hl
  obtain ⟨hlo, hhi⟩ := hshare ⟨h7, h8⟩
  unfold Loop.InRange
  rw [hda, hhc, hw, hp, hsmin, hsmax, hf, hlev, hg]
  exact ⟨h1, h2, h3, h4, h5, h6, hlo, hhi, h9, h10, h11, h12⟩

theorem State.ConfigInRange.run {s t : State} (h : s.ConfigInRange) (hr : s.RunStep t) :
    t.ConfigInRange := by
  obtain ⟨hg, hl, hc, hp, hr', he, hru, hs⟩ := h
  unfold State.ConfigInRange
  rw [hr.general, hr.supply]
  refine ⟨hg, fun i => (hr.settings i).inRange (hl i), fun c => ?_, fun p => ?_, fun r => ?_,
    fun e => ?_, fun r => ?_, hs⟩
  · rw [hr.floorClass]; exact hc c
  · rw [hr.profile]; exact hp p
  · rw [hr.room]; exact hr' r
  · rw [hr.probe]; exact he e
  · rw [hr.rule]; exact hru r

theorem State.ConfigInRange.write {s t : State} (h : s.ConfigInRange) (hw : s.TableWrite t) :
    t.ConfigInRange := by
  obtain ⟨hg, hl, hc, hp, hr, he, hru, hs⟩ := h
  have loops {i : Fin 16} {l : Loop} (h : l.InRange) : (s.setLoop i l).ConfigInRange :=
    ⟨hg, State.forall_setLoop hl h, hc, hp, hr, he, hru, hs⟩
  cases hw
  case loop i l _ hrange => exact loops (hrange (hl i))
  case binding i l _ _ hrange => exact loops (hrange (hl i))
  case loopRoom i r _ _ => exact loops (hl i)
  case joining i l _ hsame => exact loops (hsame.inRange (hl i))
  case leaving i l hsame => exact loops (hsame.inRange (hl i))
  case floorClass c k hrange =>
    refine ⟨hg, hl, fun j => ?_, hp, hr, he, hru, hs⟩
    rw [State.floorClass_setFloorClass]
    split
    · exact hrange (hc c)
    · exact hc j
  case profile p k hrange =>
    refine ⟨hg, hl, hc, fun j => ?_, hr, he, hru, hs⟩
    rw [State.profile_setProfile]
    split
    · exact hrange hg (hp p)
    · exact hp j
  case general f hrange =>
    obtain ⟨hf, hpf⟩ := hrange hg hp
    exact ⟨hf, hl, hc, hpf, hr, he, hru, hs⟩
  case room r k _ hrange =>
    exact ⟨hg, hl, hc, hp, State.forall_setRoom hr (hrange (hr r)), he, hru, hs⟩
  case unit r k _ hrange =>
    exact ⟨hg, hl, hc, hp, State.forall_setRoom hr (hrange (hr r)), he, hru, hs⟩
  case probe e p _ hrange _ =>
    exact ⟨hg, hl, hc, hp, hr, State.forall_setProbe he (hrange (he e)), hru, hs⟩
  case invalid e p _ hrange _ =>
    exact ⟨hg, hl, hc, hp, hr, State.forall_setProbe he (hrange (he e)), hru, hs⟩
  case validated e _ _ => exact ⟨hg, hl, hc, hp, hr, State.forall_setProbe he (he e), hru, hs⟩
  case probes ps _ hrange _ => exact ⟨hg, hl, hc, hp, hr, fun e => hrange e (he e), hru, hs⟩
  case rule r k hrange =>
    refine ⟨hg, hl, hc, hp, hr, he, fun j => ?_, hs⟩
    rw [State.rule_setRule]
    split
    · exact hrange (hru r)
    · exact hru j
  case rules rs hrange => exact ⟨hg, hl, hc, hp, hr, he, fun r => hrange r (hru r), hs⟩
  case supply k hallowance _ => exact ⟨hg, hl, hc, hp, hr, he, hru, hallowance hg hs⟩

/-- The power-on values are in their ranges. -/
theorem State.reset_configInRange : State.reset.ConfigInRange := by
  have hrules : ∀ r, State.reset.rule r = {} := by decide
  refine ⟨by unfold General.InRange; decide, fun i => ?_, ?_, ?_, ?_, ?_, fun r => ?_, by decide⟩
  · rw [State.loop_reset]
    unfold Loop.InRange Loop.powerOn
    dsimp only
    omega
  · unfold FloorClass.InRange; decide
  · unfold Profile.InRange; decide
  · unfold Room.InRange; decide
  · unfold Probe.InRange; decide
  · rw [hrules]
    exact ⟨nofun, nofun, nofun, nofun, by decide, by decide⟩

/-- Ranges of the configuration are a law of the part. -/
theorem State.configInRange_law : State.Law State.ConfigInRange :=
  State.law_of_changes (fun _ _ h => h) (fun _ _ => State.reset_configInRange)
    (fun _ _ h => h.run) (fun _ _ h => h.write) (fun _ _ h => h)

/-- Settles O52: `State.ConfigInRange` is a law. -/
theorem configurationStaysInRange : Obligations.ConfigurationStaysInRange :=
  fun _ _ h hstep => State.configInRange_law.step h hstep

/-! ## Temperatures (R40, R53) -/

theorem State.temperaturesInRange_iff (s : State) :
    s.TemperaturesInRange ↔ (∀ e, (s.probe e).Conditioned) ∧
      ∀ v, s.supply.reportTemp = some v → v ≤ 5760 := Iff.rfl

theorem State.TemperaturesInRange.run {s t : State} (h : s.TemperaturesInRange) (hr : s.RunStep t) :
    t.TemperaturesInRange := by
  rw [State.temperaturesInRange_iff] at h ⊢
  rw [hr.supply]
  exact ⟨fun e => (hr.probe e).symm ▸ h.1 e, h.2⟩

theorem State.TemperaturesInRange.write {s t : State} (h : s.TemperaturesInRange)
    (hw : s.TableWrite t) : t.TemperaturesInRange := by
  rw [State.temperaturesInRange_iff] at h ⊢
  obtain ⟨hprobes, hreport⟩ := h
  cases hw
  case probe e p _ _ htemp => exact ⟨State.forall_setProbe hprobes (htemp (hprobes e)), hreport⟩
  case invalid e p _ _ htemp => exact ⟨State.forall_setProbe hprobes (htemp (hprobes e)), hreport⟩
  case validated e _ _ =>
    exact ⟨State.forall_setProbe hprobes (Probe.cleared_conditioned (hprobes e) _ _), hreport⟩
  case probes ps _ _ htemp => exact ⟨fun e => htemp e (hprobes e), hreport⟩
  case supply k _ htemp => exact ⟨hprobes, fun v hv => (htemp v hv).elim id (hreport v)⟩
  all_goals exact ⟨hprobes, hreport⟩

theorem State.reset_temperaturesInRange : State.reset.TemperaturesInRange := by
  have hpublished : ∀ e, (State.reset.probe e).published = none := by decide
  have hcounts : ∀ e, (State.reset.probe e).accCount < (State.reset.probe e).depth ∧
      (State.reset.probe e).accSum ≤ 5760 * (State.reset.probe e).accCount := by decide
  refine ⟨fun e => ⟨(hcounts e).1, (hcounts e).2, fun v hv => ?_⟩, nofun⟩
  rw [hpublished e] at hv
  cases hv

/-- Ranges of the temperatures are a law of the part. -/
theorem State.temperaturesInRange_law : State.Law State.TemperaturesInRange :=
  State.law_of_changes (fun _ _ h => h) (fun _ _ => State.reset_temperaturesInRange)
    (fun _ _ h => h.run) (fun _ _ h => h.write) (fun _ _ h => h)

/-- The rounded mean of values within a limit lies within it. -/
theorem pairMean_le {b v : Nat} {l : List Nat} (hl : ∀ x ∈ l, x ≤ b) (h : pairMean l = some v) :
    v ≤ b := by
  match l, h with
  | [_], rfl => exact hl _ (List.mem_singleton_self _)
  | x :: y :: _, h =>
    have hx := hl x (by simp)
    have hy := hl y (by simp)
    simp only [pairMean, Option.some.injEq] at h
    omega

/-- Values that the map takes from entries lie within their limit. -/
theorem State.published_le {s : State} (h : s.TemperaturesInRange) {test : Fin 32 → Bool} :
    ∀ x ∈ probeIds.filterMap fun e => if test e then (s.probe e).published else none, x ≤ 5760 := by
  intro x hx
  obtain ⟨e, -, he⟩ := List.mem_filterMap.mp hx
  split at he
  · exact (h.1 e).2.2 x he
  · cases he

theorem State.loopReturn_le {s : State} (h : s.TemperaturesInRange) {i : Fin 16} {v : Nat}
    (hv : s.loopReturn i = some v) : v ≤ 5760 :=
  pairMean_le (State.published_le h) hv

theorem State.supplyInUse_le {s : State} (h : s.TemperaturesInRange) {v : Nat}
    (hv : s.supplyInUse = some v) : v ≤ 5760 := by
  unfold State.supplyInUse at hv
  split at hv
  · rename_i hmean
    cases hv
    exact pairMean_le (State.published_le h) hmean
  · split at hv
    · exact h.2 v hv
    · cases hv

/-- Settles O53: `State.TemperaturesInRange` is a law, and means of values in range lie in range. -/
theorem temperaturesStayInRange : Obligations.TemperaturesStayInRange :=
  ⟨fun _ _ h hstep => State.temperaturesInRange_law.step h hstep,
    fun _ _ _ h hv => hv.elim (State.loopReturn_le h) (State.supplyInUse_le h)⟩

/-! ## Every command completes (assumptions 1, 4 and 24) -/

/-- The queue, the clock and the straps of t are those of s. -/
def State.SameOutside (s t : State) : Prop := t.pending = s.pending ∧ t.now = s.now ∧ t.strap = s.strap

theorem State.SameOutside.trans {s t u : State} (h : s.SameOutside t) (g : t.SameOutside u) :
    s.SameOutside u :=
  ⟨g.1.trans h.1, g.2.1.trans h.2.1, g.2.2.trans h.2.2⟩

theorem State.RunStep.sameOutside {s t : State} (h : s.RunStep t) : s.SameOutside t :=
  ⟨h.pending, h.now, h.strap⟩

theorem State.TableWrite.sameOutside {s t : State} (h : s.TableWrite t) : s.SameOutside t := by
  cases h <;> exact ⟨rfl, rfl, rfl⟩

theorem State.Changes.sameOutside {s t : State} (h : s.Changes t) : s.SameOutside t :=
  h.keep (P := s.SameOutside) (fun _ _ hu hr => hu.trans hr.sameOutside)
    (fun _ _ hu hw => hu.trans hw.sameOutside) ⟨rfl, rfl, rfl⟩

theorem State.Events.sameOutside {s t : State} (h : s.Events t) : s.SameOutside t :=
  h.keep (P := s.SameOutside) (fun _ _ hu he => hu.trans he.changes.sameOutside) ⟨rfl, rfl, rfl⟩

/-- A command that begins a transmission ends in what begins. -/
theorem exec_begun {c : Instr} (h : isBeginning c = true) (s : State) :
    ∃ t, exec c s = .next t ∧ s.Begun t := by
  cases c <;> simp only [isBeginning, Bool.false_eq_true] at h
  · exact ⟨_, rfl, .transmission s _⟩
  · exact ⟨_, rfl, .headOrder s⟩
  · exact ⟨_, rfl, .notice s⟩

theorem everyCommandHasNextState : Parts.EveryCommandHasNextState := by
  intro c s
  by_cases hp : ∃ b, c = .powerOn b
  · obtain ⟨b, rfl⟩ := hp
    exact ⟨_, rfl⟩
  · cases hb : isBeginning c
    · obtain ⟨t, ht, -⟩ := exec_events c s (fun b e => hp ⟨b, e⟩) hb
      exact ⟨t, ht⟩
    · obtain ⟨t, ht, -⟩ := exec_begun hb s
      exact ⟨t, ht⟩

theorem queueAndClockUntouched : Parts.QueueAndClockUntouched := by
  intro c s t he
  by_cases hp : ∃ b, c = .powerOn b
  · obtain ⟨b, rfl⟩ := hp
    cases he
    exact ⟨rfl, fun h => absurd rfl (h b)⟩
  · have hsame : s.SameOutside t := by
      cases hb : isBeginning c
      · obtain ⟨u, hu, hevents⟩ := exec_events c s (fun b e => hp ⟨b, e⟩) hb
        obtain rfl : t = u := by rw [he] at hu; injection hu
        exact s.beginAll_step.run.sameOutside.trans hevents.sameOutside
      · obtain ⟨u, hu, hbegun⟩ := exec_begun hb s
        obtain rfl : t = u := by rw [he] at hu; injection hu
        exact hbegun.beginStep.run.sameOutside
    obtain ⟨hpending, hnow, hstrap⟩ := hsame
    exact ⟨hpending, fun _ => ⟨hnow, hstrap⟩⟩

/-- Settles O3: every command is POWER_ON, a beginning, or made of events on the part as the beginnings
leave it. -/
theorem commandsComplete : Obligations.CommandsComplete :=
  ⟨everyCommandHasNextState, queueAndClockUntouched⟩

end Sys2Proof.Machine
end

section
/-! PROOFS. The relations between tables (R4, R10, R23, R39): each run step and each table write keeps them,
and the settling of O55. -/

namespace Sys2Proof.Machine

open Sys2Proof

/-! ## Counting with one member changed -/

/-- Where a list names i at most once, a test that another implies away from i counts at most one more. -/
theorem countP_le_others {α : Type} [DecidableEq α] {l : List α} (hl : l.Nodup) {i : α}
    {p q : α → Bool} (h : ∀ j, j ≠ i → p j = true → q j = true) :
    l.countP p ≤ l.countP (fun j => j != i && q j) + 1 := by
  rw [List.countP_eq_countP_filter_add l p (fun j => j != i)]
  refine Nat.add_le_add ?_ ?_
  · rw [List.countP_filter]
    refine List.countP_mono_left fun j _ hj => ?_
    simp only [Bool.and_eq_true, bne_iff_ne] at hj ⊢
    exact ⟨hj.2, h j hj.2 hj.1⟩
  · refine (List.countP_le_length).trans ?_
    have hfilter : (l.filter fun a => !(a != i)) = l.filter (· == i) := by
      refine List.filter_congr fun a _ => ?_
      cases hai : (a == i) <;> simp_all
    rw [hfilter, ← List.countP_eq_length_filter]
    exact List.nodup_iff_count_le_one.mp hl i

theorem nodup_loopIds : loopIds.Nodup := List.nodup_finRange 16
theorem nodup_probeIds : probeIds.Nodup := List.nodup_finRange 32

theorem mem_probeIds (e : Fin 32) : e ∈ probeIds := List.mem_finRange e
theorem mem_loopIds (i : Fin 16) : i ∈ loopIds := List.mem_finRange i

/-! ## Heads (R10) -/

/-- The head that loop i is on, and whether it is enabled, are those of another state. -/
theorem State.HeadsUnshared.of_same {s t : State} (h : s.HeadsUnshared)
    (hsame : ∀ i, (s.loop i).SamePlace (t.loop i)) : t.HeadsUnshared := by
  intro i j hij hi hj
  obtain ⟨-, ai, ci, ei⟩ := hsame i
  obtain ⟨-, aj, cj, ej⟩ := hsame j
  rw [ai, ci, aj, cj]
  exact h i j hij (ei ▸ hi) (ej ▸ hj)

theorem Loop.SameSettings.samePlace {l k : Loop} (h : l.SameSettings k) : l.SamePlace k := by
  obtain ⟨hroom, haddress, hchannel, -, -, -, -, -, -, -, -, -, -, henabled⟩ := h
  exact ⟨hroom, haddress, hchannel, henabled⟩

theorem Loop.SamePlace.refl (l : Loop) : l.SamePlace l := ⟨rfl, rfl, rfl, rfl⟩

/-- A loop that is out shares no head, wherever it is bound. -/
theorem State.HeadsUnshared.setLoop_out {s : State} (h : s.HeadsUnshared) (i : Fin 16) {l : Loop}
    (hl : l.enabled = false) : (s.setLoop i l).HeadsUnshared := by
  intro j k hjk hj hk
  have hij : i ≠ j := by rintro rfl; rw [State.loop_setLoop_self, hl] at hj; cases hj
  have hik : i ≠ k := by rintro rfl; rw [State.loop_setLoop_self, hl] at hk; cases hk
  rw [State.loop_setLoop_ne _ hij] at hj ⊢
  rw [State.loop_setLoop_ne _ hik] at hk ⊢
  exact h j k hjk hj hk

/-- A loop joins on a head that no other enabled loop is on. -/
theorem State.HeadsUnshared.setLoop_free {s : State} (h : s.HeadsUnshared) (i : Fin 16) {l : Loop}
    (hfree : ∀ j, j ≠ i → (s.loop j).enabled = true →
      ¬((s.loop j).driverAddress = l.driverAddress ∧ (s.loop j).headChannel = l.headChannel)) :
    (s.setLoop i l).HeadsUnshared := by
  intro j k hjk hj hk
  by_cases hij : i = j
  · subst hij
    rw [State.loop_setLoop_ne _ hjk] at hk ⊢
    rw [State.loop_setLoop_self]
    exact fun e => hfree k hjk.symm hk ⟨e.1.symm, e.2.symm⟩
  · rw [State.loop_setLoop_ne _ hij] at hj ⊢
    by_cases hik : i = k
    · subst hik
      rw [State.loop_setLoop_self]
      exact hfree j hjk hj
    · rw [State.loop_setLoop_ne _ hik] at hk ⊢
      exact h j k hjk hj hk

/-- A loop that passes the checks of ENABLE finds its head free (R10 check 5). -/
theorem State.headFree_of_enableFails {s : State} {i : Fin 16} (h : s.enableFails i = none)
    (j : Fin 16) (hj : j ≠ i) (hen : (s.loop j).enabled = true) :
    ¬((s.loop j).driverAddress = (s.loop i).driverAddress ∧
      (s.loop j).headChannel = (s.loop i).headChannel) := by
  have huse : s.headInUse i = false := by
    unfold State.enableFails at h
    split_ifs at h
    simp_all
  simp only [State.headInUse, List.any_eq_false] at huse
  have := huse j (mem_loopIds j)
  simp only [Loop.sameHead, hen, Bool.true_or, Bool.and_true, Bool.and_eq_true, bne_iff_ne,
    beq_iff_eq] at this
  exact fun e => this ⟨hj, e⟩

/-! ## Rooms (R4, R23) -/

theorem State.length_loopList (s : State) (r : Fin 12) :
    (s.loopList r).length = loopIds.countP fun i => (s.loop i).room == some r :=
  List.countP_eq_length_filter.symm

/-- Where no loop has come to room r, it has no more loops than before. -/
theorem State.length_loopList_le {s t : State} {r : Fin 12}
    (h : ∀ i, (t.loop i).room = some r → (s.loop i).room = some r) :
    (t.loopList r).length ≤ (s.loopList r).length := by
  rw [State.length_loopList, State.length_loopList]
  refine List.countP_mono_left fun i _ hi => ?_
  simp only [beq_iff_eq] at hi ⊢
  exact h i hi

theorem State.RoomsNotCrowded.of_rooms {s t : State} (h : s.RoomsNotCrowded)
    (hroom : ∀ i, (t.loop i).room = (s.loop i).room) : t.RoomsNotCrowded :=
  fun r => (State.length_loopList_le fun i hi => hroom i ▸ hi).trans (h r)

/-- A record stored in place of another leaves the room of every loop when it leaves its own. -/
theorem State.room_setLoop_eq {s : State} {i : Fin 16} {l : Loop} (h : l.room = (s.loop i).room)
    (j : Fin 16) : ((s.setLoop i l).loop j).room = (s.loop j).room := by
  rw [State.loop_setLoop]
  split
  · rename_i e; subst e; exact h
  · rfl

/-- A loop comes to a room that has fewer than three others. -/
theorem State.RoomsNotCrowded.loopRoom {s : State} (h : s.RoomsNotCrowded) (i : Fin 16)
    (r : Option (Fin 12)) (hfew : ∀ q, r = some q → ((s.loopList q).countP fun j => j != i) < 3) :
    (s.updLoop i fun l => { l with room := r }).RoomsNotCrowded := by
  intro q
  have hother (j : Fin 16) (hj : j ≠ i) :
      ((s.updLoop i fun l => { l with room := r }).loop j).room = (s.loop j).room := by
    rw [State.loop_updLoop_ne _ hj.symm]
  by_cases hr : r = some q
  · have hlt := hfew q hr
    rw [State.loopList, List.countP_filter] at hlt
    rw [State.length_loopList]
    refine (countP_le_others (q := fun j => (s.loop j).room == some q) nodup_loopIds
      fun j hj hp => hother j hj ▸ hp).trans hlt
  · refine (State.length_loopList_le fun j hj => ?_).trans (h q)
    by_cases hij : j = i
    · subst hij
      rw [State.loop_updLoop_self] at hj
      exact absurd hj hr
    · exact hother j hij ▸ hj

theorem State.UnitsUnique.of_units {s t : State} (h : s.UnitsUnique)
    (hunit : ∀ r, (t.room r).unitAddress = (s.room r).unitAddress) : t.UnitsUnique := by
  intro q r hqr
  rw [hunit, hunit]
  exact h q r hqr

theorem State.UnitsUnique.setRoom {s : State} (h : s.UnitsUnique) (r : Fin 12) {k : Room}
    (hk : k.unitAddress = 0 ∨ ∀ q, q ≠ r → (s.room q).unitAddress ≠ k.unitAddress) :
    (s.setRoom r k).UnitsUnique := by
  intro p q hpq
  rw [State.room_setRoom, State.room_setRoom]
  split <;> rename_i hp <;> split <;> rename_i hq
  · exact absurd (hp.symm.trans hq) hpq
  · exact fun h0 e => hk.elim h0 fun hfree => hfree q (fun e => hq e.symm) e.symm
  · intro h0 e
    exact hk.elim (fun h0' => h0 (e.trans h0')) fun hfree => hfree p (fun e => hp e.symm) e
  · exact h p q hpq

/-! ## The probe map (R39) -/

theorem Probe.SameIdentity.returnOf {p q : Probe} (h : p.SameIdentity q) (i : Fin 16) :
    q.returnOf i = p.returnOf i := by
  obtain ⟨hv, -, -, hr, hl⟩ := h
  simp [Probe.returnOf, hv, hr, hl]

theorem Probe.SameIdentity.isSupply {p q : Probe} (h : p.SameIdentity q) : q.isSupply = p.isSupply := by
  obtain ⟨hv, -, -, hr, -⟩ := h
  simp [Probe.isSupply, hv, hr]

theorem Probe.SameIdentity.refl (p : Probe) : p.SameIdentity p := ⟨rfl, rfl, rfl, rfl, rfl⟩

/-- The map is sound where each entry is as in a sound map, or invalid. -/
theorem State.MapSound.of_entries {s t : State} (h : s.MapSound)
    (hentry : ∀ e, (t.probe e).valid = false ∨ (s.probe e).SameIdentity (t.probe e)) : t.MapSound := by
  obtain ⟨hchannel, hmodule, hreturn, hsupply⟩ := h
  have hsame (e : Fin 32) (hv : (t.probe e).valid = true) : (s.probe e).SameIdentity (t.probe e) :=
    (hentry e).resolve_left (by simp [hv])
  refine ⟨fun d e hde hd he => ?_, fun e he => ?_, fun i => ?_, ?_⟩
  · obtain ⟨vd, ad, cd, -, -⟩ := hsame d hd
    obtain ⟨ve, ae, ce, -, -⟩ := hsame e he
    rw [ad, cd, ae, ce]
    exact hchannel d e hde (vd ▸ hd) (ve ▸ he)
  · obtain ⟨ve, ae, -, -, -⟩ := hsame e he
    rw [ae]
    exact hmodule e (ve ▸ he)
  · refine (List.countP_mono_left fun e _ he => ?_).trans (hreturn i)
    have hv : (t.probe e).valid = true := by
      simp only [Probe.returnOf, Bool.and_eq_true] at he
      exact he.1.1
    rw [← (hsame e hv).returnOf i]
    exact he
  · refine (List.countP_mono_left fun e _ he => ?_).trans hsupply
    have hv : (t.probe e).valid = true := by
      simp only [Probe.isSupply, Bool.and_eq_true] at he
      exact he.1
    rw [← (hsame e hv).isSupply]
    exact he

/-- What the checks of a validation have found (R39). -/
theorem State.validationFails_none {s : State} {e : Fin 32} (h : s.validationFails e = none) :
    (s.probe e).moduleAddress ≠ 0 ∧
    (∀ d, d ≠ e → (s.probe d).valid = true →
      ¬((s.probe d).moduleAddress = (s.probe e).moduleAddress ∧
        (s.probe d).channel = (s.probe e).channel)) ∧
    ((s.probe e).role = .returnWater →
      (s.othersValid e fun q => q.role == .returnWater && q.loop == (s.probe e).loop) < 2) ∧
    ((s.probe e).role = .supplyWater → (s.othersValid e fun q => q.role == .supplyWater) < 2) := by
  unfold State.validationFails at h
  dsimp only at h
  split at h
  · cases h
  · rename_i hmodule
    split at h
    · cases h
    · rename_i hchannel
      refine ⟨hmodule, fun d hde hd hsame => hchannel ?_, fun hr => ?_, fun hr => ?_⟩
      · refine List.countP_pos_iff.mpr ⟨d, mem_probeIds d, ?_⟩
        simp [hde, hd, hsame]
      · simp only [hr, Config.maxPaired] at h
        split at h
        · cases h
        · omega
      · simp only [hr, Config.maxPaired] at h
        split at h
        · cases h
        · omega

/-- A validation that passes its checks leaves the map sound. -/
theorem State.MapSound.validated {s : State} (h : s.MapSound) {e : Fin 32}
    (hv : (s.probe e).valid = false) (hpass : s.validationFails e = none) :
    (s.setProbe e ((s.probe e).cleared true s.now)).MapSound := by
  obtain ⟨hchannel, hmodule, hreturn, hsupply⟩ := h
  obtain ⟨hm, hfree, hret, hsup⟩ := State.validationFails_none hpass
  have hself : (s.setProbe e ((s.probe e).cleared true s.now)).probe e =
      (s.probe e).cleared true s.now := State.probe_setProbe_self ..
  have hother (d : Fin 32) (hd : d ≠ e) :
      (s.setProbe e ((s.probe e).cleared true s.now)).probe d = s.probe d := by
    rw [State.probe_setProbe, if_neg hd.symm]
  refine ⟨fun d f hdf hd hf => ?_, fun d hd => ?_, fun i => ?_, ?_⟩
  · by_cases hde : d = e
    · subst hde
      rw [hother f hdf.symm] at hf ⊢
      rw [hself]
      exact fun e => hfree f hdf.symm hf ⟨e.1.symm, e.2.symm⟩
    · rw [hother d hde] at hd ⊢
      by_cases hfe : f = e
      · subst hfe
        rw [hself]
        exact hfree d hde hd
      · rw [hother f hfe] at hf ⊢
        exact hchannel d f hdf hd hf
  · by_cases hde : d = e
    · subst hde
      rw [hself]
      exact hm
    · rw [hother d hde] at hd ⊢
      exact hmodule d hd
  · by_cases hi : (s.probe e).role = .returnWater ∧ (s.probe e).loop = i
    · obtain ⟨hr, rfl⟩ := hi
      have hcount := countP_le_others nodup_probeIds (i := e)
        (p := fun d => ((s.setProbe e ((s.probe e).cleared true s.now)).probe d).returnOf
          (s.probe e).loop)
        (q := fun d => (s.probe d).valid && ((s.probe d).role == .returnWater &&
          (s.probe d).loop == (s.probe e).loop)) fun d hd hp => by
            rw [hother d hd] at hp
            simpa [Probe.returnOf, and_assoc] using hp
      have hlt := hret hr
      simp only [State.othersValid, Bool.and_assoc] at hlt
      omega
    · refine (List.countP_mono_left fun d _ hd => ?_).trans (hreturn i)
      by_cases hde : d = e
      · subst hde
        rw [hself] at hd
        simp only [Probe.returnOf, Probe.cleared, Bool.and_eq_true, beq_iff_eq] at hd
        exact absurd ⟨hd.1.2, hd.2⟩ hi
      · rwa [hother d hde] at hd
  · by_cases hr : (s.probe e).role = .supplyWater
    · have hcount := countP_le_others nodup_probeIds (i := e)
        (p := fun d => ((s.setProbe e ((s.probe e).cleared true s.now)).probe d).isSupply)
        (q := fun d => (s.probe d).valid && (s.probe d).role == .supplyWater) fun d hd hp => by
            rw [hother d hd] at hp
            simpa [Probe.isSupply] using hp
      have hlt := hsup hr
      simp only [State.othersValid, Bool.and_assoc] at hlt
      omega
    · refine (List.countP_mono_left fun d _ hd => ?_).trans hsupply
      by_cases hde : d = e
      · subst hde
        rw [hself] at hd
        simp only [Probe.isSupply, Probe.cleared, Bool.and_eq_true, beq_iff_eq] at hd
        exact absurd hd.2 hr
      · rwa [hother d hde] at hd

/-! ## The law -/

theorem State.TablesRelated.run {s t : State} (h : s.TablesRelated) (hr : s.RunStep t) :
    t.TablesRelated := by
  obtain ⟨hheads, hrooms, hunits, hmap⟩ := h
  have hplace (i : Fin 16) := (hr.settings i).samePlace
  refine ⟨hheads.of_same hplace, hrooms.of_rooms fun i => (hplace i).1,
    hunits.of_units fun r => by rw [hr.room], hmap.of_entries fun e => .inr ?_⟩
  rw [hr.probe]
  exact .refl _

theorem State.TablesRelated.write {s t : State} (h : s.TablesRelated) (hw : s.TableWrite t) :
    t.TablesRelated := by
  obtain ⟨hheads, hrooms, hunits, hmap⟩ := h
  have entries {e : Fin 32} {p : Probe} (h : p.valid = false ∨ (s.probe e).SameIdentity p) :
      (s.setProbe e p).TablesRelated := by
    refine ⟨hheads, hrooms, hunits, hmap.of_entries fun d => ?_⟩
    rw [State.probe_setProbe]
    split
    · rename_i hed; subst hed; exact h
    · exact .inr (.refl _)
  cases hw
  case loop i l hplace _ =>
    refine ⟨hheads.of_same fun j => ?_, hrooms.of_rooms (State.room_setLoop_eq hplace.1), hunits, hmap⟩
    rw [State.loop_setLoop]
    split
    · rename_i hij; subst hij; exact hplace
    · exact .refl _
  case binding i l hout hroom _ =>
    exact ⟨hheads.setLoop_out i hout, hrooms.of_rooms (State.room_setLoop_eq hroom), hunits, hmap⟩
  case loopRoom i r hout hfew => exact ⟨hheads.setLoop_out i hout, hrooms.loopRoom i r hfew, hunits, hmap⟩
  case joining i l hpass hsame =>
    obtain ⟨hroom, haddress, hchannel, -⟩ := hsame.samePlace
    refine ⟨hheads.setLoop_free i ?_, hrooms.of_rooms (State.room_setLoop_eq hroom), hunits, hmap⟩
    rw [haddress, hchannel]
    exact State.headFree_of_enableFails hpass
  case leaving i l hsame =>
    obtain ⟨hroom, -, -, henabled⟩ := hsame.samePlace
    exact ⟨hheads.setLoop_out i henabled, hrooms.of_rooms (State.room_setLoop_eq hroom), hunits, hmap⟩
  case room r k hunit _ =>
    refine ⟨hheads, hrooms, hunits.of_units fun q => ?_, hmap⟩
    rw [State.room_setRoom]
    split
    · rename_i hrq; subst hrq; exact hunit
    · rfl
  case unit r k hunit _ => exact ⟨hheads, hrooms, hunits.setRoom r hunit, hmap⟩
  case probe e p hsame _ _ => exact entries (.inr hsame)
  case invalid e p hinvalid _ _ => exact entries (.inl hinvalid)
  case validated e hv hpass => exact ⟨hheads, hrooms, hunits, hmap.validated hv hpass⟩
  case probes ps hsame _ _ => exact ⟨hheads, hrooms, hunits, hmap.of_entries fun e => .inr (hsame e)⟩
  all_goals exact ⟨hheads, hrooms, hunits, hmap⟩

/-- After power-on no loop is enabled, no room has a loop or a unit, and no entry is valid. -/
theorem State.reset_tablesRelated : State.reset.TablesRelated := by
  have hout (i : Fin 16) : (State.reset.loop i).enabled = false := by rw [State.loop_reset]; rfl
  refine ⟨fun i j _ hi => ?_, by unfold State.RoomsNotCrowded; decide, by unfold State.UnitsUnique; decide, ?_⟩
  · rw [hout] at hi
    cases hi
  · have hinvalid : ∀ e, (State.reset.probe e).valid = false := by decide
    refine ⟨fun d e _ hd => ?_, fun e he => ?_, by decide, by decide⟩
    · rw [hinvalid] at hd; cases hd
    · rw [hinvalid] at he; cases he

/-- The relations between tables are a law of the part. -/
theorem State.tablesRelated_law : State.Law State.TablesRelated :=
  State.law_of_changes (fun _ _ h => h) (fun _ _ => State.reset_tablesRelated)
    (fun _ _ h => h.run) (fun _ _ h => h.write) (fun _ _ h => h)

/-- Settles O55: `State.TablesRelated` is a law. -/
theorem tablesStayRelated : Obligations.TablesStayRelated :=
  fun _ _ h hstep => State.tablesRelated_law.step h hstep

end Sys2Proof.Machine
end

section
/-! PROOFS. What the placing of an action can change (`State.PlaceStep`), and the bounds of the queues (R111,
R151): the settling of O54. -/

namespace Sys2Proof.Machine

open Sys2Proof

/-! ## Placings (R95 to R98) -/

/-- t differs from s in the lists of the head arbiter, and in the wanted action, the head and the settle
interval of the loops. -/
def State.PlaceStep (s t : State) : Prop :=
  t = { s with loops := t.loops, orders := t.orders, waits := t.waits } ∧
  ∀ j, t.loop j = { s.loop j with
    wanted := (t.loop j).wanted, head := (t.loop j).head, settle := (t.loop j).settle }

theorem State.PlaceStep.refl (s : State) : s.PlaceStep s := ⟨rfl, fun _ => rfl⟩

theorem State.PlaceStep.trans {s t u : State} (h : s.PlaceStep t) (g : t.PlaceStep u) :
    s.PlaceStep u := by
  refine ⟨?_, fun j => ?_⟩
  · rw [g.1, h.1]
  · rw [g.2 j, h.2 j]

section fields

variable {s t : State} (h : s.PlaceStep t)
include h

theorem State.PlaceStep.alloc : t.alloc = s.alloc := by rw [h.1]
theorem State.PlaceStep.notices : t.notices = s.notices := by rw [h.1]
theorem State.PlaceStep.portH : t.portH = s.portH := by rw [h.1]
theorem State.PlaceStep.portM : t.portM = s.portM := by rw [h.1]
theorem State.PlaceStep.mode : t.mode = s.mode := by rw [h.1]
theorem State.PlaceStep.general : t.general = s.general := by rw [h.1]
theorem State.PlaceStep.supply : t.supply = s.supply := by rw [h.1]
theorem State.PlaceStep.pattern : t.pattern = s.pattern := by rw [h.1]
theorem State.PlaceStep.t0 : t.t0 = s.t0 := by rw [h.1]
theorem State.PlaceStep.profiles : t.profiles = s.profiles := by rw [h.1]

end fields

theorem State.updLoop_placeStep (s : State) (i : Fin 16) (f : Loop → Loop)
    (h : f (s.loop i) = { s.loop i with
      wanted := (f (s.loop i)).wanted, head := (f (s.loop i)).head
      settle := (f (s.loop i)).settle }) : s.PlaceStep (s.updLoop i f) := by
  refine ⟨rfl, fun j => ?_⟩
  rw [State.loop_updLoop]
  split
  · rename_i hij; subst hij; exact h
  · rfl

theorem State.setHead_placeStep (s : State) (i : Fin 16) (h : HeadState) :
    s.PlaceStep (s.setHead i h) := s.updLoop_placeStep i _ rfl

theorem State.setWaits_placeStep (s : State) (w : List WaitEntry) :
    s.PlaceStep { s with waits := w } := ⟨rfl, fun _ => rfl⟩

theorem State.setOrders_placeStep (s : State) (o : List HeadOrder) :
    s.PlaceStep { s with orders := o } := ⟨rfl, fun _ => rfl⟩

theorem State.leaveWaits_placeStep (s : State) (i : Fin 16) : s.PlaceStep (s.leaveWaits i) :=
  ⟨rfl, fun _ => rfl⟩

theorem State.order_placeStep (s : State) (i : Fin 16) (a : Action) : s.PlaceStep (s.order i a) :=
  (s.setHead_placeStep i _).trans (State.setOrders_placeStep _ _)

theorem State.replaceOrder_placeStep (s : State) (i : Fin 16) (a : Action) :
    s.PlaceStep (s.replaceOrder i a) := (s.setHead_placeStep i _).trans (State.setOrders_placeStep _ _)

theorem State.askToEnergise_placeStep (s : State) (i : Fin 16) : s.PlaceStep (s.askToEnergise i) := by
  unfold State.askToEnergise
  split
  · exact s.order_placeStep i _
  · exact (s.setHead_placeStep i _).trans (State.setWaits_placeStep _ _)

theorem State.askToRelease_placeStep (s : State) (i : Fin 16) : s.PlaceStep (s.askToRelease i) := by
  unfold State.askToRelease
  split
  · exact .refl s
  · split
    · exact s.order_placeStep i _
    · exact s.setWaits_placeStep _

theorem State.placeEnergise_placeStep (s : State) (i : Fin 16) (r : Bool) :
    s.PlaceStep (s.placeEnergise i r) := by
  unfold State.placeEnergise
  cases (s.loop i).head <;> dsimp only
  case released | idleUnknown | silentRelease =>
    exact (s.leaveWaits_placeStep i).trans (State.askToEnergise_placeStep _ i)
  case releasePending =>
    split
    · exact s.replaceOrder_placeStep i _
    · exact .refl s
  case silentEnergise =>
    split
    · exact s.order_placeStep i _
    · exact .refl s
  all_goals exact .refl s

theorem State.placeRelease_placeStep (s : State) (i : Fin 16) (r : Bool) :
    s.PlaceStep (s.placeRelease i r) := by
  unfold State.placeRelease
  cases (s.loop i).head <;> dsimp only
  case energised | silentEnergise => exact s.order_placeStep i _
  case energisePending =>
    split
    · exact s.replaceOrder_placeStep i _
    · exact .refl s
  case energiseWait =>
    split
    · exact (s.leaveWaits_placeStep i).trans (State.setHead_placeStep _ i _)
    · exact ((s.leaveWaits_placeStep i).trans (State.setHead_placeStep _ i _)).trans
        (State.askToRelease_placeStep _ i)
  case idleUnknown => exact s.askToRelease_placeStep i
  case silentRelease =>
    split
    · exact s.askToRelease_placeStep i
    · exact .refl s
  all_goals exact .refl s

theorem State.place_placeStep (s : State) (i : Fin 16) (a : Action) (r : Bool) :
    s.PlaceStep (s.place i a r) := by
  unfold State.place
  split
  · exact .refl s
  · cases a
    · exact s.placeRelease_placeStep i r
    · exact s.placeEnergise_placeStep i r

theorem State.want_placeStep (s : State) (i : Fin 16) (a : Action) (r : Bool) :
    s.PlaceStep (s.want i a r) :=
  (s.updLoop_placeStep i (fun l => { l with wanted := some a }) rfl).trans (State.place_placeStep _ i a r)

theorem State.placeDiffering_placeStep (s : State) (i : Fin 16) (a : Action) :
    s.PlaceStep (s.placeDiffering i a) := by
  unfold State.placeDiffering
  split
  · exact .refl s
  · split
    · exact .refl s
    · exact s.place_placeStep i _ _

theorem State.grantSlot_placeStep (s : State) : s.PlaceStep s.grantSlot := by
  unfold State.grantSlot
  split
  · exact .refl s
  · exact (s.leaveWaits_placeStep _).trans (State.order_placeStep _ _ _)

theorem State.wantAll_placeStep (s : State) (f : State → Fin 16 → Action) (is : List (Fin 16)) :
    s.PlaceStep (is.foldl (fun s i => s.want i (f s i) false) s) := by
  induction is generalizing s with
  | nil => exact .refl s
  | cons i is ih => exact (s.want_placeStep i _ false).trans (ih _)

/-! ## The queues (R111, R151) -/

/-- Ports and notices as they stood keep the bounds. -/
theorem State.QueuesBounded.of_eq {s t : State} (h : s.QueuesBounded)
    (hH : t.portH.queue = s.portH.queue) (hM : t.portM.queue = s.portM.queue)
    (hN : t.notices = s.notices) : t.QueuesBounded := by
  unfold State.QueuesBounded at *
  rwa [hH, hM, hN]

theorem State.QueuesBounded.place {s t : State} (h : s.QueuesBounded) (hp : s.PlaceStep t) :
    t.QueuesBounded := h.of_eq (by rw [hp.portH]) (by rw [hp.portM]) hp.notices

theorem State.QueuesBounded.raise {s : State} (h : s.QueuesBounded) (k : NoticeKind) (n : Option Nat)
    (v : Option Int) : (s.raise k n v).QueuesBounded := by
  obtain ⟨hH, hM, hlength, hdistinct⟩ := h
  exact ⟨hH, hM, Notices.raise_length k n v hlength, Notices.raise_distinct k n v hdistinct⟩

/-- Other notices, fewer about the same. -/
theorem State.QueuesBounded.notices {s : State} (h : s.QueuesBounded) {n : Notices}
    (hn : n.topics.Sublist s.notices.topics) : State.QueuesBounded { s with notices := n } := by
  obtain ⟨hH, hM, hlength, hdistinct⟩ := h
  obtain ⟨hl, hd⟩ := Notices.bounds_of_sublist hn
  exact ⟨hH, hM, hl hlength, hd hdistinct⟩

/-- A port with a queue that is no longer. -/
theorem State.QueuesBounded.setPort {s : State} (h : s.QueuesBounded) (p : PortId) {k : Port}
    (hk : k.queue.length ≤ (s.port p).queue.length) : (s.setPort p k).QueuesBounded := by
  obtain ⟨hH, hM, hN⟩ := h
  cases p
  · exact ⟨hk.trans hH, hM, hN⟩
  · exact ⟨hH, hk.trans hM, hN⟩

theorem State.QueuesBounded.mapLoops {s : State} (h : s.QueuesBounded) (f : Fin 16 → Loop → Loop) :
    (s.mapLoops f).QueuesBounded :=
  h.of_eq (by rw [State.portH_mapLoops]) (by rw [State.portM_mapLoops]) (s.notices_mapLoops f)

theorem State.QueuesBounded.setMode {s : State} (h : s.QueuesBounded) (m : Mode) :
    State.QueuesBounded { s with mode := m } := h.of_eq rfl rfl rfl

/-- A fold of changes that each keep the bounds keeps them. -/
theorem State.QueuesBounded.foldl {α : Type} {f : State → α → State}
    (hf : ∀ s a, State.QueuesBounded s → (f s a).QueuesBounded) (l : List α) {s : State}
    (h : s.QueuesBounded) : (l.foldl f s).QueuesBounded := by
  induction l generalizing s with
  | nil => exact h
  | cons a l ih => exact ih (hf s a h)

/-! ### The allocator and the causes -/

theorem State.QueuesBounded.closeShed {s : State} (h : s.QueuesBounded) (i : Fin 16) :
    (s.closeShed i).QueuesBounded := by
  unfold State.closeShed
  dsimp only
  split
  · refine State.QueuesBounded.place ?_ (State.want_placeStep _ i _ _)
    exact h.of_eq rfl rfl rfl
  · exact h.of_eq rfl rfl rfl

theorem State.QueuesBounded.shedStep {s : State} (level : Nat) (h : s.QueuesBounded) (i : Fin 16) :
    (State.shedStep level s i).QueuesBounded := by
  unfold State.shedStep
  dsimp only
  split
  · split
    · refine State.QueuesBounded.closeShed ?_ i
      exact h.of_eq rfl rfl rfl
    · exact h
  · split
    · refine State.QueuesBounded.closeShed ?_ i
      exact h.of_eq rfl rfl rfl
    · exact h
  · split
    · exact h
    · exact h.of_eq rfl rfl rfl
  all_goals exact h

theorem State.QueuesBounded.allocate {s : State} (h : s.QueuesBounded) : s.allocate.QueuesBounded := by
  unfold State.allocate
  dsimp only
  split
  · split
    · exact h.of_eq rfl rfl rfl
    · refine State.QueuesBounded.raise ?_ _ _ _
      exact h.of_eq rfl rfl rfl
  · exact h.of_eq rfl rfl rfl

theorem State.QueuesBounded.recompute {s : State} (h : s.QueuesBounded) :
    s.recompute.QueuesBounded := by
  unfold State.recompute
  split
  · exact State.QueuesBounded.allocate (h.foldl (fun _ i hs => hs.shedStep _ i) loopIds)
  · exact h

theorem State.QueuesBounded.updLoop {s : State} (h : s.QueuesBounded) (i : Fin 16) (f : Loop → Loop) :
    (s.updLoop i f).QueuesBounded := h

theorem State.QueuesBounded.setProbe {s : State} (h : s.QueuesBounded) (e : Fin 32) (p : Probe) :
    (s.setProbe e p).QueuesBounded := h

theorem State.QueuesBounded.addCause {s : State} (h : s.QueuesBounded) (i : Fin 16) (c : Cause) :
    (s.addCause i c).QueuesBounded := by
  unfold State.addCause
  dsimp only
  split
  · exact h
  · split
    · exact (((h.updLoop i _).updLoop i _).raise _ _ _).recompute
    · exact (((h.updLoop i _).updLoop i _).raise _ _ _).recompute
    all_goals exact (h.updLoop i _).raise _ _ _

theorem State.QueuesBounded.removeCause {s : State} (h : s.QueuesBounded) (i : Fin 16) (c : Cause) :
    (s.removeCause i c).QueuesBounded := by
  unfold State.removeCause
  dsimp only
  split
  · exact h
  · split
    · exact (h.updLoop i _).raise _ _ _
    · exact h.updLoop i _

theorem State.QueuesBounded.addProbeCause {s : State} (h : s.QueuesBounded) (i : Fin 16) :
    (s.addProbeCause i).QueuesBounded := by
  unfold State.addProbeCause
  split
  · exact h.addCause i _
  · exact h

theorem State.QueuesBounded.removeProbeCause {s : State} (h : s.QueuesBounded) (i : Fin 16) :
    (s.removeProbeCause i).QueuesBounded := by
  unfold State.removeProbeCause
  split
  · exact h
  · exact h.removeCause i _

theorem State.QueuesBounded.evaluateProbe {s : State} (h : s.QueuesBounded) (i : Fin 16) :
    (s.evaluateProbe i).QueuesBounded := by
  unfold State.evaluateProbe
  split
  · exact h.addCause i _
  · exact h.removeCause i _

/-! ### The completion checks and the stages -/

theorem State.QueuesBounded.checkHalting {s : State} (h : s.QueuesBounded) :
    s.checkHalting.QueuesBounded := by
  rcases s.checkHalting_cases with e | ⟨-, -, e⟩ <;> rw [e]
  · exact h
  · exact h.of_eq rfl rfl rfl

theorem State.QueuesBounded.checkWindDown {s : State} (h : s.QueuesBounded) :
    s.checkWindDown.QueuesBounded := by
  rcases s.checkWindDown_cases with e | ⟨-, -, n, e⟩ <;> rw [e]
  · exact h
  · exact (h.raise .patternDone none n).of_eq rfl rfl rfl

theorem State.QueuesBounded.patternSettle {s : State} (h : s.QueuesBounded) :
    s.patternSettle.QueuesBounded := by
  rw [s.patternSettle_pattern]
  exact h.of_eq rfl rfl rfl

theorem State.QueuesBounded.afterHeadEvent {s : State} (h : s.QueuesBounded) :
    s.afterHeadEvent.QueuesBounded := h.patternSettle.checkHalting.checkWindDown

theorem State.QueuesBounded.driveStage {s : State} (h : s.QueuesBounded) (st : Stage) (k : Fin 16)
    (a : Action) : (s.driveStage st k a).QueuesBounded := by
  have hstage : (s.setStage st (some k)).QueuesBounded := h.of_eq rfl rfl rfl
  exact (hstage.place (State.want_placeStep _ k a false)).patternSettle

theorem State.QueuesBounded.setPattern {s : State} (h : s.QueuesBounded) (p : Pattern) :
    State.QueuesBounded { s with pattern := p } := h.of_eq rfl rfl rfl

theorem State.QueuesBounded.endPattern {s : State} (h : s.QueuesBounded) (e : Ending) :
    (s.endPattern e).QueuesBounded := by
  have hreleased := (h.setPattern { s.pattern with intervalDue := none }).place
    (State.wantAll_placeStep _ (fun _ _ => .release) s.testingLoops)
  exact ((hreleased.mapLoops _).setPattern _).checkWindDown

theorem State.QueuesBounded.beginTest {s : State} (h : s.QueuesBounded) (k : Fin 16) :
    (s.beginTest k).QueuesBounded :=
  (h.setPattern { s.pattern with snapshot := s.readReturns }).driveStage _ k _

theorem State.QueuesBounded.nextTest {s : State} (h : s.QueuesBounded) (f : Fin 16 → Bool) :
    (s.nextTest f).QueuesBounded := by
  unfold State.nextTest
  split
  · exact h.beginTest _
  · exact h.endPattern _

theorem State.QueuesBounded.toggleDone {s : State} (h : s.QueuesBounded) (k : Fin 16) :
    (s.toggleDone k).QueuesBounded := by
  unfold State.toggleDone
  dsimp only
  split
  · exact (h.setPattern _).driveStage _ k _
  · exact (h.setPattern _).endPattern _

theorem State.QueuesBounded.enterTest {s : State} (h : s.QueuesBounded) : s.enterTest.QueuesBounded :=
  (h.mapLoops _).setMode _

theorem State.QueuesBounded.startIdentify {s : State} (h : s.QueuesBounded) (k : Fin 16)
    (toggles interval : Nat) : (s.startIdentify k toggles interval).QueuesBounded := by
  have htest : (s.enterTest.setPattern .identify k.val toggles interval).QueuesBounded :=
    h.enterTest.setPattern _
  exact htest.driveStage _ k _

theorem State.QueuesBounded.setSweep {s : State} (h : s.QueuesBounded) (w : Vector SweepResult 16) :
    State.QueuesBounded { s with sweep := w } := h.of_eq rfl rfl rfl

theorem State.QueuesBounded.startSweep {s : State} (h : s.QueuesBounded) (d r : Nat) :
    (s.startSweep d r).QueuesBounded := by
  have hset : ((s.enterTest.setPattern .sweep d r 0).setStage .closingAll none).QueuesBounded :=
    (h.enterTest.setPattern _).setPattern _
  unfold State.startSweep
  dsimp only
  refine State.QueuesBounded.patternSettle (State.QueuesBounded.place ?_
    (State.wantAll_placeStep _ State.closingAction _))
  exact hset.setSweep _

theorem State.QueuesBounded.writeVerdict {s : State} (h : s.QueuesBounded) (k : Fin 16) :
    (s.writeVerdict k).QueuesBounded := by
  unfold State.writeVerdict
  dsimp only
  split
  · have hset : (s.setSweepResult k (s.verdictOf k)).QueuesBounded := h.of_eq rfl rfl rfl
    exact hset.raise _ _ _
  · exact h.of_eq rfl rfl rfl

/-! ### The drive timers -/

theorem State.QueuesBounded.damageBy {s : State} (h : s.QueuesBounded) (i : Fin 16) (c : Condition) :
    (s.damageBy i c).QueuesBounded := by
  cases c
  · exact h
  all_goals exact h.addCause i _

theorem State.QueuesBounded.clearSilent {s : State} (h : s.QueuesBounded) (i : Fin 16) :
    (s.clearSilent i).QueuesBounded := by
  unfold State.clearSilent
  split
  · exact h.removeCause i _
  · exact h

theorem State.QueuesBounded.takeEcho {s : State} (h : s.QueuesBounded) (i : Fin 16) (a : Action)
    (c : Condition) : (s.takeEcho i a c).QueuesBounded := by
  have hgood : (if (s.loop i).head == a.sent then
      ((s.confirm i a).updLoop i Loop.goodEcho).clearSilent i else s.confirm i a).QueuesBounded := by
    have hconfirmed : (s.confirm i a).QueuesBounded := h.of_eq rfl rfl rfl
    split
    · exact (hconfirmed.updLoop i _).clearSilent i
    · exact hconfirmed
  exact ((hgood.damageBy i c).place (State.placeDiffering_placeStep _ i a)).afterHeadEvent

theorem State.QueuesBounded.timeout {s : State} (h : s.QueuesBounded) (i : Fin 16) (a : Action) :
    (s.timeout i a).QueuesBounded := by
  unfold State.timeout
  dsimp only
  have hcounted : ((s.setHead i a.silent).updLoop i fun l =>
      { l with echoDue := none, misses := satInc l.misses, goodRun := 0 }).QueuesBounded :=
    (h.updLoop i _).updLoop i _
  refine (State.QueuesBounded.place ?_ (State.placeDiffering_placeStep _ i a)).afterHeadEvent
  split
  · exact hcounted.addCause i _
  · exact hcounted

theorem State.QueuesBounded.capture {s : State} (h : s.QueuesBounded) (i : Fin 16) :
    (s.capture i).QueuesBounded := by
  unfold State.capture
  dsimp only
  split
  · split
    · exact ((h.updLoop i _).updLoop i _).raise _ _ _
    · exact (h.updLoop i _).updLoop i _
  · exact (h.updLoop i _).updLoop i _

theorem State.QueuesBounded.haltingBoundary {s : State} (h : s.QueuesBounded) (i : Fin 16) :
    (s.haltingBoundary i).QueuesBounded := by
  have hwork : ((s.capture i).haltingWork i).QueuesBounded := by
    unfold State.haltingWork
    split
    · exact (h.capture i).updLoop i _
    · exact (h.capture i).updLoop i _
  exact (((hwork.place (State.want_placeStep _ i .release false)).updLoop i _).recompute).checkHalting

theorem State.QueuesBounded.faultExit {s : State} (h : s.QueuesBounded) (i : Fin 16) :
    (s.faultExit i).QueuesBounded := by
  unfold State.faultExit
  split
  · exact (h.updLoop i _).recompute
  · exact h

theorem State.QueuesBounded.stateWork {s : State} (h : s.QueuesBounded) (i : Fin 16) :
    (s.stateWork i).QueuesBounded := by
  unfold State.stateWork
  split
  · exact ((h.updLoop i _).updLoop i _).recompute
  · exact h.updLoop i _

theorem State.QueuesBounded.phaseStart {s : State} (h : s.QueuesBounded) (i : Fin 16) :
    (s.phaseStart i).QueuesBounded := (h.updLoop i _).place (State.want_placeStep _ i _ true)

theorem State.QueuesBounded.boundary {s : State} (h : s.QueuesBounded) (i : Fin 16) :
    (s.boundary i).QueuesBounded := by
  unfold State.boundary
  dsimp only
  split
  · exact (h.updLoop i _).haltingBoundary i
  · exact (((((h.updLoop i _).capture i).faultExit i).stateWork i).updLoop i _).phaseStart i

theorem State.QueuesBounded.start {s : State} (h : s.QueuesBounded) : s.start.QueuesBounded := by
  have hactive : State.QueuesBounded { s with mode := .active, t0 := some s.now } := h.of_eq rfl rfl rfl
  have hcauses := hactive.foldl (f := fun s i =>
    if (s.loop i).state = .standby then s.addProbeCause i else s) (fun u i hu => by
      split
      · exact hu.addProbeCause i
      · exact hu) loopIds
  unfold State.start
  dsimp only
  exact (hcauses.mapLoops _).recompute

/-! ### Probes, rooms and the supply -/

theorem State.QueuesBounded.evaluateHeld {s : State} (h : s.QueuesBounded) (i : Fin 16) :
    (s.evaluateHeld i).QueuesBounded := h.updLoop i _

theorem State.QueuesBounded.offerReturn {s : State} (h : s.QueuesBounded) (i : Fin 16) :
    (s.offerReturn i).QueuesBounded := by
  unfold State.offerReturn
  split
  · split
    · exact h.updLoop i _
    · exact h
  all_goals exact h

theorem State.QueuesBounded.publishTest {s : State} (h : s.QueuesBounded) (e : Fin 32) :
    (s.publishTest e).QueuesBounded := by
  unfold State.publishTest
  dsimp only
  split
  · exact h
  · split
    · exact ((h.setProbe e _).evaluateHeld _).offerReturn _
    · exact h.setProbe e _

theorem State.QueuesBounded.takeSample {s : State} (h : s.QueuesBounded) (e : Fin 32) (v : Int) :
    (s.takeSample e v).QueuesBounded := by
  unfold State.takeSample
  dsimp only
  split
  · exact h.setProbe e _
  · refine State.QueuesBounded.publishTest ?_ e
    split
    · exact ((h.setProbe e _).evaluateHeld _).removeProbeCause _
    · exact h.setProbe e _

theorem State.QueuesBounded.updRoom {s : State} (h : s.QueuesBounded) (r : Fin 12) (f : Room → Room) :
    (s.updRoom r f).QueuesBounded := h.of_eq rfl rfl rfl

theorem State.QueuesBounded.setSupply {s : State} (h : s.QueuesBounded) (k : Supply) :
    State.QueuesBounded { s with supply := k } := h.of_eq rfl rfl rfl

theorem State.QueuesBounded.updGeneral {s : State} (h : s.QueuesBounded) (f : General → General) :
    (s.updGeneral f).QueuesBounded := h.of_eq rfl rfl rfl

theorem State.QueuesBounded.roomStale {s : State} (h : s.QueuesBounded) (r : Fin 12) :
    (s.roomStale r).QueuesBounded := (h.updRoom r _).raise _ _ _

theorem State.QueuesBounded.probeStale {s : State} (h : s.QueuesBounded) (e : Fin 32) :
    (s.probeStale e).QueuesBounded := by
  unfold State.probeStale
  dsimp only
  split
  · exact ((h.setProbe e _).raise _ _ _).evaluateHeld _
  · exact (h.setProbe e _).raise _ _ _

theorem State.QueuesBounded.probeFault {s : State} (h : s.QueuesBounded) (e : Fin 32) :
    (s.probeFault e).QueuesBounded := by
  unfold State.probeFault
  dsimp only
  split
  · exact (h.setProbe e _).addProbeCause _
  · exact h.setProbe e _

theorem State.QueuesBounded.staleProbes {s : State} (h : s.QueuesBounded) :
    s.staleProbes.QueuesBounded := by
  unfold State.staleProbes
  refine h.foldl (fun u e hu => ?_) probeIds
  split
  · exact hu.probeStale e
  · exact hu

theorem State.QueuesBounded.staleRooms {s : State} (h : s.QueuesBounded) :
    s.staleRooms.QueuesBounded := by
  unfold State.staleRooms
  refine h.foldl (fun u r hu => ?_) roomIds
  split
  · exact hu.roomStale r
  · exact hu

theorem State.QueuesBounded.moveFaultExpiries {s : State} (h : s.QueuesBounded) :
    s.moveFaultExpiries.QueuesBounded := by
  unfold State.moveFaultExpiries
  generalize (Vector.ofFn _ : Vector Probe 32) = ps
  exact h.of_eq rfl rfl rfl

theorem State.QueuesBounded.supplyStale {s : State} (h : s.QueuesBounded) :
    s.supplyStale.QueuesBounded := ((h.setSupply _).raise _ _ _).recompute

/-! ### Writes -/

theorem State.QueuesBounded.tuneGeneral {s : State} (h : s.QueuesBounded) (w : Nat) (v : Int)
    (f : General → General) : (s.tuneGeneral w v f).part.QueuesBounded := by
  unfold State.tuneGeneral
  split
  · exact h
  · exact h.updGeneral f

theorem State.QueuesBounded.storeGeneral {s : State} (h : s.QueuesBounded) (hi v : Int)
    (f : General → General) : (s.storeGeneral hi v f).part.QueuesBounded := by
  unfold State.storeGeneral
  split
  · exact h
  · split
    · exact h
    · exact h.updGeneral f

theorem State.QueuesBounded.writeGeneral {s : State} (h : s.QueuesBounded) (field : GeneralField)
    (v : Int) : (s.writeGeneral field v).part.QueuesBounded := by
  cases field
  case cycleLength => exact h.tuneGeneral _ v _
  case hmax => exact h.tuneGeneral _ v _
  case fdef =>
    simp only [State.writeGeneral, State.writeFdef]
    split
    · exact (h.tuneGeneral _ v _).setSupply _
    · exact h.tuneGeneral _ v _
  case defrostShedLevel => exact h.tuneGeneral _ v _
  case probeStaleTime =>
    simp only [State.writeGeneral, State.writeProbeStaleTime]
    split
    · dsimp only
      exact (h.tuneGeneral _ v _).staleProbes
    · exact h.tuneGeneral _ v _
  case faultStaleTime =>
    simp only [State.writeGeneral, State.writeFaultStaleTime]
    split
    · dsimp only
      exact (h.tuneGeneral _ v _).moveFaultExpiries.foldl (fun u i hu => hu.evaluateProbe i) loopIds
    · exact h.tuneGeneral _ v _
  case roomStaleTime =>
    simp only [State.writeGeneral, State.writeRoomStaleTime]
    split
    · dsimp only
      exact (h.tuneGeneral _ v _).staleRooms
    · exact h.tuneGeneral _ v _
  case supplyStaleTime =>
    simp only [State.writeGeneral, State.writeSupplyStaleTime]
    split
    · dsimp only
      split
      · exact ((h.tuneGeneral _ v _).setSupply _).supplyStale
      · exact (h.tuneGeneral _ v _).setSupply _
    · exact h.tuneGeneral _ v _
  case supplySource => exact h.storeGeneral _ v _
  case overflowPolicy => exact h.storeGeneral _ v _
  case directionDefault => exact h.storeGeneral _ v _
  case noticeAddress => exact h.storeGeneral _ v _
  case manualShedLevel => exact (h.updGeneral _).recompute

/-- The storing of a loop record touches no queue. -/
theorem State.QueuesBounded.setLoop {s : State} (h : s.QueuesBounded) (i : Fin 16) (l : Loop) :
    (s.setLoop i l).QueuesBounded := h

theorem State.QueuesBounded.storeRule {s : State} (h : s.QueuesBounded) (r : Fin 24) (k : Rule) :
    (s.storeRule r k).QueuesBounded := h.of_eq rfl rfl rfl

theorem State.QueuesBounded.updCounters {s : State} (h : s.QueuesBounded) (p : PortId)
    (f : Counters → Counters) : (s.updCounters p f).QueuesBounded := h.setPort p le_rfl

theorem State.QueuesBounded.writeLoopStatic {s : State} (h : s.QueuesBounded) (field : LoopStaticField)
    (v : Int) (i : Fin 16) : (s.writeLoopStatic field v i).part.QueuesBounded := by
  unfold State.writeLoopStatic
  split
  · exact h
  · cases field <;>
      simp only [State.storeHeadBinding, State.storeLoop, State.tuneLoop, Reply.part_held]
    case driverAddress | headChannel =>
      split
      · exact h
      · split
        · exact h
        · exact h.updLoop i _
    case profile | floorClass =>
      split
      · exact h
      · exact h.updLoop i _
    all_goals exact h.updLoop i _

theorem State.QueuesBounded.writeLoopRoom {s : State} (h : s.QueuesBounded) (v : Int) (i : Fin 16) :
    (s.writeLoopRoom v i).part.QueuesBounded := by
  unfold State.writeLoopRoom
  dsimp only
  split_ifs
  all_goals exact h

theorem State.QueuesBounded.writeShare {s : State} (h : s.QueuesBounded) (field : ShareField) (v : Int)
    (i : Fin 16) : (s.writeShare field v i).part.QueuesBounded := by
  unfold State.writeShare
  cases field <;> dsimp only
  case share => exact h.setLoop i _
  all_goals
    split
    · exact h
    · exact h.setLoop i _

theorem State.QueuesBounded.writePriority {s : State} (h : s.QueuesBounded) (field : PriorityField)
    (v : Int) (i : Fin 16) : (s.writePriority field v i).part.QueuesBounded := by
  unfold State.writePriority
  cases field <;> simp only [Reply.part_held]
  case level =>
    split
    · exact (h.updLoop i _).recompute
    · exact h.updLoop i _
  case group => exact h.updLoop i _

theorem State.QueuesBounded.writeUnitAddress {s : State} (h : s.QueuesBounded) (v : Int)
    (r : Fin 12) : (s.writeUnitAddress v r).part.QueuesBounded := by
  unfold State.writeUnitAddress
  split_ifs
  all_goals exact h

theorem State.QueuesBounded.writeRoom {s : State} (h : s.QueuesBounded) (field : RoomField) (v : Int)
    (r : Fin 12) : (s.writeRoom field v r).part.QueuesBounded := by
  unfold State.writeRoom
  cases field <;> dsimp only
  case demandSource =>
    split
    · exact h
    · exact h.updRoom r _
  all_goals exact h.updRoom r _

theorem State.QueuesBounded.writeValid {s : State} (h : s.QueuesBounded) (v : Int) (e : Fin 32) :
    (s.writeValid v e).part.QueuesBounded := by
  unfold State.writeValid
  split
  · exact h
  · split
    · exact h
    · split
      · exact h
      · simp only [Reply.part_held, State.mapChanged]
        split
        · exact ((h.setProbe e _).evaluateHeld _).evaluateProbe _
        · exact h.setProbe e _

theorem State.QueuesBounded.writeProbe {s : State} (h : s.QueuesBounded) (field : ProbeField) (v : Int)
    (e : Fin 32) : (s.writeProbe field v e).part.QueuesBounded := by
  have hidentity (b : Bool) (f : Probe → Probe) : (s.writeIdentity e v b f).part.QueuesBounded := by
    unfold State.writeIdentity
    split_ifs
    · exact h
    · exact h.setProbe e _
    · exact h
  cases field
  case trim => exact h.setProbe e _
  case depth =>
    simp only [State.writeProbe]
    split
    · exact h.setProbe e _
    · exact h
  all_goals exact hidentity _ _

theorem State.QueuesBounded.writeMatch {s : State} (h : s.QueuesBounded) (r : Fin 24) (hi v : Int)
    (f : Option Nat → Rule) : (s.writeMatch r hi v f).part.QueuesBounded := by
  unfold State.writeMatch
  split_ifs
  · exact h.storeRule r _
  · exact h
  · exact h.storeRule r _

theorem State.QueuesBounded.writeRule {s : State} (h : s.QueuesBounded) (field : RuleField) (v : Int)
    (r : Fin 24) : (s.writeRule field v r).part.QueuesBounded := by
  unfold State.writeRule
  cases field <;> dsimp only
  case valid | direction | action =>
    split
    · exact h
    · exact h.storeRule r _
  case count => exact h.storeRule r _
  all_goals exact h.writeMatch r _ v _

theorem State.QueuesBounded.writeProfile {s : State} (h : s.QueuesBounded) (field : ProfileField)
    (v : Int) (p : Fin 4) : (s.writeProfile field v p).part.QueuesBounded := by
  have hset (k : Profile) : (s.setProfile p k).QueuesBounded := h.of_eq rfl rfl rfl
  unfold State.writeProfile
  dsimp only
  split
  · exact h
  · cases field <;> dsimp only
    case polarity =>
      split
      · exact h
      · exact hset _
    all_goals exact hset _

theorem State.QueuesBounded.writeCounter {s : State} (h : s.QueuesBounded) (field : CounterField)
    (index : Nat) : (s.writeCounter field index).part.QueuesBounded := by
  cases field
  case rejected entry =>
    simp only [State.writeCounter, State.writeRejected]
    split_ifs
    · exact h
    · exact h
    · exact h.setProbe _ _
    · exact h
  all_goals
    simp only [State.writeCounter]
    split
    · exact h
    · exact h.updCounters _ _

theorem State.QueuesBounded.writeClass {s : State} (h : s.QueuesBounded) (field : ClassField) (v : Int)
    (c : Fin 4) : (s.writeClass field v c).part.QueuesBounded := by
  rw [State.writeClass_eq]
  exact h.of_eq rfl rfl rfl

theorem State.QueuesBounded.withIndex {n index : Nat} {s : State} {body : Fin n → State → Reply}
    (h : s.QueuesBounded) (hb : ∀ i, (body i s).part.QueuesBounded) :
    (withIndex n index s body).part.QueuesBounded := by
  rcases withIndex_cases index s body with ⟨-, e⟩ | ⟨i, -, e⟩ <;> rw [e]
  · exact h
  · exact hb i

theorem State.QueuesBounded.writeAt {s : State} (h : s.QueuesBounded) (target : WriteTarget)
    (index : Nat) (v : Int) : (s.writeAt target index v).part.QueuesBounded := by
  cases target
  case readOnly => exact h
  case general field => exact h.writeGeneral field v
  case loopRoom => exact h.withIndex fun i => h.writeLoopRoom v i
  case loopStatic field => exact h.withIndex fun i => h.writeLoopStatic field v i
  case share field => exact h.withIndex fun i => h.writeShare field v i
  case priority field => exact h.withIndex fun i => h.writePriority field v i
  case unitAddress => exact h.withIndex fun r => h.writeUnitAddress v r
  case room field => exact h.withIndex fun r => h.writeRoom field v r
  case probeValid => exact h.withIndex fun e => h.writeValid v e
  case probe field => exact h.withIndex fun e => h.writeProbe field v e
  case rule field => exact h.withIndex fun r => h.writeRule field v r
  case hits => exact h.withIndex fun r => h.storeRule r _
  case floorClass field => exact h.withIndex fun c => h.writeClass field v c
  case profile field => exact h.withIndex fun p => h.writeProfile field v p
  case counter field => exact h.writeCounter field index

/-! ### Requests and traffic -/

theorem State.QueuesBounded.disable {s : State} (h : s.QueuesBounded) (i : Fin 16) :
    (s.disable i).QueuesBounded := by
  have hleft : (s.leaveWaitsAtDisable i).QueuesBounded := by
    unfold State.leaveWaitsAtDisable
    split
    · exact h
    · exact h.place (s.leaveWaits_placeStep i)
  have hrecomputed : (if (s.loop i).engaged then
      ((s.leaveWaitsAtDisable i).updLoop i Loop.disabled).recompute
      else (s.leaveWaitsAtDisable i).updLoop i Loop.disabled).QueuesBounded := by
    split
    · exact (hleft.updLoop i _).recompute
    · exact hleft.updLoop i _
  unfold State.disable
  dsimp only
  split
  · exact hrecomputed.place (State.want_placeStep _ i _ _)
  · exact hrecomputed

/-- A placing keeps both queues within 8, and raises at most QUEUE DROP. -/
theorem State.QueuesBounded.placeForward {s : State} (h : s.QueuesBounded) (p : PortId) (t : Telegram) :
    (s.placeForward p t).QueuesBounded := by
  obtain ⟨hH, hM, hlength, hdistinct⟩ := h
  have hport (q : PortId) : ((s.placeForward p t).port q).queue.length ≤ 8 := by
    by_cases hq : q = p
    · subst hq
      exact s.placeForward_queue q t (by cases q <;> assumption)
    · have hopp : q = opposite p := by cases p <;> cases q <;> simp_all [opposite]
      subst hopp
      rw [State.placeForward_other]
      cases p <;> assumption
  have hnotices : (s.placeForward p t).notices.entries.length ≤ 16 ∧
      (s.placeForward p t).notices.Distinct := by
    rcases s.placeForward_notices p t with e | ⟨v, e⟩ <;> rw [e]
    · exact ⟨hlength, hdistinct⟩
    · exact ⟨Notices.raise_length _ _ _ hlength, Notices.raise_distinct _ _ _ hdistinct⟩
  exact ⟨hport .h, hport .m, hnotices.1, hnotices.2⟩

theorem State.QueuesBounded.supplyRead {s : State} (h : s.QueuesBounded) (t : Telegram) :
    (s.supplyRead t).QueuesBounded := by
  unfold State.supplyRead
  dsimp only
  split
  · exact (h.setSupply _).recompute
  · exact h.setSupply _

theorem State.QueuesBounded.completeHeadOrder {s : State} (h : s.QueuesBounded) (i : Fin 16)
    (a : Action) (o : Bool) : (s.completeHeadOrder i a o).QueuesBounded := by
  have hfreed : (s.freeTx .m).QueuesBounded := h.setPort .m le_rfl
  have hsent : ((s.freeTx .m).orderSent i a).QueuesBounded := by
    cases a
    · exact ((hfreed.updLoop i _).updLoop i _).place (State.grantSlot_placeStep _)
    · exact (hfreed.updLoop i _).updLoop i _
  unfold State.completeHeadOrder
  dsimp only
  refine (State.QueuesBounded.checkHalting ?_).checkWindDown
  split
  · exact hfreed
  · exact hsent

/-- After a restart every queue is empty. -/
theorem State.restart_queuesBounded (s : State) : s.restart.QueuesBounded :=
  ⟨Nat.zero_le _, Nat.zero_le _, Nat.zero_le _, List.Pairwise.nil⟩

theorem State.QueuesBounded.completeAnswer {s : State} (h : s.QueuesBounded) :
    s.completeAnswer.QueuesBounded := by
  have hdone : State.QueuesBounded { s.freeTx .h with answer := none } := h.of_eq rfl rfl rfl
  unfold State.completeAnswer
  dsimp only
  split
  · split
    · exact State.restart_queuesBounded _
    · exact hdone
  · exact hdone

/-- A beginning takes from a queue, or marks the oldest notice. -/
theorem State.QueuesBounded.begun {s t : State} (h : s.QueuesBounded) (hb : s.Begun t) :
    t.QueuesBounded := by
  have hforward (p : PortId) : (s.beginForward p).QueuesBounded := by
    unfold State.beginForward
    split
    · exact h
    · rename_i x rest hq
      have hrest : rest.length ≤ (s.port p).queue.length := by rw [hq]; exact Nat.le_succ _
      exact (h.setPort p (k := { s.port p with queue := rest }) hrest).setPort p le_rfl
  cases hb with
  | transmission p =>
    unfold State.beginTransmission
    split
    · cases p
      · simp only [State.beginH]
        split
        · split
          · exact hforward .h
          · exact h.of_eq rfl rfl rfl
        · exact hforward .h
      · exact hforward .m
    · exact h
  | notice =>
    unfold State.beginNotice State.takeNoticeEntry
    split
    · split
      · exact h
      · rename_i e rest hn
        refine (State.QueuesBounded.notices h (n := _) ?_).setPort .h le_rfl
        simp [Notices.topics, hn]
    · exact h
  | headOrder =>
    unfold State.beginHeadOrder State.takeHeadOrder
    split
    · split
      · exact h
      · exact h.of_eq rfl rfl rfl
    · exact h

/-! ## The law -/

theorem State.QueuesBounded.event {s t : State} (h : s.QueuesBounded) (he : s.Event t) :
    t.QueuesBounded := by
  cases he
  case counted => exact h.updCounters _ _
  case raised => exact h.raise _ _ _
  case answered => exact h.of_eq rfl rfl rfl
  case written => exact h.writeAt _ _ _
  case enabled i _ =>
    exact (((h.place (s.leaveWaits_placeStep i)).setLoop i _).recompute).addProbeCause i
  case disabled i _ _ => exact h.disable i
  case started => exact h.start
  case halted => exact (h.setMode _).checkHalting
  case identified => exact h.startIdentify _ _ _
  case swept => exact h.startSweep _ _
  case stopped => exact h.endPattern _
  case locked => exact h.of_eq rfl rfl rfl
  case noticeTaken => exact h.notices (List.Sublist.map _ (List.eraseP_sublist))
  case ruleApplied => exact h.of_eq rfl rfl rfl
  case forwarded => exact h.placeForward _ _
  case roomRead => exact h.updRoom _ _
  case called => exact h.updRoom _ _
  case supplied => exact h.supplyRead _
  case sampled => exact h.takeSample _ _
  case echoed => exact h.takeEcho _ _ _
  case answerSent => exact h.completeAnswer
  case forwardSent p _ _ _ => exact h.setPort p le_rfl
  case noticeSent =>
    exact (State.QueuesBounded.setPort h .h le_rfl).notices (Notices.complete_sublist s.notices s.now)
  case orderSent => exact h.completeHeadOrder _ _ _
  case timedOut => exact h.timeout _ _
  case boundary => exact h.boundary _
  case boundaryPassed => exact h.updLoop _ _
  case onTimeOver i _ => exact (h.updLoop i _).place (State.want_placeStep _ i _ _)
  case settleOver => exact h.updLoop _ _
  case roomStale => exact h.roomStale _
  case probeStale => exact h.probeStale _
  case probeFault => exact h.probeFault _
  case reportTempOver => exact h.setSupply _
  case supplyStale => exact h.supplyStale
  case spacingOver => exact h.notices (List.Sublist.refl _)
  case openHalfOver => exact h.driveStage _ _ _
  case closedHalfOver => exact h.toggleDone _
  case clearingOver => exact h.nextTest _
  case dwellOver k _ _ => exact (h.writeVerdict k).driveStage _ _ _
  case closeWaitOver => exact h.nextTest _

theorem State.reset_queuesBounded : State.reset.QueuesBounded :=
  ⟨Nat.zero_le _, Nat.zero_le _, Nat.zero_le _, List.Pairwise.nil⟩

/-- The bounds of the queues are a law of the part. -/
theorem State.queuesBounded_law : State.Law State.QueuesBounded where
  queued _ _ h := h
  poweredOn _ _ := State.reset_queuesBounded
  begun _ _ h := h.begun
  event _ _ h := h.event
  ticked s h := by
    have hcounted := h.mapLoops fun i l => l.countOpen (s.openState i)
    exact hcounted.of_eq rfl rfl rfl

/-- Settles O54: `State.QueuesBounded` is a law. -/
theorem queuesStayBounded : Obligations.QueuesStayBounded :=
  fun _ _ h hstep => State.queuesBounded_law.step h hstep

end Sys2Proof.Machine
end

section
/-! PROOFS. The working core of the part: which events touch the drive of a loop, the allocation and the head
arbiter (`State.Work`), and that every event is made of them. Everything else is quiet. -/

namespace Sys2Proof.Machine

open Sys2Proof

/-! ## What the core reads of the part -/

/-- G × W of a loop that is RUNNING (R80). -/
def Loop.load (l : Loop) : Nat := if l.state = .running then l.grant * l.weight else 0

/-- What the allocator and the arbiter read of a loop, its level aside. -/
structure Loop.Face where
  state : LoopState
  request : Nat
  grant : Nat
  load : Nat
  activeDuty : Nat
  bufferedDuty : Nat
  openPhase : Bool
  head : HeadState
  wanted : Option Action

def Loop.face (l : Loop) : Loop.Face :=
  ⟨l.state, l.request, l.grant, l.load, l.activeDuty, l.bufferedDuty, l.openPhase, l.head, l.wanted⟩

/-- The head order on port M: its loop, its action, its telegram and whether a restart left it behind (R97,
R104). -/
def State.cable (s : State) : Option (Fin 16 × Action × Telegram × Bool) :=
  match s.portM.tx with
  | some (.headOrder i a t o) => some (i, a, t, o)
  | some (.answer _) | some (.forward _ _) | some (.notice _) | none => none

/-- The head order on port M that is not a restart's orphan: its loop and its action (R97, R104). -/
def State.line (s : State) : Option (Fin 16 × Action) :=
  match s.portM.tx with
  | some (.headOrder i a _ false) => some (i, a)
  | some (.headOrder _ _ _ true) | some (.answer _) | some (.forward _ _) | some (.notice _) | none =>
    none

/-- t agrees with s in everything that the core reads, the levels and the shed level aside. -/
structure State.SameRun (s t : State) : Prop where
  face : ∀ j, (t.loop j).face = (s.loop j).face
  alloc : t.alloc = s.alloc
  mode : t.mode = s.mode
  t0 : t.t0 = s.t0
  orders : t.orders = s.orders
  waits : t.waits = s.waits
  hmax : t.general.hmax = s.general.hmax
  stage : t.pattern.stage = s.pattern.stage
  subject : t.pattern.subject = s.pattern.subject
  cable : t.cable = s.cable
  ceiling : (∀ j, (s.loop j).level ≤ 7) → ∀ j, (t.loop j).level ≤ 7

theorem State.cable_eq_some {s : State} {i : Fin 16} {a : Action} {x : Telegram} {o : Bool} :
    s.cable = some (i, a, x, o) ↔ s.portM.tx = some (.headOrder i a x o) := by
  unfold State.cable
  split <;> simp_all

/-- The line is read off the head order on port M. -/
theorem State.line_of_cable (s : State) : s.line =
    match s.cable with
    | some (i, a, _, false) => some (i, a)
    | some (_, _, _, true) | none => none := by
  unfold State.line State.cable
  cases s.portM.tx with
  | none => rfl
  | some x => cases x with
    | headOrder i a t o => cases o <;> rfl
    | answer | forward | notice => rfl

theorem State.SameRun.line {s t : State} (h : s.SameRun t) : t.line = s.line := by
  rw [t.line_of_cable, h.cable, ← s.line_of_cable]

/-- t agrees with s in everything that the core reads. -/
structure State.Quiet (s t : State) : Prop extends State.SameRun s t where
  level : ∀ j, (s.loop j).engaged = true → (t.loop j).level = (s.loop j).level
  shedLevel : t.shedLevel = s.shedLevel

section face

variable {l k : Loop} (h : k.face = l.face)
include h

theorem Loop.state_of_face : k.state = l.state := congrArg Loop.Face.state h
theorem Loop.request_of_face : k.request = l.request := congrArg Loop.Face.request h
theorem Loop.grant_of_face : k.grant = l.grant := congrArg Loop.Face.grant h
theorem Loop.load_of_face : k.load = l.load := congrArg Loop.Face.load h
theorem Loop.activeDuty_of_face : k.activeDuty = l.activeDuty := congrArg Loop.Face.activeDuty h
theorem Loop.bufferedDuty_of_face : k.bufferedDuty = l.bufferedDuty := congrArg Loop.Face.bufferedDuty h
theorem Loop.openPhase_of_face : k.openPhase = l.openPhase := congrArg Loop.Face.openPhase h
theorem Loop.head_of_face : k.head = l.head := congrArg Loop.Face.head h
theorem Loop.wanted_of_face : k.wanted = l.wanted := congrArg Loop.Face.wanted h
theorem Loop.engaged_of_face : k.engaged = l.engaged := by
  simp only [Loop.engaged, Loop.state_of_face h]

end face

theorem State.Quiet.refl (s : State) : s.Quiet s :=
  ⟨⟨fun _ => rfl, rfl, rfl, rfl, rfl, rfl, rfl, rfl, rfl, rfl, id⟩, fun _ _ => rfl, rfl⟩

/-- A change of what the core does not read at all. -/
theorem State.quiet_of_eq {s t : State} (hloops : t.loops = s.loops) (halloc : t.alloc = s.alloc)
    (hmode : t.mode = s.mode) (ht0 : t.t0 = s.t0) (horders : t.orders = s.orders)
    (hwaits : t.waits = s.waits) (hgeneral : t.general = s.general)
    (hsource : t.supply.source = s.supply.source) (hstage : t.pattern.stage = s.pattern.stage)
    (hsubject : t.pattern.subject = s.pattern.subject) (hcable : t.cable = s.cable) : s.Quiet t := by
  have hloop (j : Fin 16) : t.loop j = s.loop j := by rw [State.loop, State.loop, hloops]
  refine ⟨⟨fun j => by rw [hloop], halloc, hmode, ht0, horders, hwaits, by rw [hgeneral], hstage,
    hsubject, hcable, fun h j => by rw [hloop]; exact h j⟩, fun j _ => by rw [hloop], ?_⟩
  simp only [State.shedLevel, State.sourceShedLevel, hgeneral, hsource]

theorem State.setLoop_quiet (s : State) (i : Fin 16) (l : Loop)
    (h : l.face = (s.loop i).face := by rfl)
    (hlevel : (s.loop i).engaged = true → l.level = (s.loop i).level := by exact fun _ => rfl)
    (hceiling : (s.loop i).level ≤ 7 → l.level ≤ 7 := by exact id) : s.Quiet (s.setLoop i l) := by
  refine ⟨⟨fun j => ?_, rfl, rfl, rfl, rfl, rfl, rfl, rfl, rfl, rfl, fun hs j => ?_⟩, fun j hj => ?_,
    rfl⟩ <;> rw [State.loop_setLoop] <;> split
  · rename_i e; rw [← e, h]
  · rfl
  · exact hceiling (hs i)
  · exact hs j
  · rename_i e; subst e; exact hlevel hj
  · rfl

theorem State.mapLoops_quiet (s : State) (f : Fin 16 → Loop → Loop)
    (h : ∀ i, (f i (s.loop i)).face = (s.loop i).face)
    (hlevel : ∀ i, (f i (s.loop i)).level = (s.loop i).level) : s.Quiet (s.mapLoops f) := by
  refine ⟨⟨fun j => ?_, by simp, by simp, by simp, by simp, by simp, by simp, by simp, by simp, ?_,
    fun hs j => ?_⟩, fun j _ => ?_, ?_⟩
  · rw [State.loop_mapLoops, h]
  · simp only [State.cable, State.portM_mapLoops]
  · rw [State.loop_mapLoops, hlevel]
    exact hs j
  · rw [State.loop_mapLoops, hlevel]
  · simp only [State.shedLevel, State.sourceShedLevel, State.general_mapLoops, State.supply_mapLoops]

/-! ## The works -/

/-- The record of loop i is stored before an ENABLE's recompute (R11). -/
def State.joined (s : State) (i : Fin 16) : State := (s.leaveWaits i).setLoop i (s.enabledLoop i)

/-- A stage of a pattern that drives or waits on loops. -/
def Stage.busy (st : Stage) : Prop := st ≠ .idle ∧ st ≠ .windingDown

theorem Stage.opening_busy : Stage.opening.busy := by simp [Stage.busy]
theorem Stage.openHalf_busy : Stage.openHalf.busy := by simp [Stage.busy]
theorem Stage.closing_busy : Stage.closing.busy := by simp [Stage.busy]
theorem Stage.closedHalf_busy : Stage.closedHalf.busy := by simp [Stage.busy]
theorem Stage.clearing_busy : Stage.clearing.busy := by simp [Stage.busy]
theorem Stage.dwell_busy : Stage.dwell.busy := by simp [Stage.busy]
theorem Stage.closeWait_busy : Stage.closeWait.busy := by simp [Stage.busy]

/-- One work of the core, each with the condition under which it comes. -/
inductive State.Work (s : State) : State → Prop
  | quiet {t : State} (h : s.Quiet t) : s.Work t
  | caused (i : Fin 16) (c : Cause) : s.Work (s.addCause i c)
  | reshaped {t : State} (h : s.SameRun t) : s.Work t.recompute
  | retuned (f : General → General) (hm : s.mode = .passive)
      (h : 1 ≤ s.general.hmax → 1 ≤ (f s.general).hmax) : s.Work (s.updGeneral f)
  | joined (i : Fin 16) (h : s.enableFails i = none) : s.Work (s.joined i).recompute
  | disabled (i : Fin 16) (hm : s.mode = .passive ∨ s.mode = .active) : s.Work (s.disable i)
  | started (hm : s.mode = .passive) : s.Work s.start
  | halted (hm : s.mode = .active) : s.Work s.beginHalting
  | identified (k : Fin 16) (n d : Nat) (hm : s.mode = .passive) (h : (s.loop k).enabled = true) :
      s.Work (s.startIdentify k n d)
  | swept (d r : Nat) (hm : s.mode = .passive) : s.Work (s.startSweep d r)
  | ended (e : Ending) (h : s.pattern.stage.busy) : s.Work (s.endPattern e)
  | staged (st : Stage) (k : Fin 16) (a : Action) (hst : st.busy) (h : s.pattern.stage.busy)
      (hk : s.pattern.subject = some k ∨ (s.loop k).state = .testing) : s.Work (s.driveStage st k a)
  | echoed (i : Fin 16) (a : Action) (c : Condition) (h : (s.loop i).accepts a = true) :
      s.Work (s.takeEcho i a c)
  | timedOut (i : Fin 16) (a : Action) (h : (s.loop i).head.sentAction = some a) :
      s.Work (s.timeout i a)
  | orderSent (i : Fin 16) (a : Action) (t : Telegram) (o : Bool)
      (h : s.portM.tx = some (.headOrder i a t o)) : s.Work (s.completeHeadOrder i a o)
  | onTimeOver (i : Fin 16) (h : (s.loop i).openPhase = true) :
      s.Work ((s.updLoop i fun l => { l with openPhase := false }).want i (s.closingAction i) false)
  | restarted : s.Work s.restart

/-- Works, one after the other. -/
def State.Works : State → State → Prop := Relation.ReflTransGen State.Work

theorem State.Works.refl (s : State) : s.Works s := Relation.ReflTransGen.refl
theorem State.Work.works {s t : State} (h : s.Work t) : s.Works t := Relation.ReflTransGen.single h
theorem State.Works.trans {s t u : State} (h : s.Works t) (g : t.Works u) : s.Works u :=
  Relation.ReflTransGen.trans h g
theorem State.Works.next {s t u : State} (h : s.Works t) (g : t.Work u) : s.Works u := h.tail g
theorem State.Quiet.works {s t : State} (h : s.Quiet t) : s.Works t := (State.Work.quiet h).works
theorem State.Works.quiet {s t u : State} (h : s.Works t) (g : t.Quiet u) : s.Works u :=
  h.next (.quiet g)

/-- What every work keeps, works one after the other keep. -/
theorem State.Works.keep {P : State → Prop} {s t : State} (hP : ∀ s t, P s → State.Work s t → P t)
    (h : s.Works t) (hs : P s) : P t := by
  induction h with
  | refl => exact hs
  | tail _ hw ih => exact hP _ _ ih hw

/-- A fold of works is made of works. -/
theorem State.foldl_works {α : Type} (f : State → α → State) (h : ∀ s a, State.Works s (f s a))
    (l : List α) (s : State) : s.Works (l.foldl f s) := by
  induction l generalizing s with
  | nil => exact .refl s
  | cons a l ih => exact (h s a).trans (ih _)

/-! ## Quiet updates -/

theorem State.updLoop_quiet (s : State) (i : Fin 16) (f : Loop → Loop)
    (h : (f (s.loop i)).face = (s.loop i).face := by rfl)
    (hlevel : (f (s.loop i)).level = (s.loop i).level := by rfl) : s.Quiet (s.updLoop i f) :=
  s.setLoop_quiet i _ h (fun _ => hlevel) (fun hle => hlevel ▸ hle)

theorem State.raise_quiet (s : State) (k : NoticeKind) (n : Option Nat) (v : Option Int) :
    s.Quiet (s.raise k n v) := State.quiet_of_eq rfl rfl rfl rfl rfl rfl rfl rfl rfl rfl rfl

theorem State.setProbe_quiet (s : State) (e : Fin 32) (p : Probe) : s.Quiet (s.setProbe e p) :=
  State.quiet_of_eq rfl rfl rfl rfl rfl rfl rfl rfl rfl rfl rfl

theorem State.updRoom_quiet (s : State) (r : Fin 12) (f : Room → Room) : s.Quiet (s.updRoom r f) :=
  State.quiet_of_eq rfl rfl rfl rfl rfl rfl rfl rfl rfl rfl rfl

theorem State.storeRule_quiet (s : State) (r : Fin 24) (k : Rule) : s.Quiet (s.storeRule r k) :=
  State.quiet_of_eq rfl rfl rfl rfl rfl rfl rfl rfl rfl rfl rfl

theorem State.setSupply_quiet (s : State) (k : Supply) (h : k.source = s.supply.source := by rfl) :
    s.Quiet { s with supply := k } :=
  State.quiet_of_eq rfl rfl rfl rfl rfl rfl rfl h rfl rfl rfl

theorem State.setProbes_quiet (s : State) (ps : Vector Probe 32) : s.Quiet { s with probes := ps } :=
  State.quiet_of_eq rfl rfl rfl rfl rfl rfl rfl rfl rfl rfl rfl

/-- A port's counters and queue, and what is not a head order on its line, are read by no one here. -/
theorem State.setPort_quiet (s : State) (p : PortId) (k : Port)
    (h : k.tx = (s.port p).tx := by rfl) :
    s.Quiet (s.setPort p k) := by
  cases p
  · exact State.quiet_of_eq rfl rfl rfl rfl rfl rfl rfl rfl rfl rfl rfl
  · refine State.quiet_of_eq rfl rfl rfl rfl rfl rfl rfl rfl rfl rfl ?_
    have hx : (s.setPort .m k).portM.tx = s.portM.tx := h
    simp only [State.cable, hx]

/-- A free line, as far as the core reads. -/
theorem State.freeTx_quiet (s : State) (p : PortId)
    (h : p = .m → s.cable = none) : s.Quiet (s.freeTx p) := by
  cases p
  · exact State.quiet_of_eq rfl rfl rfl rfl rfl rfl rfl rfl rfl rfl rfl
  · exact State.quiet_of_eq rfl rfl rfl rfl rfl rfl rfl rfl rfl rfl (h rfl).symm

theorem State.updCounters_quiet (s : State) (p : PortId) (f : Counters → Counters) :
    s.Quiet (s.updCounters p f) := s.setPort_quiet p _

theorem State.placeForward_quiet (s : State) (p : PortId) (t : Telegram) :
    s.Works (s.placeForward p t) := by
  unfold State.placeForward
  split
  · exact State.Quiet.works (s.setPort_quiet p _)
  · exact (State.Quiet.works (s.setPort_quiet p _)).quiet (State.raise_quiet _ _ _ _)

/-! ## Causes and probes -/

theorem State.removeCause_works (s : State) (i : Fin 16) (c : Cause) : s.Works (s.removeCause i c) := by
  unfold State.removeCause
  dsimp only
  split
  · exact .refl s
  · split
    · exact (State.Quiet.works (s.updLoop_quiet i _)).quiet (State.raise_quiet _ _ _ _)
    · exact State.Quiet.works (s.updLoop_quiet i _)

theorem State.addCause_works (s : State) (i : Fin 16) (c : Cause) : s.Works (s.addCause i c) :=
  (State.Work.caused i c).works

theorem State.addProbeCause_works (s : State) (i : Fin 16) : s.Works (s.addProbeCause i) := by
  unfold State.addProbeCause
  split
  · exact s.addCause_works i _
  · exact .refl s

theorem State.removeProbeCause_works (s : State) (i : Fin 16) : s.Works (s.removeProbeCause i) := by
  unfold State.removeProbeCause
  split
  · exact .refl s
  · exact s.removeCause_works i _

theorem State.evaluateProbe_works (s : State) (i : Fin 16) : s.Works (s.evaluateProbe i) := by
  unfold State.evaluateProbe
  split
  · exact s.addCause_works i _
  · exact s.removeCause_works i _

theorem State.evaluateHeld_works (s : State) (i : Fin 16) : s.Works (s.evaluateHeld i) :=
  State.Quiet.works (s.updLoop_quiet i _)

theorem State.offerReturn_works (s : State) (i : Fin 16) : s.Works (s.offerReturn i) := by
  unfold State.offerReturn
  split
  · split
    · exact State.Quiet.works (s.updLoop_quiet i _)
    · exact .refl s
  all_goals exact .refl s

theorem State.publishTest_works (s : State) (e : Fin 32) : s.Works (s.publishTest e) := by
  unfold State.publishTest
  dsimp only
  split
  · exact .refl s
  · split
    · exact ((s.setProbe_quiet e _).works.trans (State.evaluateHeld_works _ _)).trans
        (State.offerReturn_works _ _)
    · exact (s.setProbe_quiet e _).works

theorem State.takeSample_works (s : State) (e : Fin 32) (v : Int) : s.Works (s.takeSample e v) := by
  unfold State.takeSample
  dsimp only
  split
  · exact (s.setProbe_quiet e _).works
  · refine State.Works.trans ?_ (State.publishTest_works _ e)
    split
    · exact ((s.setProbe_quiet e _).works.trans (State.evaluateHeld_works _ _)).trans
        (State.removeProbeCause_works _ _)
    · exact (s.setProbe_quiet e _).works

theorem State.probeStale_works (s : State) (e : Fin 32) : s.Works (s.probeStale e) := by
  have hraised : s.Works ((s.setProbe e { s.probe e with stale := true }).raise .probeStale
      (some e.val) none) := (s.setProbe_quiet e _).works.quiet (State.raise_quiet _ _ _ _)
  unfold State.probeStale
  dsimp only
  split
  · exact hraised.trans (State.evaluateHeld_works _ _)
  · exact hraised

theorem State.probeFault_works (s : State) (e : Fin 32) : s.Works (s.probeFault e) := by
  unfold State.probeFault
  dsimp only
  split
  · exact (s.setProbe_quiet e _).works.trans (State.addProbeCause_works _ _)
  · exact (s.setProbe_quiet e _).works

theorem State.staleProbes_works (s : State) : s.Works s.staleProbes := by
  refine State.foldl_works _ (fun u e => ?_) probeIds s
  split
  · exact u.probeStale_works e
  · exact .refl u

theorem State.roomStale_works (s : State) (r : Fin 12) : s.Works (s.roomStale r) :=
  (s.updRoom_quiet r _).works.quiet (State.raise_quiet _ _ _ _)

theorem State.staleRooms_works (s : State) : s.Works s.staleRooms := by
  refine State.foldl_works _ (fun u r => ?_) roomIds s
  split
  · exact u.roomStale_works r
  · exact .refl u

/-! ## Recomputes -/

theorem State.sameRun_setSupply (s : State) (k : Supply) : s.SameRun { s with supply := k } :=
  ⟨fun _ => rfl, rfl, rfl, rfl, rfl, rfl, rfl, rfl, rfl, rfl, id⟩

theorem State.sameRun_raise (s : State) (k : NoticeKind) (n : Option Nat) (v : Option Int) :
    s.SameRun (s.raise k n v) := (s.raise_quiet k n v).toSameRun

theorem State.SameRun.trans {s t u : State} (h : s.SameRun t) (g : t.SameRun u) : s.SameRun u :=
  ⟨fun j => (g.face j).trans (h.face j), g.alloc.trans h.alloc, g.mode.trans h.mode, g.t0.trans h.t0,
    g.orders.trans h.orders, g.waits.trans h.waits, g.hmax.trans h.hmax, g.stage.trans h.stage,
    g.subject.trans h.subject, g.cable.trans h.cable, fun hs => g.ceiling (h.ceiling hs)⟩

theorem State.supplyStale_works (s : State) : s.Works s.supplyStale :=
  (State.Work.reshaped ((s.sameRun_setSupply _).trans (State.sameRun_raise _ _ _ _))).works

theorem State.supplyRead_works (s : State) (t : Telegram) : s.Works (s.supplyRead t) := by
  unfold State.supplyRead
  dsimp only
  split
  · exact (State.Work.reshaped (s.sameRun_setSupply _)).works
  · rename_i h
    exact State.Quiet.works (s.setSupply_quiet _ (by_contra fun hs => h (.inr (.inl hs))))

/-! ## Writes -/

theorem State.Works.held {s u : State} (c : Bool) (v : Int) (h : s.Works u) :
    s.Works (Reply.held u c v).part := h

theorem State.tuneGeneral_works (s : State) (w : Nat) (v : Int) (f : General → General)
    (h : 1 ≤ s.general.hmax → 1 ≤ (f s.general).hmax) : s.Works (s.tuneGeneral w v f).part := by
  unfold State.tuneGeneral
  split
  · exact .refl s
  · rename_i hm
    exact (State.Work.retuned f (not_not.mp hm) h).works

theorem State.storeGeneral_works (s : State) (hi v : Int) (f : General → General)
    (h : 1 ≤ s.general.hmax → 1 ≤ (f s.general).hmax) : s.Works (s.storeGeneral hi v f).part := by
  unfold State.storeGeneral
  split
  · exact .refl s
  · rename_i hm
    split
    · exact .refl s
    · exact (State.Work.retuned f (not_not.mp hm) h).works

theorem State.moveTempExpiry_works (s : State) : s.Works s.moveTempExpiry :=
  State.Quiet.works (s.setSupply_quiet _)

theorem State.writeGeneral_works (s : State) (field : GeneralField) (v : Int) :
    s.Works (s.writeGeneral field v).part := by
  cases field
  case hmax => exact s.tuneGeneral_works _ v _ fun _ => clampNat_ge v (by decide)
  case fdef =>
    have hr := s.tuneGeneral_works (clampNat 0 2000 v) v
      (fun g => { g with fdef := clampNat 0 2000 v }) id
    simp only [State.writeGeneral, State.writeFdef]
    split
    · exact hr.quiet (State.setSupply_quiet _ _)
    · exact hr
  case probeStaleTime =>
    simp only [State.writeGeneral, State.writeProbeStaleTime]
    split
    · dsimp only
      exact (s.tuneGeneral_works _ v _ id).trans (State.staleProbes_works _)
    · exact s.tuneGeneral_works _ v _ id
  case faultStaleTime =>
    simp only [State.writeGeneral, State.writeFaultStaleTime]
    split
    · dsimp only
      refine ((s.tuneGeneral_works _ v _ id).quiet (State.setProbes_quiet _ _)).trans
        (State.foldl_works _ State.evaluateProbe_works loopIds _)
    · exact s.tuneGeneral_works _ v _ id
  case roomStaleTime =>
    simp only [State.writeGeneral, State.writeRoomStaleTime]
    split
    · dsimp only
      exact (s.tuneGeneral_works _ v _ id).trans (State.staleRooms_works _)
    · exact s.tuneGeneral_works _ v _ id
  case supplyStaleTime =>
    simp only [State.writeGeneral, State.writeSupplyStaleTime]
    split
    · dsimp only
      have hmoved := (s.tuneGeneral_works (clampNat 120 3600 v) v
        (fun g => { g with supplyStaleTime := clampNat 120 3600 v }) id).trans
        (State.moveTempExpiry_works _)
      split
      · exact hmoved.trans (State.supplyStale_works _)
      · exact hmoved
    · exact s.tuneGeneral_works _ v _ id
  case manualShedLevel =>
    have hsame (n : Nat) : s.SameRun (s.updGeneral fun g => { g with manualShedLevel := n }) :=
      ⟨fun _ => rfl, rfl, rfl, rfl, rfl, rfl, rfl, rfl, rfl, rfl, id⟩
    exact (State.Work.reshaped (hsame _)).works
  case overflowPolicy p => exact s.storeGeneral_works _ v _ (by cases p <;> exact id)
  case directionDefault p => exact s.storeGeneral_works _ v _ (by cases p <;> exact id)
  case cycleLength | defrostShedLevel => exact s.tuneGeneral_works _ v _ id
  case supplySource | noticeAddress => exact s.storeGeneral_works _ v _ id

/-- A loop that is out has no load, whatever its weight. -/
theorem Loop.face_of_out {l k : Loop} (hout : l.state = .disabled) (hstate : k.state = l.state)
    (h : (k.request, k.grant, k.activeDuty, k.bufferedDuty, k.openPhase, k.head, k.wanted) =
      (l.request, l.grant, l.activeDuty, l.bufferedDuty, l.openPhase, l.head, l.wanted)) :
    k.face = l.face := by
  simp only [Prod.mk.injEq] at h
  simp [Loop.face, Loop.load, hstate, hout, h]

theorem State.writeLoopStatic_works (s : State) (field : LoopStaticField) (v : Int) (i : Fin 16) :
    s.Works (s.writeLoopStatic field v i).part := by
  unfold State.writeLoopStatic
  split
  · exact .refl s
  · rename_i hstate
    have hout := not_not.mp hstate
    cases field <;> simp only [State.storeHeadBinding, State.storeLoop, State.tuneLoop]
    case driverAddress | headChannel =>
      split
      · exact .refl s
      · split
        · exact .refl s
        · exact .held _ _ (State.Quiet.works (s.updLoop_quiet i _))
    case profile | floorClass =>
      split
      · exact .refl s
      · exact .held _ _ (State.Quiet.works (s.updLoop_quiet i _))
    all_goals exact .held _ _ (State.Quiet.works (s.updLoop_quiet i _ (Loop.face_of_out hout (by rfl) (by rfl))))

theorem State.writeLoopRoom_works (s : State) (v : Int) (i : Fin 16) :
    s.Works (s.writeLoopRoom v i).part := by
  unfold State.writeLoopRoom
  dsimp only
  split
  · exact .refl s
  · split
    · exact .held _ _ (State.Quiet.works (s.updLoop_quiet i _))
    · split
      · exact .refl s
      · split
        · exact .refl s
        · exact .held _ _ (State.Quiet.works (s.updLoop_quiet i _))

theorem State.writeShare_works (s : State) (field : ShareField) (v : Int) (i : Fin 16) :
    s.Works (s.writeShare field v i).part := by
  unfold State.writeShare
  cases field <;> dsimp only
  case share => exact .held _ _ (State.Quiet.works (s.setLoop_quiet i _))
  all_goals
    split
    · exact .refl s
    · exact .held _ _ (State.Quiet.works (s.setLoop_quiet i _))

theorem State.setLevel_sameRun (s : State) (i : Fin 16) (n : Nat) (hn : n ≤ 7) :
    s.SameRun (s.updLoop i fun l => { l with level := n }) := by
  refine ⟨fun j => ?_, rfl, rfl, rfl, rfl, rfl, rfl, rfl, rfl, rfl, fun hs j => ?_⟩ <;>
    rw [State.loop_updLoop] <;> split
  · rename_i e
    rw [← e]
    rfl
  · rfl
  · exact hn
  · exact hs j

theorem State.setLevel_works (s : State) (i : Fin 16) (n : Nat) (hn : n ≤ 7) :
    s.Works (if (s.loop i).engaged then (s.updLoop i fun l => { l with level := n }).recompute
      else s.updLoop i fun l => { l with level := n }) := by
  split
  · exact (State.Work.reshaped (s.setLevel_sameRun i n hn)).works
  · rename_i hout
    exact State.Quiet.works (s.setLoop_quiet i _ rfl (fun h => absurd h hout) fun _ => hn)

theorem State.writePriority_works (s : State) (field : PriorityField) (v : Int) (i : Fin 16) :
    s.Works (s.writePriority field v i).part := by
  unfold State.writePriority
  cases field <;> dsimp only
  case level => exact .held _ _ (s.setLevel_works i _ (clampNat_le v (by decide)))
  case group => exact .held _ _ (State.Quiet.works (s.updLoop_quiet i _))

theorem State.writeUnitAddress_works (s : State) (v : Int) (r : Fin 12) :
    s.Works (s.writeUnitAddress v r).part := by
  unfold State.writeUnitAddress
  split
  · exact .refl s
  · split
    · exact .refl s
    · split
      · exact .refl s
      · exact .held _ _ (State.Quiet.works (s.updRoom_quiet r _))

theorem State.writeRoom_works (s : State) (field : RoomField) (v : Int) (r : Fin 12) :
    s.Works (s.writeRoom field v r).part := by
  unfold State.writeRoom
  cases field <;> dsimp only
  case demandSource =>
    split
    · exact .refl s
    · exact .held _ _ (State.Quiet.works (s.updRoom_quiet r _))
  all_goals exact .held _ _ (State.Quiet.works (s.updRoom_quiet r _))

theorem State.writeValid_works (s : State) (v : Int) (e : Fin 32) :
    s.Works (s.writeValid v e).part := by
  unfold State.writeValid
  split
  · exact .refl s
  · split
    · exact .refl s
    · split
      · exact .refl s
      · simp only [Reply.part_held, State.mapChanged]
        split
        · exact ((s.setProbe_quiet e _).works.trans (State.evaluateHeld_works _ _)).trans
            (State.evaluateProbe_works _ _)
        · exact State.Quiet.works (s.setProbe_quiet e _)

theorem State.writeIdentity_works (s : State) (e : Fin 32) (v : Int) (b : Bool) (f : Probe → Probe) :
    s.Works (s.writeIdentity e v b f).part := by
  unfold State.writeIdentity
  split
  · exact .refl s
  · split
    · exact .held _ _ (State.Quiet.works (s.setProbe_quiet e _))
    · exact .refl s

theorem State.writeProbe_works (s : State) (field : ProbeField) (v : Int) (e : Fin 32) :
    s.Works (s.writeProbe field v e).part := by
  cases field
  case trim => exact .held _ _ (State.Quiet.works (s.setProbe_quiet e _))
  case depth =>
    simp only [State.writeProbe]
    split
    · exact .held _ _ (State.Quiet.works (s.setProbe_quiet e _))
    · exact .refl s
  all_goals exact s.writeIdentity_works e v _ _

theorem State.writeMatch_works (s : State) (r : Fin 24) (hi v : Int) (f : Option Nat → Rule) :
    s.Works (s.writeMatch r hi v f).part := by
  unfold State.writeMatch
  split
  · exact .held _ _ (State.Quiet.works (s.storeRule_quiet r _))
  · split
    · exact .refl s
    · exact .held _ _ (State.Quiet.works (s.storeRule_quiet r _))

theorem State.writeRule_works (s : State) (field : RuleField) (v : Int) (r : Fin 24) :
    s.Works (s.writeRule field v r).part := by
  unfold State.writeRule
  cases field <;> dsimp only
  case valid | direction | action =>
    split
    · exact .refl s
    · exact .held _ _ (State.Quiet.works (s.storeRule_quiet r _))
  case count => exact .held _ _ (State.Quiet.works (s.storeRule_quiet r _))
  all_goals exact s.writeMatch_works r _ v _

theorem State.setProfile_quiet (s : State) (p : Fin 4) (k : Profile) : s.Quiet (s.setProfile p k) :=
  State.quiet_of_eq rfl rfl rfl rfl rfl rfl rfl rfl rfl rfl rfl

theorem State.writeProfile_works (s : State) (field : ProfileField) (v : Int) (p : Fin 4) :
    s.Works (s.writeProfile field v p).part := by
  unfold State.writeProfile
  dsimp only
  split
  · exact .refl s
  · cases field <;> dsimp only
    case polarity =>
      split
      · exact .refl s
      · exact .held _ _ (State.Quiet.works (s.setProfile_quiet p _))
    all_goals exact .held _ _ (State.Quiet.works (s.setProfile_quiet p _))

theorem State.writeCounter_works (s : State) (field : CounterField) (index : Nat) :
    s.Works (s.writeCounter field index).part := by
  cases field
  case rejected entry =>
    simp only [State.writeCounter, State.writeRejected]
    split
    · split
      · exact .refl s
      · split
        · exact .refl s
        · exact .held _ _ (State.Quiet.works (s.setProbe_quiet _ _))
    · exact .refl s
  all_goals
    simp only [State.writeCounter]
    split
    · exact .refl s
    · exact .held _ _ (State.Quiet.works (s.updCounters_quiet _ _))

theorem State.writeClass_works (s : State) (field : ClassField) (v : Int) (c : Fin 4) :
    s.Works (s.writeClass field v c).part := by
  rw [State.writeClass_eq]
  exact State.Quiet.works (State.quiet_of_eq rfl rfl rfl rfl rfl rfl rfl rfl rfl rfl rfl)

theorem withIndex_works {n index : Nat} {s : State} {body : Fin n → State → Reply}
    (h : ∀ i, s.Works (body i s).part) : s.Works (withIndex n index s body).part := by
  rcases withIndex_cases index s body with ⟨-, e⟩ | ⟨i, -, e⟩ <;> rw [e]
  · exact .refl s
  · exact h i

theorem State.writeAt_works (s : State) (target : WriteTarget) (index : Nat) (v : Int) :
    s.Works (s.writeAt target index v).part := by
  cases target
  case readOnly => exact .refl s
  case general field => exact s.writeGeneral_works field v
  case loopRoom => exact withIndex_works fun i => s.writeLoopRoom_works v i
  case loopStatic field => exact withIndex_works fun i => s.writeLoopStatic_works field v i
  case share field => exact withIndex_works fun i => s.writeShare_works field v i
  case priority field => exact withIndex_works fun i => s.writePriority_works field v i
  case unitAddress => exact withIndex_works fun r => s.writeUnitAddress_works v r
  case room field => exact withIndex_works fun r => s.writeRoom_works field v r
  case probeValid => exact withIndex_works fun e => s.writeValid_works v e
  case probe field => exact withIndex_works fun e => s.writeProbe_works field v e
  case rule field => exact withIndex_works fun r => s.writeRule_works field v r
  case hits => exact withIndex_works fun r => (s.storeRule_quiet r _).works
  case floorClass field => exact withIndex_works fun c => s.writeClass_works field v c
  case profile field => exact withIndex_works fun p => s.writeProfile_works field v p
  case counter field => exact s.writeCounter_works field index

/-! ## Patterns -/

theorem State.setPattern_quiet (s : State) (p : Pattern)
    (hstage : p.stage = s.pattern.stage := by rfl)
    (hsubject : p.subject = s.pattern.subject := by rfl) : s.Quiet { s with pattern := p } :=
  State.quiet_of_eq rfl rfl rfl rfl rfl rfl rfl rfl hstage hsubject rfl

theorem State.writeVerdict_works (s : State) (k : Fin 16) : s.Works (s.writeVerdict k) := by
  have hset : s.Quiet (s.setSweepResult k (s.verdictOf k)) :=
    State.quiet_of_eq rfl rfl rfl rfl rfl rfl rfl rfl rfl rfl rfl
  unfold State.writeVerdict
  dsimp only
  split
  · exact hset.works.quiet (State.raise_quiet _ _ _ _)
  · exact hset.works

theorem State.pattern_writeVerdict (s : State) (k : Fin 16) :
    (s.writeVerdict k).pattern = s.pattern := by
  unfold State.writeVerdict
  dsimp only
  split <;> rfl

/-- A stage whose interval expires is a busy one. -/
theorem State.busy_of_stageDue {s : State} {kind : PatternKind} {st : Stage} (hst : st.busy)
    (h : s.stageDue kind st = true) : s.pattern.stage.busy := by
  simp only [State.stageDue, Bool.and_eq_true, beq_iff_eq] at h
  obtain ⟨⟨-, hstage⟩, -⟩ := h
  rw [hstage]
  exact hst

theorem State.nextTest_works (s : State) (f : Fin 16 → Bool) (h : s.pattern.stage.busy) :
    s.Works (s.nextTest f) := by
  unfold State.nextTest
  split
  · rename_i k hk
    have hread : s.Quiet { s with pattern := { s.pattern with snapshot := s.readReturns } } :=
      s.setPattern_quiet _
    have htesting := s.mem_testingLoops.mp (List.mem_of_find?_eq_some hk)
    exact hread.works.next (.staged .opening k _ Stage.opening_busy h (.inr htesting))
  · exact (State.Work.ended _ h).works

theorem State.toggleDone_works (s : State) (k : Fin 16) (hk : s.pattern.subject = some k)
    (h : s.pattern.stage.busy) : s.Works (s.toggleDone k) := by
  have hcount : s.Quiet { s with pattern :=
      { s.pattern with togglesDone := s.pattern.togglesDone + 1 } } := s.setPattern_quiet _
  unfold State.toggleDone
  dsimp only
  split
  · exact hcount.works.next (.staged .opening k _ Stage.opening_busy h (.inl hk))
  · exact hcount.works.next (.ended _ h)

/-- What a START PATTERN has checked (R129). -/
theorem State.patternFails_none {s : State} {request : PatternRequest}
    (h : s.patternFails request = none) : s.mode = .passive ∧
      ∀ loop a b, request = .identify loop a b → (s.loop (Fin.ofNat 16 loop)).enabled = true := by
  unfold State.patternFails at h
  split at h
  · cases h
  · rename_i hm
    refine ⟨not_not.mp hm, ?_⟩
    rintro loop a b rfl
    dsimp only at h
    split at h
    · rename_i hlt
      have hid : Fin.ofNat 16 loop = ⟨loop, hlt⟩ := Fin.ext (Nat.mod_eq_of_lt hlt)
      split at h
      · rwa [hid]
      · cases h
    · cases h

/-! ## The events -/

theorem State.completeAnswer_works (s : State) : s.Works s.completeAnswer := by
  have hdone : s.Quiet { s.freeTx .h with answer := none } :=
    State.quiet_of_eq rfl rfl rfl rfl rfl rfl rfl rfl rfl rfl rfl
  unfold State.completeAnswer
  dsimp only
  split
  · split
    · exact hdone.works.next .restarted
    · exact hdone.works
  · exact hdone.works

/-- An event is the work at a boundary, or made of works. -/
theorem State.Event.works {s t : State} (he : s.Event t) :
    (∃ i, s.boundaryDue i = true ∧ t = s.boundary i) ∨ s.Works t := by
  by_cases hb : ∃ i, s.boundaryDue i = true ∧ t = s.boundary i
  · exact .inl hb
  refine .inr ?_
  cases he
  case counted => exact (s.updCounters_quiet _ _).works
  case raised => exact (s.raise_quiet _ _ _).works
  case answered => exact State.Quiet.works (State.quiet_of_eq rfl rfl rfl rfl rfl rfl rfl rfl rfl rfl rfl)
  case written => exact s.writeAt_works _ _ _
  case enabled i h => exact (State.Work.joined i h).works.trans (State.addProbeCause_works _ i)
  case disabled i hm _ => exact (State.Work.disabled i hm).works
  case started hm => exact (State.Work.started hm).works
  case halted hm => exact (State.Work.halted hm).works
  case identified loop _ _ _ _ h =>
    obtain ⟨hm, henabled⟩ := State.patternFails_none h
    exact (State.Work.identified _ _ _ hm (henabled loop _ _ rfl)).works
  case swept h => exact (State.Work.swept _ _ (State.patternFails_none h).1).works
  case stopped h => exact (State.Work.ended _ (not_or.mp h)).works
  case locked => exact State.Quiet.works (State.quiet_of_eq rfl rfl rfl rfl rfl rfl rfl rfl rfl rfl rfl)
  case noticeTaken => exact State.Quiet.works (State.quiet_of_eq rfl rfl rfl rfl rfl rfl rfl rfl rfl rfl rfl)
  case ruleApplied => exact State.Quiet.works (State.quiet_of_eq rfl rfl rfl rfl rfl rfl rfl rfl rfl rfl rfl)
  case forwarded => exact s.placeForward_quiet _ _
  case roomRead => exact (s.updRoom_quiet _ _).works
  case called => exact (s.updRoom_quiet _ _).works
  case supplied => exact s.supplyRead_works _
  case sampled => exact s.takeSample_works _ _
  case echoed i a c h => exact (State.Work.echoed i a c h).works
  case answerSent => exact s.completeAnswer_works
  case forwardSent p x o h =>
    refine (s.freeTx_quiet p ?_).works
    rintro rfl
    have hx : s.portM.tx = some (.forward x o) := h
    simp only [State.cable, hx]
  case noticeSent => exact State.Quiet.works (State.quiet_of_eq rfl rfl rfl rfl rfl rfl rfl rfl rfl rfl rfl)
  case orderSent i a x o h => exact (State.Work.orderSent i a x o h).works
  case timedOut i a h _ => exact (State.Work.timedOut i a h).works
  case boundary i h => exact absurd ⟨i, h, rfl⟩ hb
  case boundaryPassed i => exact State.Quiet.works (s.updLoop_quiet i _)
  case onTimeOver i h =>
    simp only [State.onTimeDue, Bool.and_eq_true] at h
    obtain ⟨⟨hopen, -⟩, -⟩ := h
    exact (State.Work.onTimeOver i hopen).works
  case settleOver i _ => exact State.Quiet.works (s.updLoop_quiet i _)
  case roomStale => exact s.roomStale_works _
  case probeStale => exact s.probeStale_works _
  case probeFault => exact s.probeFault_works _
  case reportTempOver => exact State.Quiet.works (s.setSupply_quiet _)
  case supplyStale => exact s.supplyStale_works
  case spacingOver => exact State.Quiet.works (State.quiet_of_eq rfl rfl rfl rfl rfl rfl rfl rfl rfl rfl rfl)
  case openHalfOver k hk h =>
    exact (State.Work.staged _ k _ Stage.closing_busy
      (State.busy_of_stageDue Stage.openHalf_busy h) (.inl hk)).works
  case closedHalfOver k hk h =>
    exact s.toggleDone_works k hk (State.busy_of_stageDue Stage.closedHalf_busy h)
  case clearingOver h => exact s.nextTest_works _ (State.busy_of_stageDue Stage.clearing_busy h)
  case dwellOver k hk h =>
    have hp := s.pattern_writeVerdict k
    refine (s.writeVerdict_works k).next (.staged _ k _ Stage.closing_busy ?_ (.inl ?_))
    · rw [hp]
      exact State.busy_of_stageDue Stage.dwell_busy h
    · rw [hp]
      exact hk
  case closeWaitOver k _ h => exact s.nextTest_works _ (State.busy_of_stageDue Stage.closeWait_busy h)

/-! ## Laws -/

/-- A beginning is quiet, or that of a head order. -/
theorem State.Begun.quiet_or_order {s t : State} (h : s.Begun t) :
    s.Quiet t ∨ (s.headOrderReady = true ∧ t = s.takeHeadOrder) := by
  have hforward (p : PortId) (hp : p = .m → s.cable = none) : s.Quiet (s.beginForward p) := by
    unfold State.beginForward
    split
    · exact .refl s
    · cases p
      · exact State.quiet_of_eq rfl rfl rfl rfl rfl rfl rfl rfl rfl rfl rfl
      · exact State.quiet_of_eq rfl rfl rfl rfl rfl rfl rfl rfl rfl rfl (hp rfl).symm
  cases h with
  | transmission p =>
    refine .inl ?_
    unfold State.beginTransmission
    split
    · rename_i hready
      cases p
      · simp only [State.beginH]
        split
        · split
          · exact hforward .h nofun
          · exact State.quiet_of_eq rfl rfl rfl rfl rfl rfl rfl rfl rfl rfl rfl
        · exact hforward .h nofun
      · refine hforward .m fun _ => ?_
        simp only [State.transmissionReady, State.txFree, State.port, Bool.and_eq_true,
          Option.isNone_iff_eq_none] at hready
        simp only [State.cable, hready.1]
    · exact .refl s
  | notice =>
    refine .inl ?_
    unfold State.beginNotice State.takeNoticeEntry
    split
    · split
      · exact .refl s
      · exact State.quiet_of_eq rfl rfl rfl rfl rfl rfl rfl rfl rfl rfl rfl
    · exact .refl s
  | headOrder =>
    unfold State.beginHeadOrder
    split
    · exact .inr ⟨‹_›, rfl⟩
    · exact .inl (.refl s)

theorem State.setNow_quiet (s : State) (n : Nat) : s.Quiet { s with now := n } :=
  State.quiet_of_eq rfl rfl rfl rfl rfl rfl rfl rfl rfl rfl rfl

/-- What works and boundaries keep while C holds is a law together with C, where C is a law. -/
theorem State.law_of_works {C P : State → Prop} (hC : State.Law C)
    (hreset : ∀ straps q, P { State.reset with strap := straps, pending := q })
    (hwork : ∀ s t, P s → State.Work s t → P t)
    (horder : ∀ s : State, P s → s.headOrderReady = true → P s.takeHeadOrder)
    (hboundary : ∀ s i, C s → P s → s.boundaryDue i = true → P (s.boundary i)) :
    State.Law fun s => C s ∧ P s where
  queued s q h := ⟨hC.queued s q h.1,
    hwork s _ h.2 (.quiet (State.quiet_of_eq rfl rfl rfl rfl rfl rfl rfl rfl rfl rfl rfl))⟩
  poweredOn b q := ⟨hC.poweredOn b q, hreset b q⟩
  begun s t h hb := by
    refine ⟨hC.begun s t h.1 hb, ?_⟩
    rcases hb.quiet_or_order with hq | ⟨hready, rfl⟩
    · exact hwork s t h.2 (.quiet hq)
    · exact horder s h.2 hready
  event s t h he := by
    refine ⟨hC.event s t h.1 he, ?_⟩
    rcases he.works with ⟨i, hdue, rfl⟩ | hworks
    · exact hboundary s i h.1 h.2 hdue
    · exact State.Works.keep hwork hworks h.2
  ticked s h := by
    refine ⟨hC.ticked s h.1, ?_⟩
    have hcount (i : Fin 16) (l : Loop) (o : HeadState) :
        (l.countOpen o).face = l.face ∧ (l.countOpen o).level = l.level := by
      unfold Loop.countOpen
      split <;> exact ⟨rfl, rfl⟩
    have hcounted : s.Quiet (s.mapLoops fun i l => l.countOpen (s.openState i)) :=
      s.mapLoops_quiet _ (fun i => (hcount i _ _).1) fun i => (hcount i _ _).2
    have hclock := hwork _ _ (hwork _ _ h.2 (.quiet hcounted)) (.quiet (State.setNow_quiet _ (s.now + 1)))
    unfold State.tick
    exact hclock

end Sys2Proof.Machine
end

section
/-! PROOFS. What a recompute leaves: every loop shed or not, every grant within its request, and the grants of
the RUNNING loops within the flow (R77 to R85). -/

namespace Sys2Proof.Machine

open Sys2Proof

/-! ## A placing reaches one loop (R95, R96) -/

theorem State.loop_setHead_ne {s : State} {i j : Fin 16} (h : j ≠ i) (x : HeadState) :
    (s.setHead i x).loop j = s.loop j := s.loop_updLoop_ne h.symm _

theorem State.loop_order_ne {s : State} {i j : Fin 16} (h : j ≠ i) (a : Action) :
    (s.order i a).loop j = s.loop j := State.loop_setHead_ne h _

theorem State.loop_replaceOrder_ne {s : State} {i j : Fin 16} (h : j ≠ i) (a : Action) :
    (s.replaceOrder i a).loop j = s.loop j := State.loop_setHead_ne h _

theorem State.loop_askToEnergise_ne {s : State} {i j : Fin 16} (h : j ≠ i) :
    (s.askToEnergise i).loop j = s.loop j := by
  unfold State.askToEnergise
  split
  · exact State.loop_order_ne h _
  · exact State.loop_setHead_ne h _

theorem State.loop_askToRelease_ne {s : State} {i j : Fin 16} (h : j ≠ i) :
    (s.askToRelease i).loop j = s.loop j := by
  unfold State.askToRelease
  split
  · rfl
  · split
    · exact State.loop_order_ne h _
    · rfl

theorem State.loop_placeEnergise_ne {s : State} {i j : Fin 16} (h : j ≠ i) (r : Bool) :
    (s.placeEnergise i r).loop j = s.loop j := by
  unfold State.placeEnergise
  cases (s.loop i).head <;> dsimp only
  case released | idleUnknown | silentRelease => exact State.loop_askToEnergise_ne h
  case releasePending =>
    split
    · exact State.loop_replaceOrder_ne h _
    · rfl
  case silentEnergise =>
    split
    · exact State.loop_order_ne h _
    · rfl

theorem State.loop_placeRelease_ne {s : State} {i j : Fin 16} (h : j ≠ i) (r : Bool) :
    (s.placeRelease i r).loop j = s.loop j := by
  unfold State.placeRelease
  cases (s.loop i).head <;> dsimp only
  case energised | silentEnergise => exact State.loop_order_ne h _
  case energisePending =>
    split
    · exact State.loop_replaceOrder_ne h _
    · rfl
  case energiseWait =>
    split
    · exact State.loop_setHead_ne h _
    · exact (State.loop_askToRelease_ne h).trans (State.loop_setHead_ne h _)
  case idleUnknown => exact State.loop_askToRelease_ne h
  case silentRelease =>
    split
    · exact State.loop_askToRelease_ne h
    · rfl

theorem State.loop_place_ne {s : State} {i j : Fin 16} (h : j ≠ i) (a : Action) (r : Bool) :
    (s.place i a r).loop j = s.loop j := by
  unfold State.place
  split
  · rfl
  · cases a
    · exact State.loop_placeRelease_ne h r
    · exact State.loop_placeEnergise_ne h r

theorem State.loop_want_ne {s : State} {i j : Fin 16} (h : j ≠ i) (a : Action) (r : Bool) :
    (s.want i a r).loop j = s.loop j :=
  (State.loop_place_ne h a r).trans (s.loop_updLoop_ne h.symm _)

theorem State.loop_placeDiffering_ne {s : State} {i j : Fin 16} (h : j ≠ i) (a : Action) :
    (s.placeDiffering i a).loop j = s.loop j := by
  unfold State.placeDiffering
  split
  · rfl
  · split
    · rfl
    · exact State.loop_place_ne h _ _

/-! ## Folds over the loops -/

/-- A fold that reaches one loop at a time leaves, at each loop of the list, what its own step leaves. -/
theorem State.foldl_loop {f : State → Fin 16 → State} {R : Loop → Loop → Prop}
    (hself : ∀ (u : State) i, R (u.loop i) ((f u i).loop i))
    (hother : ∀ (u : State) i j, j ≠ i → (f u i).loop j = u.loop j) {is : List (Fin 16)}
    (his : is.Nodup) (s : State) (j : Fin 16) :
    (j ∈ is → R (s.loop j) ((is.foldl f s).loop j)) ∧
      (j ∉ is → (is.foldl f s).loop j = s.loop j) := by
  induction is generalizing s with
  | nil => exact ⟨nofun, fun _ => rfl⟩
  | cons i is ih =>
    obtain ⟨hi, his⟩ := List.nodup_cons.mp his
    obtain ⟨hin, hout⟩ := ih his (f s i)
    refine ⟨fun hj => ?_, fun hj => ?_⟩
    · rcases List.mem_cons.mp hj with rfl | hj
      · rw [List.foldl_cons, hout hi]
        exact hself s j
      · have hne : j ≠ i := fun e => hi (e ▸ hj)
        rw [← hother s i j hne]
        exact hin hj
    · obtain ⟨hne, hj⟩ := List.ne_and_not_mem_of_not_mem_cons hj
      rw [List.foldl_cons, hout hj, hother s i j hne]

/-! ## Step 2 at one loop (R16, R77, R94) -/

/-- The record of a loop after step 2 of a recompute, its closing action aside. -/
def Loop.shedBy (l : Loop) (shedLevel : Nat) : Loop :=
  match l.state with
  | .running => if shedAt shedLevel l.level then
      { l.noDuties with state := .shed, request := 0, grant := 0, onTime := 0, openPhase := false } else l
  | .fault => if shedAt shedLevel l.level then { l.noDuties with onTime := 0, openPhase := false } else l
  | .shed => if shedAt shedLevel l.level then l else { l with state := .running }
  | .disabled | .standby | .testing => l

/-- k is l but for the wanted action, the head and the settle interval. -/
def Loop.PlacedAs (l k : Loop) : Prop :=
  k = { l with wanted := k.wanted, head := k.head, settle := k.settle }

theorem Loop.PlacedAs.refl (l : Loop) : l.PlacedAs l := rfl

theorem State.PlaceStep.placedAs {s t : State} (h : s.PlaceStep t) (j : Fin 16) :
    (s.loop j).PlacedAs (t.loop j) := h.2 j

theorem State.loop_closeShed_ne {s : State} {i j : Fin 16} (h : j ≠ i) :
    (s.closeShed i).loop j = s.loop j := by
  unfold State.closeShed
  dsimp only
  split
  · exact (State.loop_want_ne h _ _).trans (s.loop_updLoop_ne h.symm _)
  · exact s.loop_updLoop_ne h.symm _

theorem State.loop_closeShed_self (s : State) (i : Fin 16) :
    { s.loop i with onTime := 0, openPhase := false }.PlacedAs ((s.closeShed i).loop i) := by
  unfold State.closeShed
  dsimp only
  have hself : (s.updLoop i fun l => { l with onTime := 0, openPhase := false }).loop i =
      { s.loop i with onTime := 0, openPhase := false } := s.loop_updLoop_self i _
  split
  · rw [← hself]
    exact (State.want_placeStep _ i _ _).placedAs i
  · rw [hself]
    exact .refl _

theorem State.loop_shedStep_ne {s : State} {i j : Fin 16} (h : j ≠ i) (shedLevel : Nat) :
    (State.shedStep shedLevel s i).loop j = s.loop j := by
  unfold State.shedStep
  dsimp only
  split
  case h_1 | h_2 =>
    split
    · exact (State.loop_closeShed_ne h).trans (s.loop_updLoop_ne h.symm _)
    · rfl
  case h_3 =>
    split
    · rfl
    · exact s.loop_updLoop_ne h.symm _
  all_goals rfl

theorem State.loop_shedStep_self (s : State) (i : Fin 16) (shedLevel : Nat) :
    ((s.loop i).shedBy shedLevel).PlacedAs ((State.shedStep shedLevel s i).loop i) := by
  have hclosed (f : Loop → Loop) : { f (s.loop i) with onTime := 0, openPhase := false }.PlacedAs
      (((s.updLoop i f).closeShed i).loop i) := by
    have h := (s.updLoop i f).loop_closeShed_self i
    rwa [State.loop_updLoop_self] at h
  cases hstate : (s.loop i).state <;>
    simp only [State.shedStep, Loop.shedBy, hstate]
  case running =>
    split
    · exact hclosed _
    · exact .refl _
  case fault =>
    split
    · exact hclosed _
    · exact .refl _
  case shed =>
    split
    · exact .refl _
    · rw [State.loop_updLoop_self]
      exact .refl _
  all_goals exact .refl _

theorem State.loop_shedAll (s : State) (j : Fin 16) :
    ((s.loop j).shedBy s.shedLevel).PlacedAs (s.shedAll.loop j) :=
  (State.foldl_loop (R := fun l k => (l.shedBy s.shedLevel).PlacedAs k)
    (fun u i => u.loop_shedStep_self i _) (fun _ _ _ h => State.loop_shedStep_ne h _) nodup_loopIds s
    j).1 (mem_loopIds j)

/-! ## Steps 3 to 7 (R78 to R86) -/

theorem State.loop_allocate (s : State) (j : Fin 16) :
    s.allocate.loop j = (s.loop j).allocated (s.inShedRange j)
      (s.grantOf (s.findScaled allocationLevels s.bavail) j) := by
  have hgranted := s.loop_mapLoops (fun i l => l.allocated (s.inShedRange i)
    (s.grantOf (s.findScaled allocationLevels s.bavail) i)) j
  rw [← hgranted]
  unfold State.allocate
  dsimp only
  generalize s.mapLoops _ = g
  split
  · split <;> rfl
  · rfl

theorem State.alloc_allocate (s : State) : s.allocate.alloc =
    { budget := s.budget, reservation := s.reservation, bavail := s.bavail
      committed := s.allocate.committed
      scaledLevel := (s.findScaled allocationLevels s.bavail).map (·.1)
      short := (s.findScaled allocationLevels s.bavail).isSome } := by
  have hcommitted : s.allocate.committed = (s.mapLoops fun i l => l.allocated (s.inShedRange i)
      (s.grantOf (s.findScaled allocationLevels s.bavail) i)).committed := by
    simp only [State.committed, State.loop_allocate, State.loop_mapLoops]
  rw [hcommitted]
  unfold State.allocate
  dsimp only
  cases hscaled : s.findScaled allocationLevels s.bavail <;> dsimp only [Option.map]
  · rfl
  · split <;> rfl

theorem State.recompute_of_driving {s : State} (h : s.mode = .active ∨ s.mode = .halting) :
    s.recompute = s.shedAll.allocate := if_pos h

theorem State.recompute_of_not_driving {s : State} (h : ¬(s.mode = .active ∨ s.mode = .halting)) :
    s.recompute = s := if_neg h

/-! ## The levels that are served (R79) -/

/-- A sum over the loops is a sum over their indexes. -/
theorem sum_loopIds (f : Fin 16 → Nat) : (loopIds.map f).sum = ∑ i, f i := (Fin.sum_univ_def f).symm

/-- The sum over a list of levels of what the loops of each level bring. -/
theorem sum_levels (p : Fin 16 → Prop) [DecidablePred p] (level f : Fin 16 → Nat) {ls : List Nat}
    (hls : ls.Nodup) :
    (ls.map fun lv => ∑ i, if p i ∧ level i = lv then f i else 0).sum =
      ∑ i, if p i ∧ level i ∈ ls then f i else 0 := by
  induction ls with
  | nil => simp
  | cons lv ls ih =>
    obtain ⟨hlv, hls⟩ := List.nodup_cons.mp hls
    rw [List.map_cons, List.sum_cons, ih hls, ← Finset.sum_add_distrib]
    refine Finset.sum_congr rfl fun i _ => ?_
    by_cases hp : p i
    · by_cases he : level i = lv
      · simp [hp, he, hlv]
      · simp [hp, he]
    · simp [hp]

theorem State.levelDemand_eq (s : State) (lv : Nat) : s.levelDemand lv =
    ∑ i, if (s.loop i).state = .running ∧ (s.loop i).level = lv then
      (s.loop i).request * (s.loop i).weight else 0 := sum_loopIds _

/-- Every level is met in full exactly where their demands fit together. -/
theorem State.findScaled_eq_none {s : State} {ls : List Nat} {rem : Nat} :
    s.findScaled ls rem = none ↔ (ls.map s.levelDemand).sum ≤ rem := by
  induction ls generalizing rem with
  | nil => simp [State.findScaled]
  | cons lv ls ih =>
    rw [State.findScaled, List.map_cons, List.sum_cons]
    split
    · rw [ih]
      omega
    · simp only [reduceCtorEq, false_iff]
      omega

/-- The scaled level: the levels before it fit, and it does not fit in what they leave. -/
theorem State.findScaled_eq_some {s : State} {ls : List Nat} {rem lv r q : Nat} :
    s.findScaled ls rem = some (lv, r, q) ↔ q = s.levelDemand lv ∧ r < q ∧
      ∃ above below, ls = above ++ lv :: below ∧ (above.map s.levelDemand).sum + r = rem := by
  induction ls generalizing rem with
  | nil => simp [State.findScaled]
  | cons k ls ih =>
    rw [State.findScaled]
    split
    · rename_i hfits
      rw [ih]
      refine and_congr_right fun _ => and_congr_right fun hlt => ⟨?_, ?_⟩
      · rintro ⟨above, below, rfl, hsum⟩
        refine ⟨k :: above, below, rfl, ?_⟩
        rw [List.map_cons, List.sum_cons]
        omega
      · rintro ⟨above, below, he, hsum⟩
        cases above with
        | nil =>
          rw [List.nil_append, List.cons.injEq] at he
          rw [List.map_nil, List.sum_nil, Nat.zero_add] at hsum
          rw [he.1] at hfits
          omega
        | cons a above =>
          rw [List.cons_append, List.cons.injEq] at he
          rw [List.map_cons, List.sum_cons, ← he.1] at hsum
          exact ⟨above, below, he.2, by omega⟩
    · rename_i hover
      simp only [Option.some.injEq, Prod.mk.injEq]
      refine ⟨?_, ?_⟩
      · rintro ⟨hk, hr, hq⟩
        exact ⟨by rw [← hq, hk], by rw [← hr, ← hq]; exact not_le.mp hover, [], ls,
          by rw [hk, List.nil_append], by simpa using hr.symm⟩
      · rintro ⟨hq, hlt, above, below, he, hsum⟩
        cases above with
        | nil =>
          rw [List.nil_append, List.cons.injEq] at he
          obtain ⟨hk, -⟩ := he
          rw [List.map_nil, List.sum_nil, Nat.zero_add] at hsum
          exact ⟨hk, hsum.symm, by rw [hq, hk]⟩
        | cons a above =>
          rw [List.cons_append, List.cons.injEq] at he
          rw [List.map_cons, List.sum_cons, ← he.1] at hsum
          omega

/-! ## Grants (R79, R80, R82, R83) -/

theorem flooredGrant_le (floor grant : Nat) : flooredGrant floor grant ≤ grant := by
  unfold flooredGrant
  split <;> omega

theorem levelGrant_le {s : State} {ls : List Nat} {rem : Nat} (level request : Nat) :
    levelGrant (s.findScaled ls rem) level request ≤ request := by
  cases h : s.findScaled ls rem with
  | none => exact le_rfl
  | some x =>
    obtain ⟨lv, r, q⟩ := x
    obtain ⟨-, hlt, -⟩ := State.findScaled_eq_some.mp h
    simp only [levelGrant]
    split_ifs
    · exact le_rfl
    · exact Nat.div_le_of_le_mul (by rw [Nat.mul_comm]; exact Nat.mul_le_mul_right _ hlt.le)
    · exact Nat.zero_le _

theorem State.grantOf_le {s : State} {ls : List Nat} {rem : Nat} (i : Fin 16) :
    s.grantOf (s.findScaled ls rem) i ≤ (s.loop i).request := by
  unfold State.grantOf
  split
  · exact (flooredGrant_le _ _).trans (levelGrant_le _ _)
  · exact Nat.zero_le _

theorem State.grantOf_le_levelGrant {s : State} (scaled : Option (Nat × Nat × Nat)) (i : Fin 16) :
    s.grantOf scaled i ≤ levelGrant scaled (s.loop i).level (s.loop i).request := by
  unfold State.grantOf
  split
  · exact flooredGrant_le _ _
  · exact Nat.zero_le _

/-- The scaled grants of one level fit in what is left for it. -/
theorem sum_scaled_le (p : Fin 16 → Prop) [DecidablePred p] (f w : Fin 16 → Nat) {r q : Nat}
    (hq : ∑ i, (if p i then f i * w i else 0) = q) :
    ∑ i, (if p i then f i * r / q * w i else 0) ≤ r := by
  rcases Nat.eq_zero_or_pos q with rfl | hpos
  · simp
  · refine Nat.le_of_mul_le_mul_left ?_ hpos
    calc q * ∑ i, (if p i then f i * r / q * w i else 0)
        = ∑ i, (if p i then q * (f i * r / q) * w i else 0) := by
          rw [Finset.mul_sum]
          exact Finset.sum_congr rfl fun i _ => by split <;> ring
      _ ≤ ∑ i, (if p i then f i * w i else 0) * r := by
          refine Finset.sum_le_sum fun i _ => ?_
          split
          · rw [Nat.mul_right_comm (f i)]
            exact Nat.mul_le_mul_right _ (Nat.mul_div_le _ _)
          · exact Nat.zero_le _
      _ = q * r := by rw [← Finset.sum_mul, hq]

/-- The grants of the RUNNING loops of served levels fit in the flow. -/
theorem State.sum_grants_le {s : State} {ls : List Nat} {rem : Nat} (hls : ls.Pairwise (· > ·))
    (hlevel : ∀ i, (s.loop i).state = .running → (s.loop i).level ∈ ls) :
    ∑ i, (if (s.loop i).state = .running then
      s.grantOf (s.findScaled ls rem) i * (s.loop i).weight else 0) ≤ rem := by
  have hnodup : ls.Nodup := hls.imp fun h => (ne_of_lt h).symm
  have hserved (above : List Nat) (hn : above.Nodup) : (above.map s.levelDemand).sum =
      ∑ i, if (s.loop i).state = .running ∧ (s.loop i).level ∈ above then
        (s.loop i).request * (s.loop i).weight else 0 := by
    rw [← sum_levels _ _ _ hn]
    exact congrArg List.sum (List.map_congr_left fun lv _ => s.levelDemand_eq lv)
  cases h : s.findScaled ls rem with
  | none =>
    refine le_trans (Finset.sum_le_sum fun i _ => ?_) ((hserved ls hnodup).symm.le.trans
      (State.findScaled_eq_none.mp h))
    split
    · rename_i hrun
      rw [if_pos ⟨hrun, hlevel i hrun⟩]
      exact Nat.mul_le_mul_right _ (s.grantOf_le_levelGrant none i)
    · exact Nat.zero_le _
  | some x =>
    obtain ⟨lv, r, q⟩ := x
    obtain ⟨hq, hlt, above, below, rfl, hsum⟩ := State.findScaled_eq_some.mp h
    obtain ⟨habove, hbelow, hcross⟩ := List.pairwise_append.mp hls
    obtain ⟨hafter, -⟩ := List.pairwise_cons.mp hbelow
    have hscaled := sum_scaled_le (fun i => (s.loop i).state = .running ∧ (s.loop i).level = lv)
      (fun i => (s.loop i).request) (fun i => (s.loop i).weight) (r := r) (q := q)
      (by rw [hq, s.levelDemand_eq])
    have hfull := hserved above (habove.imp fun h => (ne_of_lt h).symm)
    calc _ ≤ ∑ i, ((if (s.loop i).state = .running ∧ (s.loop i).level ∈ above then
              (s.loop i).request * (s.loop i).weight else 0) +
            if (s.loop i).state = .running ∧ (s.loop i).level = lv then
              (s.loop i).request * r / q * (s.loop i).weight else 0) := by
          refine Finset.sum_le_sum fun i _ => ?_
          by_cases hrun : (s.loop i).state = .running
          · have hgrant := Nat.mul_le_mul_right (s.loop i).weight
              (s.grantOf_le_levelGrant (some (lv, r, q)) i)
            have hcase := hlevel i hrun
            simp only [hrun, true_and, if_true]
            refine hgrant.trans ?_
            simp only [List.mem_append, List.mem_cons] at hcase
            rcases hcase with hin | heq | hin
            · rw [if_pos hin, levelGrant, if_pos (hcross _ hin _ (List.mem_cons_self ..))]
              exact Nat.le_add_right _ _
            · rw [if_pos heq, levelGrant, if_neg (by omega), if_pos heq]
              exact Nat.le_add_left _ _
            · have hless := hafter _ hin
              rw [levelGrant, if_neg (by omega), if_neg (by omega), Nat.zero_mul]
              exact Nat.zero_le _
          · simp [hrun]
      _ ≤ rem := by
          rw [Finset.sum_add_distrib, ← hfull]
          omega

end Sys2Proof.Machine
end

section
/-! PROOFS. The grants within the flow and the duties of shed loops (R82 to R84) through every work: the
settling of O56 and O57. -/

namespace Sys2Proof.Machine

open Sys2Proof

/-! ## The conditions, loop by loop -/

/-- The grant of a loop lies within its request (R82). -/
def Loop.Granted (l : Loop) : Prop :=
  l.grant ≤ l.request ∧ l.request ≤ 4096 ∧ (l.state ≠ .running → l.grant = 0)

/-- Both duties of a loop are 0. -/
def Loop.Closed (l : Loop) : Prop := l.activeDuty = 0 ∧ l.bufferedDuty = 0

/-- A loop out of the drive has no duty and no request. -/
def Loop.Idle (l : Loop) : Prop :=
  l.engaged = false → l.activeDuty = 0 ∧ l.bufferedDuty = 0 ∧ l.request = 0

theorem Loop.Idle.closed {l : Loop} (h : l.Idle) (hout : l.engaged = false) : l.Closed :=
  ⟨(h hout).1, (h hout).2.1⟩

/-- The modes in which the allocator works (R76). -/
def State.Drives (s : State) : Prop := s.mode = .active ∨ s.mode = .halting

/-- Grants and flow in their bounds, with the levels that the allocation serves. -/
def State.Metered (s : State) : Prop :=
  s.GrantsBounded ∧ s.FlowWithinBudget ∧ ∀ i, (s.loop i).level ≤ 7

/-- No duty at idle loops and in the shed range. -/
def State.Dutiless (s : State) : Prop := s.IdleLoopsWithoutDuty ∧ s.ShedLoopsWithoutDuty

theorem State.committed_eq (s : State) : s.committed = ∑ i, (s.loop i).load := sum_loopIds _

/-- What t keeps of s: grants and flow while C holds, and the duties of idle and shed loops. -/
def State.Meters (C : Prop) (s t : State) : Prop :=
  (C → s.Metered → t.Metered) ∧ (s.Dutiless → t.Dutiless)

theorem State.Meters.refl (C : Prop) (s : State) : State.Meters C s s := ⟨fun _ => id, id⟩

theorem State.Meters.trans {C : Prop} {s t u : State} (h : State.Meters C s t)
    (g : State.Meters C t u) : State.Meters C s u :=
  ⟨fun hc hs => g.1 hc (h.1 hc hs), fun hs => g.2 (h.2 hs)⟩

/-! ## Changes that keep them -/

/-- The record k is no further from the bounds than l, at a shed level. -/
structure Loop.KeptAs (shedLevel : Nat) (l k : Loop) : Prop where
  level : k.level = l.level
  granted : l.Granted → k.Granted ∧ k.load ≤ l.load
  idle : l.Idle → k.Idle
  closed : l.Idle → (shedAt shedLevel l.level = true → l.Closed) → shedAt shedLevel l.level = true →
    k.Closed

/-- Every loop of t is no further from the bounds than that of s, under the same allocation. -/
structure State.Kept (s t : State) : Prop where
  alloc : t.alloc = s.alloc
  drives : t.Drives → s.Drives
  level : (∀ j, (s.loop j).level ≤ 7) → ∀ j, (t.loop j).level ≤ 7
  granted : ∀ j, (s.loop j).Granted → (t.loop j).Granted ∧ (t.loop j).load ≤ (s.loop j).load
  idle : ∀ j, (s.loop j).Idle → (t.loop j).Idle
  closed : t.Drives → ∀ j, (s.loop j).Idle → (s.inShedRange j = true → (s.loop j).Closed) →
    t.inShedRange j = true → (t.loop j).Closed

/-- The loops of u are fit for a recompute: their grants need not lie within their requests, nor the duties
of shed loops be 0. -/
structure State.Loose (C : Prop) (s u : State) : Prop where
  level : (∀ j, (s.loop j).level ≤ 7) → ∀ j, (u.loop j).level ≤ 7
  granted : C → ∀ j, (s.loop j).Granted →
    (u.loop j).request ≤ 4096 ∧ ((u.loop j).state ≠ .running → (u.loop j).grant = 0)
  idle : ∀ j, (s.loop j).Idle → (u.loop j).Idle

theorem State.Kept.meters {s t : State} (h : s.Kept t) (C : Prop) : State.Meters C s t := by
  refine ⟨fun _ ⟨hgrants, hflow, hlevel⟩ => ⟨fun i => (h.granted i (hgrants i)).1, ?_, h.level hlevel⟩,
    fun ⟨hidle, hshed⟩ => ⟨fun i => h.idle i (hidle i), fun hd i hi =>
      h.closed hd i (hidle i) (hshed (h.drives hd) i) hi⟩⟩
  unfold State.FlowWithinBudget at hflow ⊢
  rw [h.alloc]
  refine le_trans ?_ hflow
  rw [State.committed_eq, State.committed_eq]
  exact Finset.sum_le_sum fun i _ => (h.granted i (hgrants i)).2

theorem State.Kept.refl (s : State) : s.Kept s :=
  ⟨rfl, id, id, fun _ h => ⟨h, le_rfl⟩, fun _ => id, fun _ _ _ h => h⟩

theorem State.Kept.trans {s t u : State} (h : s.Kept t) (g : t.Kept u) : s.Kept u where
  alloc := g.alloc.trans h.alloc
  drives hd := h.drives (g.drives hd)
  level hl := g.level (h.level hl)
  granted j hj := ⟨(g.granted j (h.granted j hj).1).1,
    (g.granted j (h.granted j hj).1).2.trans (h.granted j hj).2⟩
  idle j hj := g.idle j (h.idle j hj)
  closed hd j hj hs := g.closed hd j (h.idle j hj) (h.closed (g.drives hd) j hj hs)

theorem State.Kept.loose {s t : State} (h : s.Kept t) (C : Prop) : State.Loose C s t :=
  ⟨h.level, fun _ j hj => ⟨(h.granted j hj).1.2.1, (h.granted j hj).1.2.2⟩, h.idle⟩

/-- The loops of t, each no further from the bounds, with the modes and the shed level as they were. -/
theorem State.kept_of_loops {s t : State} (halloc : t.alloc = s.alloc)
    (hdrives : t.Drives → s.Drives ∧ t.shedLevel = s.shedLevel)
    (hloop : ∀ j, Loop.KeptAs s.shedLevel (s.loop j) (t.loop j)) : s.Kept t where
  alloc := halloc
  drives hd := (hdrives hd).1
  level h j := (hloop j).level ▸ h j
  granted j := (hloop j).granted
  idle j := (hloop j).idle
  closed hd j hj hs hr := (hloop j).closed hj hs (by
    unfold State.inShedRange at hr
    rwa [(hdrives hd).2, (hloop j).level] at hr)

theorem Loop.KeptAs.refl (n : Nat) (l : Loop) : Loop.KeptAs n l l :=
  ⟨rfl, fun h => ⟨h, le_rfl⟩, id, fun _ h => h⟩

/-- A record with the same meters. -/
theorem Loop.keptAs_of_eq (n : Nat) {l k : Loop} (hlevel : k.level = l.level) (hstate : k.state = l.state)
    (hrequest : k.request = l.request) (hgrant : k.grant = l.grant) (hweight : k.weight = l.weight)
    (hactive : k.activeDuty = l.activeDuty) (hbuffered : k.bufferedDuty = l.bufferedDuty) :
    Loop.KeptAs n l k := by
  have hengaged : k.engaged = l.engaged := by simp only [Loop.engaged, hstate]
  refine ⟨hlevel, fun h => ⟨?_, ?_⟩, fun h => ?_, fun _ h hr => ?_⟩
  · rwa [Loop.Granted, hstate, hrequest, hgrant]
  · rw [Loop.load, Loop.load, hstate, hgrant, hweight]
  · rwa [Loop.Idle, hengaged, hrequest, hactive, hbuffered]
  · rw [Loop.Closed, hactive, hbuffered]
    exact h hr

theorem Loop.PlacedAs.keptAs {l k : Loop} (h : l.PlacedAs k) (n : Nat) : Loop.KeptAs n l k := by
  unfold Loop.PlacedAs at h
  exact Loop.keptAs_of_eq n (by rw [h]) (by rw [h]) (by rw [h]) (by rw [h]) (by rw [h]) (by rw [h])
    (by rw [h])

/-- A record without request, grant or duties is within every bound. -/
theorem Loop.keptAs_of_cleared (n : Nat) {l k : Loop} (hlevel : k.level = l.level)
    (hrequest : k.request = 0) (hgrant : k.grant = 0) (hactive : k.activeDuty = 0)
    (hbuffered : k.bufferedDuty = 0) : Loop.KeptAs n l k := by
  refine ⟨hlevel, fun _ => ⟨⟨?_, ?_, fun _ => hgrant⟩, ?_⟩, fun _ _ => ⟨hactive, hbuffered, hrequest⟩,
    fun _ _ _ => ⟨hactive, hbuffered⟩⟩
  · rw [hgrant]; exact Nat.zero_le _
  · rw [hrequest]; exact Nat.zero_le _
  · rw [Loop.load, hgrant, Nat.zero_mul, ite_self]
    exact Nat.zero_le _

/-- A change of one loop. -/
theorem State.setLoop_kept (s : State) (i : Fin 16) (l : Loop)
    (h : Loop.KeptAs s.shedLevel (s.loop i) l) : s.Kept (s.setLoop i l) := by
  refine State.kept_of_loops rfl (fun hd => ⟨hd, rfl⟩) fun j => ?_
  rw [State.loop_setLoop]
  split
  · rename_i e; exact e ▸ h
  · exact .refl _ _

theorem State.updLoop_kept (s : State) (i : Fin 16) (f : Loop → Loop)
    (h : Loop.KeptAs s.shedLevel (s.loop i) (f (s.loop i))) : s.Kept (s.updLoop i f) :=
  s.setLoop_kept i _ h

/-- A change of one loop that leaves its meters. -/
theorem State.updLoop_kept_of_eq (s : State) (i : Fin 16) (f : Loop → Loop)
    (h : ∀ l : Loop, (f l).level = l.level ∧ (f l).state = l.state ∧ (f l).request = l.request ∧
      (f l).grant = l.grant ∧ (f l).weight = l.weight ∧ (f l).activeDuty = l.activeDuty ∧
      (f l).bufferedDuty = l.bufferedDuty) : s.Kept (s.updLoop i f) := by
  obtain ⟨h1, h2, h3, h4, h5, h6, h7⟩ := h (s.loop i)
  exact s.updLoop_kept i f (Loop.keptAs_of_eq _ h1 h2 h3 h4 h5 h6 h7)

theorem State.mapLoops_kept (s : State) (f : Fin 16 → Loop → Loop)
    (h : ∀ i, Loop.KeptAs s.shedLevel (s.loop i) (f i (s.loop i))) : s.Kept (s.mapLoops f) := by
  refine State.kept_of_loops (by simp) (fun hd => ⟨?_, ?_⟩) fun j => ?_
  · simpa [State.Drives] using hd
  · simp [State.shedLevel, State.sourceShedLevel]
  · rw [State.loop_mapLoops]
    exact h j

theorem State.Quiet.kept {s t : State} (h : s.Quiet t) : s.Kept t where
  alloc := h.alloc
  drives hd := by rwa [State.Drives, h.mode] at hd
  level := h.ceiling
  granted j hj := by
    have hface := h.face j
    refine ⟨?_, (Loop.load_of_face hface).le⟩
    rwa [Loop.Granted, Loop.state_of_face hface, Loop.request_of_face hface, Loop.grant_of_face hface]
  idle j hj := by
    have hface := h.face j
    rwa [Loop.Idle, Loop.engaged_of_face hface, Loop.request_of_face hface,
      Loop.activeDuty_of_face hface, Loop.bufferedDuty_of_face hface]
  closed _ j hj hs hr := by
    have hface := h.face j
    rw [Loop.Closed, Loop.activeDuty_of_face hface, Loop.bufferedDuty_of_face hface]
    cases hengaged : (s.loop j).engaged
    · exact hj.closed hengaged
    · refine hs ?_
      unfold State.inShedRange at hr ⊢
      rwa [h.shedLevel, h.level j hengaged] at hr

theorem State.PlaceStep.kept {s t : State} (h : s.PlaceStep t) : s.Kept t := by
  refine State.kept_of_loops h.alloc (fun hd => ⟨?_, ?_⟩) fun j => (h.placedAs j).keptAs _
  · rwa [State.Drives, h.mode] at hd
  · rw [State.shedLevel, State.shedLevel, State.sourceShedLevel, State.sourceShedLevel, h.general,
      h.supply]

/-- A change of no loop, no allocation and nothing the shed level rests on. -/
theorem State.kept_of_same {s t : State} (hloops : t.loops = s.loops) (halloc : t.alloc = s.alloc)
    (hgeneral : t.general = s.general) (hsupply : t.supply = s.supply)
    (hdrives : t.Drives → s.Drives) : s.Kept t := by
  refine State.kept_of_loops halloc (fun hd => ⟨hdrives hd, ?_⟩) fun j => ?_
  · rw [State.shedLevel, State.shedLevel, State.sourceShedLevel, State.sourceShedLevel, hgeneral, hsupply]
  · rw [State.loop, State.loop, hloops]
    exact .refl _ _

/-! ## The recompute -/

/-- What a recompute makes of a loop. -/
theorem Loop.allocated_of_shedBy (l : Loop) {m : Loop} {shedLevel : Nat}
    (hm : (l.shedBy shedLevel).PlacedAs m) (g : Nat) :
    let k := m.allocated (shedAt shedLevel l.level) g
    m.level = l.level ∧ k.level = l.level ∧
    (l.request ≤ 4096 → (l.state ≠ .running → l.grant = 0) → g ≤ m.request → k.Granted) ∧
    (k.load = if m.state = .running then g * m.weight else 0) ∧
    (m.state = .running → shedAt shedLevel l.level = false) ∧
    (l.Idle → k.Idle) ∧ (l.Idle → shedAt shedLevel l.level = true → k.Closed) := by
  have hplaced : ∃ w h e, m = { l.shedBy shedLevel with wanted := w, head := h, settle := e } :=
    ⟨_, _, _, hm⟩
  obtain ⟨w, h, e, rfl⟩ := hplaced
  cases hstate : l.state <;> cases hr : shedAt shedLevel l.level <;>
    simp [Loop.shedBy, Loop.allocated, hstate, hr, Loop.noDuties, Loop.buffer, Loop.Granted, Loop.load,
      Loop.Idle, Loop.engaged, Loop.Closed] <;> omega

theorem State.shedLevel_shedAll (s : State) : s.shedAll.shedLevel = s.shedLevel := by
  have h := s.shedAll_driveStep
  rw [State.shedLevel, State.shedLevel, State.sourceShedLevel, State.sourceShedLevel, h.general, h.supply]

theorem State.loop_recompute {s : State} (h : s.Drives) (j : Fin 16) :
    s.recompute.loop j = (s.shedAll.loop j).allocated (shedAt s.shedLevel (s.loop j).level)
      (s.shedAll.grantOf (s.shedAll.findScaled allocationLevels s.shedAll.bavail) j) := by
  have hlevel : (s.shedAll.loop j).level = (s.loop j).level :=
    ((s.loop j).allocated_of_shedBy (s.loop_shedAll j) 0).1
  rw [State.recompute_of_driving h, State.loop_allocate, State.inShedRange, State.shedLevel_shedAll,
    hlevel]

theorem mem_allocationLevels {n : Nat} (h : n ≠ 0) (hle : n ≤ 7) : n ∈ allocationLevels := by
  simp only [allocationLevels, List.mem_cons, List.not_mem_nil, or_false]
  omega

/-- The flow after a recompute (R83). -/
theorem State.recompute_flow {s : State} (h : s.Drives) (hlevel : ∀ j, (s.loop j).level ≤ 7) :
    s.recompute.FlowWithinBudget := by
  have hspec (j : Fin 16) := (s.loop j).allocated_of_shedBy (s.loop_shedAll j)
    (s.shedAll.grantOf (s.shedAll.findScaled allocationLevels s.shedAll.bavail) j)
  have hserved (j : Fin 16) (hrun : (s.shedAll.loop j).state = .running) :
      (s.shedAll.loop j).level ∈ allocationLevels := by
    obtain ⟨hl, -, -, -, hout, -⟩ := hspec j
    have hout := hout hrun
    rw [hl]
    refine mem_allocationLevels (fun h0 => ?_) (hlevel j)
    simp [shedAt, h0] at hout
  have hbavail : s.recompute.alloc.bavail = s.shedAll.bavail := by
    rw [State.recompute_of_driving h, State.alloc_allocate]
  unfold State.FlowWithinBudget
  rw [hbavail, State.committed_eq]
  refine le_trans (Finset.sum_le_sum fun j _ => ?_)
    (State.sum_grants_le (s := s.shedAll) (ls := allocationLevels) (by decide) hserved)
  obtain ⟨-, -, -, hload, -⟩ := hspec j
  rw [State.loop_recompute h, hload]

/-- A recompute restores every bound from loops that are fit for it. -/
theorem State.Loose.recompute {C : Prop} {s u : State} (h : State.Loose C s u) (hd : u.Drives) :
    State.Meters C s u.recompute := by
  have hspec (j : Fin 16) := (u.loop j).allocated_of_shedBy (u.loop_shedAll j)
    (u.shedAll.grantOf (u.shedAll.findScaled allocationLevels u.shedAll.bavail) j)
  have hlevels (j : Fin 16) : (u.recompute.loop j).level = (u.loop j).level := by
    obtain ⟨-, hl, -⟩ := hspec j
    rw [State.loop_recompute hd, hl]
  have hshed : u.recompute.shedLevel = u.shedLevel := by
    have hstep := u.recompute_driveStep
    rw [State.shedLevel, State.shedLevel, State.sourceShedLevel, State.sourceShedLevel, hstep.general,
      hstep.supply]
  refine ⟨fun hc ⟨hgrants, _, hlevel⟩ => ⟨fun i => ?_, State.recompute_flow hd (h.level hlevel), fun i => ?_⟩,
    fun ⟨hidle, _⟩ => ⟨fun i => ?_, fun _ i hi => ?_⟩⟩
  · obtain ⟨-, -, hgranted, -⟩ := hspec i
    obtain ⟨hrequest, hgrant⟩ := h.granted hc i (hgrants i)
    rw [State.loop_recompute hd]
    exact hgranted hrequest hgrant (State.grantOf_le i)
  · rw [hlevels]
    exact h.level hlevel i
  · obtain ⟨-, -, -, -, -, hidles, -⟩ := hspec i
    rw [State.loop_recompute hd]
    exact hidles (h.idle i (hidle i))
  · obtain ⟨-, -, -, -, -, -, hcloses⟩ := hspec i
    rw [State.inShedRange, hshed, hlevels] at hi
    rw [State.loop_recompute hd]
    exact hcloses (h.idle i (hidle i)) hi

/-- A recompute after changes that keep the bounds keeps them in every mode. -/
theorem State.Kept.recompute {s u : State} (h : s.Kept u) (C : Prop) :
    State.Meters C s u.recompute := by
  by_cases hd : u.Drives
  · exact (h.loose C).recompute hd
  · rw [State.recompute_of_not_driving hd]
    exact h.meters C

theorem State.recompute_meters (s : State) (C : Prop) : State.Meters C s s.recompute :=
  (State.Kept.refl s).recompute C

/-! ## Causes -/

theorem Loop.intoFault_keptAs {n : Nat} {l : Loop} (_ : l.engaged = true) (c : CauseSet) :
    Loop.KeptAs n l (({ l with causes := c } : Loop).intoFault (shedAt n l.level)) := by
  cases hr : shedAt n l.level
  all_goals
    refine ⟨by simp [Loop.intoFault, Loop.noDuties, Loop.buffer], fun _ => ⟨?_, ?_⟩, fun _ he => ?_,
      fun _ _ hs => ?_⟩
  case false.refine_4 => simp [hr] at hs
  all_goals simp_all [Loop.intoFault, Loop.noDuties, Loop.buffer, Loop.Granted, Loop.load, Loop.engaged,
    Loop.Closed]

theorem State.addCause_meters (s : State) (i : Fin 16) (c : Cause) (C : Prop) :
    State.Meters C s (s.addCause i c) := by
  have hraise (u : State) (v : Option Int) : u.Kept (u.raise .loopFault (some i.val) v) :=
    (u.raise_quiet _ _ v).kept
  have hjoined := s.updLoop_kept_of_eq i (fun l => { l with causes := (s.loop i).causes.put true c })
    fun _ => ⟨rfl, rfl, rfl, rfl, rfl, rfl, rfl⟩
  have hfault (h : (s.loop i).engaged = true) := s.setLoop_kept i _
    (Loop.intoFault_keptAs h ((s.loop i).causes.put true c))
  unfold State.addCause
  dsimp only
  split
  · exact .refl C s
  · split
    case h_1 hs | h_2 hs =>
      have hset : (s.updLoop i fun l => { l with causes := (s.loop i).causes.put true c }).updLoop i
          (fun l => l.intoFault (s.inShedRange i)) = s.setLoop i
          (({ s.loop i with causes := (s.loop i).causes.put true c } : Loop).intoFault
            (shedAt s.shedLevel (s.loop i).level)) := by
        simp [State.updLoop, State.setLoop, State.loop, State.inShedRange]
      rw [hset]
      exact ((hfault (by simp [Loop.engaged, hs])).trans (hraise _ _)).recompute C
    all_goals exact (hjoined.trans (hraise _ _)).meters C

theorem State.removeCause_kept (s : State) (i : Fin 16) (c : Cause) : s.Kept (s.removeCause i c) := by
  have hleft := s.updLoop_kept_of_eq i (fun l => { l with causes := (s.loop i).causes.put false c })
    fun _ => ⟨rfl, rfl, rfl, rfl, rfl, rfl, rfl⟩
  unfold State.removeCause
  dsimp only
  split
  · exact .refl s
  · split
    · exact hleft.trans (State.raise_quiet _ _ _ _).kept
    · exact hleft

end Sys2Proof.Machine
end

section
/-! PROOFS. Every work of the core keeps the grants within the flow and the idle and shed loops without duty:
the settling of O56 and O57. -/

namespace Sys2Proof.Machine

open Sys2Proof

/-! ## Placings, checks and stages -/

theorem State.not_drives {s : State} (h : s.mode = .passive ∨ s.mode = .test) : ¬s.Drives := by
  rintro (hm | hm) <;> rw [hm] at h <;> simp at h

theorem State.checkHalting_kept (s : State) : s.Kept s.checkHalting := by
  rcases s.checkHalting_cases with e | ⟨-, -, e⟩ <;> rw [e]
  · exact .refl s
  · exact State.kept_of_same rfl rfl rfl rfl fun h => absurd h (State.not_drives (.inl rfl))

theorem State.checkWindDown_kept (s : State) : s.Kept s.checkWindDown := by
  rcases s.checkWindDown_cases with e | ⟨-, -, n, e⟩ <;> rw [e]
  · exact .refl s
  · exact State.kept_of_same rfl rfl rfl rfl fun h => absurd h (State.not_drives (.inl rfl))

theorem State.setPattern_kept (s : State) (p : Pattern) : s.Kept { s with pattern := p } :=
  State.kept_of_same rfl rfl rfl rfl id

theorem State.patternSettle_kept (s : State) : s.Kept s.patternSettle := by
  rw [s.patternSettle_pattern]
  exact s.setPattern_kept _

theorem State.afterHeadEvent_kept (s : State) : s.Kept s.afterHeadEvent :=
  (s.patternSettle_kept.trans (State.checkHalting_kept _)).trans (State.checkWindDown_kept _)

theorem State.driveStage_kept (s : State) (st : Stage) (k : Fin 16) (a : Action) :
    s.Kept (s.driveStage st k a) :=
  ((s.setPattern_kept _).trans (State.want_placeStep _ k a false).kept).trans
    (State.patternSettle_kept _)

/-- A loop that is out of the drive may go to any other state out of it. -/
theorem Loop.keptAs_of_out (n : Nat) {l : Loop} (hl : l.engaged = false) {x : LoopState}
    (hx : x ≠ .running ∧ x ≠ .shed ∧ x ≠ .fault) : Loop.KeptAs n l { l with state := x } := by
  obtain ⟨hrun, -, -⟩ := hx
  have hlrun : l.state ≠ .running := by
    rintro h
    simp [Loop.engaged, h] at hl
  refine ⟨rfl, fun ⟨hgrant, hrequest, hnone⟩ => ⟨⟨hgrant, hrequest, fun _ => hnone hlrun⟩, ?_⟩,
    fun h _ => h hl, fun h _ _ => h.closed hl⟩
  rw [Loop.load, if_neg hrun]
  exact Nat.zero_le _

/-- The TESTING loops return to STANDBY (R137). -/
theorem State.standDown_kept (s : State) :
    s.Kept (s.mapLoops fun _ l => if l.state = .testing then { l with state := .standby } else l) := by
  refine s.mapLoops_kept _ fun i => ?_
  split
  · exact Loop.keptAs_of_out _ (by simp [Loop.engaged, *]) (by decide)
  · exact .refl _ _

theorem State.endPattern_kept (s : State) (e : Ending) : s.Kept (s.endPattern e) :=
  ((((s.setPattern_kept _).trans (State.wantAll_placeStep _ (fun _ _ => .release) _).kept).trans
    (State.standDown_kept _)).trans (State.setPattern_kept _ _)).trans (State.checkWindDown_kept _)

theorem State.enterTest_kept (s : State) : s.Kept s.enterTest := by
  have hloops : s.Kept (s.mapLoops fun _ l =>
      if l.state = .standby then { l with state := .testing } else l) := by
    refine s.mapLoops_kept _ fun i => ?_
    split
    · exact Loop.keptAs_of_out _ (by simp [Loop.engaged, *]) (by decide)
    · exact .refl _ _
  have hmode (u : State) : u.Kept { u with mode := .test } :=
    State.kept_of_same rfl rfl rfl rfl fun h => absurd h (State.not_drives (.inr rfl))
  exact hloops.trans (hmode _)

theorem State.startIdentify_kept (s : State) (k : Fin 16) (n d : Nat) :
    s.Kept (s.startIdentify k n d) :=
  (s.enterTest_kept.trans (State.setPattern_kept _ _)).trans (State.driveStage_kept _ _ k _)

theorem State.startSweep_kept (s : State) (d r : Nat) : s.Kept (s.startSweep d r) := by
  have hset : s.Kept ((s.enterTest.setPattern .sweep d r 0).setStage .closingAll none) :=
    (s.enterTest_kept.trans (State.setPattern_kept _ _)).trans (State.setPattern_kept _ _)
  have hswept (u : State) : u.Kept { u with sweep := Vector.replicate 16 {} } :=
    State.kept_of_same rfl rfl rfl rfl id
  unfold State.startSweep
  dsimp only
  exact ((hset.trans (hswept _)).trans (State.wantAll_placeStep _ State.closingAction _).kept).trans
    (State.patternSettle_kept _)

/-! ## ENABLE, DISABLE and START -/

/-- What ENABLE and a restart clear. -/
theorem Loop.clearStatus_cleared (l : Loop) :
    l.clearStatus.level = l.level ∧ l.clearStatus.request = 0 ∧ l.clearStatus.grant = 0 ∧
      l.clearStatus.activeDuty = 0 ∧ l.clearStatus.bufferedDuty = 0 ∧ l.clearStatus.openPhase = false ∧
      l.clearStatus.head = .idleUnknown ∧ l.clearStatus.wanted = none := by
  simp [Loop.clearStatus, Loop.noDuties, Loop.leaveCycle, Loop.emptyAcc]

theorem Loop.disabled_cleared (l : Loop) :
    l.disabled.level = l.level ∧ l.disabled.request = 0 ∧ l.disabled.grant = 0 ∧
      l.disabled.activeDuty = 0 ∧ l.disabled.bufferedDuty = 0 ∧ l.disabled.openPhase = false ∧
      l.disabled.head = l.head ∧ l.disabled.wanted = l.wanted := by
  simp [Loop.disabled, Loop.noDuties, Loop.leaveCycle, Loop.emptyAcc]

theorem State.enabledLoop_keptAs (s : State) (i : Fin 16) (n : Nat) :
    Loop.KeptAs n (s.loop i) (s.enabledLoop i) := by
  obtain ⟨hlevel, hrequest, hgrant, hactive, hbuffered, -⟩ := (s.loop i).clearStatus_cleared
  unfold State.enabledLoop
  generalize (s.loop i).clearStatus = l at *
  dsimp only
  split <;> exact Loop.keptAs_of_cleared n hlevel hrequest hgrant hactive hbuffered

theorem Loop.disabled_keptAs (n : Nat) (l : Loop) : Loop.KeptAs n l l.disabled := by
  obtain ⟨hlevel, hrequest, hgrant, hactive, hbuffered, -⟩ := l.disabled_cleared
  exact Loop.keptAs_of_cleared n hlevel hrequest hgrant hactive hbuffered

theorem State.joined_kept (s : State) (i : Fin 16) : s.Kept (s.joined i) :=
  (s.leaveWaits_placeStep i).kept.trans (State.setLoop_kept _ i _ (s.enabledLoop_keptAs i _))

theorem State.disable_meters (s : State) (i : Fin 16) (C : Prop) : State.Meters C s (s.disable i) := by
  have hcleared : s.Kept ((s.leaveWaitsAtDisable i).updLoop i Loop.disabled) := by
    have hleft : s.Kept (s.leaveWaitsAtDisable i) := by
      unfold State.leaveWaitsAtDisable
      split
      · exact .refl s
      · exact (s.leaveWaits_placeStep i).kept
    exact hleft.trans (State.updLoop_kept _ i _ (Loop.disabled_keptAs _ _))
  have hrecomputed : State.Meters C s (if (s.loop i).engaged then
      ((s.leaveWaitsAtDisable i).updLoop i Loop.disabled).recompute
      else (s.leaveWaitsAtDisable i).updLoop i Loop.disabled) := by
    split
    · exact hcleared.recompute C
    · exact hcleared.meters C
  unfold State.disable
  dsimp only
  split
  · exact hrecomputed.trans ((State.want_placeStep _ i _ _).kept.meters C)
  · exact hrecomputed

theorem State.SameRun.refl (s : State) : s.SameRun s := (State.Quiet.refl s).toSameRun

theorem State.Quiet.trans {s t u : State} (h : s.Quiet t) (g : t.Quiet u) : s.Quiet u where
  toSameRun := h.toSameRun.trans g.toSameRun
  level j hj := (g.level j ((Loop.engaged_of_face (h.face j)).trans hj)).trans (h.level j hj)
  shedLevel := g.shedLevel.trans h.shedLevel

/-- A fold of quiet changes is quiet. -/
theorem State.foldl_quiet {α : Type} (f : State → α → State) (h : ∀ s a, State.Quiet s (f s a))
    (l : List α) (s : State) : s.Quiet (l.foldl f s) := by
  induction l generalizing s with
  | nil => exact .refl s
  | cons a l ih => exact (h s a).trans (ih _)

/-- The PROBE condition of a STANDBY loop, evaluated: nothing but its causes and a notice changes. -/
theorem State.addProbeCause_quiet (s : State) (i : Fin 16) (h : (s.loop i).state = .standby) :
    s.Quiet (s.addProbeCause i) := by
  unfold State.addProbeCause
  split
  · unfold State.addCause
    dsimp only
    split
    · exact .refl s
    · rw [h]
      exact State.Quiet.trans (s.updLoop_quiet i _) (State.raise_quiet _ _ _ _)
  · exact .refl s

/-- The part at a START, its STANDBY loops' PROBE conditions evaluated. -/
def State.startCauses (s : State) : State :=
  loopIds.foldl (fun s i => if (s.loop i).state = .standby then s.addProbeCause i else s)
    { s with mode := .active, t0 := some s.now }

/-- The part at a START, its loops placed. -/
def State.startPlaced (s : State) : State :=
  s.startCauses.mapLoops fun i l =>
    if l.state = .standby then
      l.placed (s.startCauses.inShedRange i) (s.startCauses.boundaryFrom i s.now (s.now + 1))
    else l

theorem State.start_eq (s : State) : s.start = s.startPlaced.recompute := rfl

theorem State.startCauses_quiet (s : State) :
    State.Quiet { s with mode := .active, t0 := some s.now } s.startCauses := by
  refine State.foldl_quiet _ (fun u i => ?_) loopIds _
  split
  · exact u.addProbeCause_quiet i ‹_›
  · exact .refl u

theorem State.startPlaced_loose (s : State) (C : Prop) : State.Loose C s s.startPlaced := by
  have hactive : State.Loose C s { s with mode := .active, t0 := some s.now } :=
    ⟨id, fun _ _ h => ⟨h.2.1, h.2.2⟩, fun _ h => h⟩
  have hquiet := s.startCauses_quiet.kept
  have hplaced (l : Loop) (r : Bool) (b : Nat) :
      (l.placed r b).level = l.level ∧ (l.placed r b).request = l.request ∧
        (l.placed r b).grant = l.grant ∧ (l.placed r b).engaged = true := by
    refine ⟨rfl, rfl, rfl, ?_⟩
    simp only [Loop.placed, Loop.engaged]
    split_ifs <;> rfl
  refine ⟨fun h j => ?_, fun hc j hj => ?_, fun j hj => ?_⟩ <;>
    rw [State.startPlaced, State.loop_mapLoops] <;> split
  · rw [(hplaced _ _ _).1]
    exact hquiet.level h j
  · exact hquiet.level h j
  · rename_i hstate
    obtain ⟨-, hrequest, hgrant, -⟩ := hplaced (s.startCauses.loop j) (s.startCauses.inShedRange j)
      (s.startCauses.boundaryFrom j s.now (s.now + 1))
    obtain ⟨-, hle, hzero⟩ := (hquiet.granted j hj).1
    rw [hrequest, hgrant]
    exact ⟨hle, fun _ => hzero (by rw [hstate]; decide)⟩
  · obtain ⟨-, hle, hzero⟩ := (hquiet.granted j hj).1
    exact ⟨hle, hzero⟩
  · intro he
    obtain ⟨-, -, -, hengaged⟩ := hplaced (s.startCauses.loop j) (s.startCauses.inShedRange j)
      (s.startCauses.boundaryFrom j s.now (s.now + 1))
    rw [hengaged] at he
    cases he
  · exact hquiet.idle j hj

theorem State.mode_startPlaced (s : State) : s.startPlaced.mode = .active := by
  rw [State.startPlaced, State.mode_mapLoops, s.startCauses_quiet.mode]

theorem State.start_meters (s : State) (C : Prop) : State.Meters C s s.start :=
  (s.startPlaced_loose C).recompute (.inl s.mode_startPlaced)

/-! ## The drive timers -/

theorem State.confirm_kept (s : State) (i : Fin 16) (a : Action) : s.Kept (s.confirm i a) := by
  unfold State.confirm
  refine s.updLoop_kept_of_eq i _ ?_
  exact fun _ => ⟨rfl, rfl, rfl, rfl, rfl, rfl, rfl⟩

theorem State.clearSilent_kept (s : State) (i : Fin 16) : s.Kept (s.clearSilent i) := by
  unfold State.clearSilent
  split
  · exact s.removeCause_kept i _
  · exact .refl s

theorem State.damageBy_meters (s : State) (i : Fin 16) (c : Condition) (C : Prop) :
    State.Meters C s (s.damageBy i c) := by
  cases c
  · exact .refl C s
  all_goals exact s.addCause_meters i _ C

/-- The part after an echo is confirmed and its loop's echoes counted (R100). -/
def State.echoCounted (s : State) (i : Fin 16) (a : Action) : State :=
  if (s.loop i).head == a.sent then ((s.confirm i a).updLoop i Loop.goodEcho).clearSilent i
  else s.confirm i a

theorem State.takeEcho_eq (s : State) (i : Fin 16) (a : Action) (c : Condition) :
    s.takeEcho i a c = (((s.echoCounted i a).damageBy i c).placeDiffering i a).afterHeadEvent := rfl

theorem State.echoCounted_kept (s : State) (i : Fin 16) (a : Action) : s.Kept (s.echoCounted i a) := by
  unfold State.echoCounted
  split
  · exact ((s.confirm_kept i a).trans (State.updLoop_kept_of_eq _ i Loop.goodEcho fun _ =>
      ⟨rfl, rfl, rfl, rfl, rfl, rfl, rfl⟩)).trans (State.clearSilent_kept _ i)
  · exact s.confirm_kept i a

theorem State.takeEcho_meters (s : State) (i : Fin 16) (a : Action) (c : Condition) (C : Prop) :
    State.Meters C s (s.takeEcho i a c) := by
  rw [State.takeEcho_eq]
  exact (((s.echoCounted_kept i a).meters C).trans (State.damageBy_meters _ i c C)).trans
    (((State.placeDiffering_placeStep _ i a).kept.trans (State.afterHeadEvent_kept _)).meters C)

/-- The part after a timeout is counted, SILENT added where it is due (R102). -/
def State.timeoutCounted (s : State) (i : Fin 16) (a : Action) : State :=
  let counted := (s.setHead i a.silent).updLoop i fun l =>
    { l with echoDue := none, misses := satInc l.misses, goodRun := 0 }
  if (s.loop i).misses + 1 = Config.silentMisses then counted.addCause i .silent else counted

theorem State.timeout_eq (s : State) (i : Fin 16) (a : Action) :
    s.timeout i a = ((s.timeoutCounted i a).placeDiffering i a).afterHeadEvent := rfl

theorem State.timeout_meters (s : State) (i : Fin 16) (a : Action) (C : Prop) :
    State.Meters C s (s.timeout i a) := by
  have hcounted := (s.setHead_placeStep i a.silent).kept.trans
    (State.updLoop_kept_of_eq _ i (fun l =>
      { l with echoDue := none, misses := satInc l.misses, goodRun := 0 }) fun _ =>
      ⟨rfl, rfl, rfl, rfl, rfl, rfl, rfl⟩)
  have hcause : State.Meters C s (s.timeoutCounted i a) := by
    unfold State.timeoutCounted
    dsimp only
    split
    · exact (hcounted.meters C).trans (State.addCause_meters _ i _ C)
    · exact hcounted.meters C
  rw [State.timeout_eq]
  exact hcause.trans
    (((State.placeDiffering_placeStep _ i a).kept.trans (State.afterHeadEvent_kept _)).meters C)

theorem State.freeTx_kept (s : State) (p : PortId) : s.Kept (s.freeTx p) := by
  cases p <;> exact State.kept_of_same rfl rfl rfl rfl id

theorem State.orderSent_kept (s : State) (i : Fin 16) (a : Action) : s.Kept (s.orderSent i a) := by
  have hsent := (s.setHead_placeStep i a.sent).kept.trans
    (State.updLoop_kept_of_eq _ i (fun l => { l with echoDue := some (s.now + Config.echoTimeout) })
      fun _ => ⟨rfl, rfl, rfl, rfl, rfl, rfl, rfl⟩)
  cases a
  · exact hsent.trans (State.grantSlot_placeStep _).kept
  · exact hsent

theorem State.completeHeadOrder_kept (s : State) (i : Fin 16) (a : Action) (o : Bool) :
    s.Kept (s.completeHeadOrder i a o) := by
  unfold State.completeHeadOrder
  dsimp only
  refine State.Kept.trans ?_ ((State.checkHalting_kept _).trans (State.checkWindDown_kept _))
  split
  · exact s.freeTx_kept .m
  · exact (s.freeTx_kept .m).trans (State.orderSent_kept _ i a)

theorem State.takeHeadOrder_kept (s : State) : s.Kept s.takeHeadOrder := by
  unfold State.takeHeadOrder
  split
  · exact .refl s
  · rename_i o rest _
    have horders : s.Kept { s with orders := rest } := State.kept_of_same rfl rfl rfl rfl id
    have hline (u : State) (x : Transmission) : u.Kept (u.transmit .m x) :=
      State.kept_of_same rfl rfl rfl rfl id
    exact (horders.trans (State.updLoop_kept_of_eq _ o.loop
      (fun l => { l with lastAction := some o.action }) fun _ =>
      ⟨rfl, rfl, rfl, rfl, rfl, rfl, rfl⟩)).trans (hline _ _)

/-! ## The restart -/

theorem State.loop_restart_cleared (s : State) (i : Fin 16) :
    (s.restart.loop i).level = (s.loop i).level ∧ (s.restart.loop i).request = 0 ∧
      (s.restart.loop i).grant = 0 ∧ (s.restart.loop i).activeDuty = 0 ∧
      (s.restart.loop i).bufferedDuty = 0 ∧ (s.restart.loop i).openPhase = false ∧
      (s.restart.loop i).head = .idleUnknown ∧ (s.restart.loop i).wanted = none := by
  rw [State.loop_restart]
  exact (s.loop i).clearStatus_cleared

theorem State.restart_meters (s : State) (C : Prop) : State.Meters C s s.restart := by
  have hcleared (i : Fin 16) : Loop.KeptAs 0 (s.loop i) (s.restart.loop i) := by
    obtain ⟨hlevel, hrequest, hgrant, hactive, hbuffered, -⟩ := s.loop_restart_cleared i
    exact Loop.keptAs_of_cleared 0 hlevel hrequest hgrant hactive hbuffered
  refine ⟨fun _ ⟨hgrants, _, hlevel⟩ => ⟨fun i => ((hcleared i).granted (hgrants i)).1, ?_, fun i => ?_⟩,
    fun ⟨hidle, _⟩ => ⟨fun i => (hcleared i).idle (hidle i), fun hd => ?_⟩⟩
  · unfold State.FlowWithinBudget
    rw [State.committed_eq]
    refine (Finset.sum_eq_zero fun i _ => ?_).le
    obtain ⟨-, -, hgrant, -⟩ := s.loop_restart_cleared i
    rw [Loop.load, hgrant, Nat.zero_mul, ite_self]
  · rw [(hcleared i).level]
    exact hlevel i
  · exact absurd hd (State.not_drives (.inl rfl))

/-! ## The work at a boundary -/

theorem State.capture_kept (s : State) (i : Fin 16) : s.Kept (s.capture i) := by
  have hsame (u : State) (f : Loop → Loop) (h : ∀ l : Loop, (f l).level = l.level ∧
      (f l).state = l.state ∧ (f l).request = l.request ∧ (f l).grant = l.grant ∧
      (f l).weight = l.weight ∧ (f l).activeDuty = l.activeDuty ∧
      (f l).bufferedDuty = l.bufferedDuty) : u.Kept (u.updLoop i f) := u.updLoop_kept_of_eq i f h
  have hachieved := hsame s (fun l => { l with achieved := l.openCount }) fun _ =>
    ⟨rfl, rfl, rfl, rfl, rfl, rfl, rfl⟩
  have hstarved (n : Loop → Nat) (u : State) := hsame u (fun l => { l with starvedRun := n l }) fun _ =>
    ⟨rfl, rfl, rfl, rfl, rfl, rfl, rfl⟩
  unfold State.capture
  dsimp only
  split
  · split
    · exact (hachieved.trans (hstarved (fun l => satInc l.starvedRun) _)).trans
        (State.raise_quiet _ _ _ _).kept
    · exact hachieved.trans (hstarved (fun l => satInc l.starvedRun) _)
  · exact hachieved.trans (hstarved (fun _ => 0) _)

theorem Loop.balance_keptAs (n : Nat) (l : Loop) (k : FloorClass) :
    Loop.KeptAs n l (l.balance k).emptyAcc := by
  unfold Loop.balance
  split <;> exact Loop.keptAs_of_eq n rfl rfl rfl rfl rfl rfl rfl

theorem State.emptyAcc_kept (s : State) (i : Fin 16) : s.Kept (s.updLoop i Loop.emptyAcc) :=
  s.updLoop_kept_of_eq i _ fun _ => ⟨rfl, rfl, rfl, rfl, rfl, rfl, rfl⟩

theorem State.balance_kept (s : State) (i : Fin 16) : s.Kept (s.balance i) :=
  s.updLoop_kept i _ (Loop.balance_keptAs _ _ _)

theorem State.haltingWork_kept (s : State) (i : Fin 16) : s.Kept (s.haltingWork i) := by
  unfold State.haltingWork
  split
  · exact s.balance_kept i
  · exact s.emptyAcc_kept i

theorem Loop.halted_cleared (l : Loop) :
    l.halted.level = l.level ∧ l.halted.request = 0 ∧ l.halted.grant = 0 ∧
      l.halted.activeDuty = 0 ∧ l.halted.bufferedDuty = 0 ∧ l.halted.openPhase = false ∧
      l.halted.head = l.head ∧ l.halted.wanted = l.wanted := by
  simp [Loop.halted, Loop.noDuties, Loop.leaveCycle]

theorem State.haltingBoundary_meters (s : State) (i : Fin 16) (C : Prop) :
    State.Meters C s (s.haltingBoundary i) := by
  have hwanted : s.Kept (s.haltingWanted i) :=
    ((s.capture_kept i).trans (State.haltingWork_kept _ i)).trans
      (State.want_placeStep _ i .release false).kept
  obtain ⟨hlevel, hrequest, hgrant, hactive, hbuffered, -⟩ :=
    ((s.haltingWanted i).loop i).halted_cleared
  rw [State.haltingBoundary_eq]
  exact ((hwanted.trans (State.updLoop_kept _ i _
    (Loop.keptAs_of_cleared _ hlevel hrequest hgrant hactive hbuffered))).recompute C).trans
    ((State.checkHalting_kept _).meters C)

/-- A FAULT loop that leaves FAULT (R15). -/
theorem Loop.faultExit_keptAs {n : Nat} {l : Loop} (h : l.state = .fault) :
    Loop.KeptAs n l { l with state := if shedAt n l.level then .shed else .running } := by
  have hengaged : l.engaged = true := by simp [Loop.engaged, h]
  have hstate : ({ l with state := if shedAt n l.level then .shed else .running } : Loop).engaged = true := by
    simp only [Loop.engaged]
    split <;> rfl
  refine ⟨rfl, fun ⟨hle, hbound, hzero⟩ => ?_, fun _ he => ?_, fun _ hs hr => hs hr⟩
  · have hgrant : l.grant = 0 := hzero (by rw [h]; decide)
    refine ⟨⟨hle, hbound, fun _ => hgrant⟩, ?_⟩
    rw [Loop.load]
    simp [hgrant]
  · rw [hstate] at he
    cases he

theorem State.faultExit_meters (s : State) (i : Fin 16) (C : Prop) :
    State.Meters C s (s.faultExit i) := by
  unfold State.faultExit
  split
  · rename_i h
    exact (s.updLoop_kept i _ (Loop.faultExit_keptAs h.1)).recompute C
  · exact .refl C s

/-- A request of a loop in range is at most full duty (R66 to R68, R82). -/
theorem State.requestOf_le {s : State} (h : s.ConfigInRange) (i : Fin 16) : s.requestOf i ≤ 4096 := by
  obtain ⟨hgeneral, hloops, -, hprofiles, hrooms, -⟩ := h
  have hshare : (s.loop i).share ≤ 4096 := by
    have hl := hloops i
    unfold Loop.InRange at hl
    omega
  have hdemand : s.demandOf i ≤ 1024 := by
    unfold State.demandOf
    split
    · rename_i r _
      have hr := hrooms r
      unfold Room.InRange at hr
      omega
    · exact Nat.zero_le _
  have hr0 : unflooredRequest (s.loop i).share (s.demandOf i) ≤ 4096 := by
    unfold unflooredRequest
    exact Nat.div_le_of_le_mul ((Nat.mul_le_mul hshare hdemand).trans (by decide))
  have hfloor : s.requestFloor i ≤ 4096 := by
    have hp := hprofiles (s.loop i).profile
    unfold General.InRange at hgeneral
    unfold Profile.InRange at hp
    unfold State.requestFloor
    rw [ceilDiv_le_iff (by omega)]
    exact Nat.mul_le_mul_left _ (by unfold State.profileOf; omega)
  unfold State.requestOf flooredRequest
  split_ifs <;> omega

theorem State.postRequest_meters {s : State} (i : Fin 16) {C : Prop} (hc : C → s.ConfigInRange)
    (hd : s.Drives) (hrun : (s.loop i).state = .running) : State.Meters C s (s.postRequest i) := by
  have hloose : State.Loose C s (s.updLoop i fun l => { l with request := s.requestOf i }) := by
    refine ⟨fun h j => ?_, fun hC j hj => ?_, fun j hj => ?_⟩ <;> rw [State.loop_updLoop] <;> split
    · exact h i
    · exact h j
    · rename_i e
      exact ⟨State.requestOf_le (hc hC) i, fun hs => absurd hrun hs⟩
    · exact ⟨hj.2.1, hj.2.2⟩
    · intro he
      simp [Loop.engaged, hrun] at he
    · exact hj
  exact hloose.recompute hd

theorem Loop.swap_keptAs (n : Nat) (l : Loop) : Loop.KeptAs n l l.swap := by
  unfold Loop.swap
  split
  · exact ⟨rfl, fun h => ⟨h, le_rfl⟩, fun h he => ⟨(h he).2.1, (h he).2.1, (h he).2.2⟩,
      fun _ h hr => ⟨(h hr).2, (h hr).2⟩⟩
  · exact .refl n l

theorem State.phaseStart_kept (s : State) (i : Fin 16) : s.Kept (s.phaseStart i) := by
  unfold State.phaseStart
  dsimp only
  refine State.Kept.trans (s.updLoop_kept_of_eq i _ ?_) (State.want_placeStep _ i _ true).kept
  exact fun _ => ⟨rfl, rfl, rfl, rfl, rfl, rfl, rfl⟩

theorem State.stateWork_meters {s : State} (i : Fin 16) {C : Prop} (hc : C → s.ConfigInRange)
    (hd : s.Drives) : State.Meters C s (s.stateWork i) := by
  unfold State.stateWork
  split
  · rename_i hrun
    have hbalance := s.balance_driveStep i
    refine ((s.balance_kept i).meters C).trans (State.postRequest_meters i
      (fun h => (hc h).run hbalance.run) ?_ ?_)
    · rwa [State.Drives, hbalance.mode]
    · rw [State.balance, State.loop_updLoop_self, Loop.emptyAcc, Loop.balance]
      split <;> exact hrun
  · exact (s.emptyAcc_kept i).meters C

theorem State.activeBoundary_meters {s : State} (i : Fin 16) {C : Prop} (hc : C → s.ConfigInRange)
    (hd : s.Drives) : State.Meters C s (s.activeBoundary i) := by
  have hstep := (s.capture_driveStep i).trans (State.faultExit_driveStep _ i)
  unfold State.activeBoundary
  dsimp only
  refine ((((s.capture_kept i).meters C).trans (State.faultExit_meters _ i C)).trans
    (State.stateWork_meters i (fun h => (hc h).run hstep.run) ?_)).trans
    (((State.updLoop_kept _ i _ (Loop.swap_keptAs _ _)).trans (State.phaseStart_kept _ i)).meters C)
  rwa [State.Drives, hstep.mode]

theorem State.boundary_meters {s : State} (i : Fin 16) {C : Prop} (hc : C → s.ConfigInRange)
    (h : s.boundaryDue i = true) : State.Meters C s (s.boundary i) := by
  have hd : s.Drives := by
    simp only [State.boundaryDue, Bool.and_eq_true, Bool.or_eq_true, beq_iff_eq] at h
    exact h.1.1
  have hnext := s.updLoop_kept_of_eq i (fun l => { l with
      nextBoundary := l.nextBoundary.map (· + s.general.cycleLength), lastBoundary := some s.now })
    fun _ => ⟨rfl, rfl, rfl, rfl, rfl, rfl, rfl⟩
  have hrun := s.updLoop_runStep i (fun l => { l with
      nextBoundary := l.nextBoundary.map (· + s.general.cycleLength), lastBoundary := some s.now })
    fun _ => by simp [Loop.SameSettings, Loop.enabled]
  unfold State.boundary
  dsimp only
  split
  · exact (hnext.meters C).trans (State.haltingBoundary_meters _ i C)
  · exact (hnext.meters C).trans (State.activeBoundary_meters i (fun hC => (hc hC).run hrun) hd)

/-! ## The laws -/

theorem State.SameRun.loose {C : Prop} {s t : State} (h : s.SameRun t) : State.Loose C s t where
  level := h.ceiling
  granted _ j hj := by
    have hface := h.face j
    rw [Loop.state_of_face hface, Loop.request_of_face hface, Loop.grant_of_face hface]
    exact ⟨hj.2.1, hj.2.2⟩
  idle j hj := by
    have hface := h.face j
    rwa [Loop.Idle, Loop.engaged_of_face hface, Loop.request_of_face hface,
      Loop.activeDuty_of_face hface, Loop.bufferedDuty_of_face hface]

theorem State.SameRun.recompute_meters {s t : State} (h : s.SameRun t) (C : Prop) :
    State.Meters C s t.recompute := by
  by_cases hd : t.Drives
  · exact h.loose.recompute hd
  · rw [State.recompute_of_not_driving hd]
    refine State.Kept.meters ⟨h.alloc, fun h => absurd h hd, h.ceiling, fun j hj => ?_, h.loose (C := C).idle,
      fun h => absurd h hd⟩ C
    have hface := h.face j
    refine ⟨?_, (Loop.load_of_face hface).le⟩
    rwa [Loop.Granted, Loop.state_of_face hface, Loop.request_of_face hface, Loop.grant_of_face hface]

theorem State.Work.meters {s t : State} (h : s.Work t) (C : Prop) : State.Meters C s t := by
  cases h
  case quiet h => exact h.kept.meters C
  case caused i c => exact s.addCause_meters i c C
  case reshaped h => exact h.recompute_meters C
  case retuned f hm _ =>
    have hout : ¬(s.updGeneral f).Drives := State.not_drives (.inl hm)
    have hkept : s.Kept (s.updGeneral f) := ⟨rfl, fun h => absurd h hout, id, fun _ h => ⟨h, le_rfl⟩,
      fun _ => id, fun h => absurd h hout⟩
    exact hkept.meters C
  case joined i _ => exact (s.joined_kept i).recompute C
  case disabled i _ => exact s.disable_meters i C
  case started => exact s.start_meters C
  case halted hm =>
    have hmode : s.Kept { s with mode := .halting } :=
      State.kept_of_same rfl rfl rfl rfl fun _ => .inl hm
    exact (hmode.trans (State.checkHalting_kept _)).meters C
  case identified => exact (s.startIdentify_kept _ _ _).meters C
  case swept => exact (s.startSweep_kept _ _).meters C
  case ended => exact (s.endPattern_kept _).meters C
  case staged => exact (s.driveStage_kept _ _ _).meters C
  case echoed i a c _ => exact s.takeEcho_meters i a c C
  case timedOut i a _ => exact s.timeout_meters i a C
  case orderSent i a x o _ => exact (s.completeHeadOrder_kept i a o).meters C
  case onTimeOver i _ =>
    exact ((s.updLoop_kept_of_eq i (fun l => { l with openPhase := false }) fun _ =>
      ⟨rfl, rfl, rfl, rfl, rfl, rfl, rfl⟩).trans (State.want_placeStep _ i _ false).kept).meters C
  case restarted => exact s.restart_meters C

theorem State.reset_loop_cleared (i : Fin 16) :
    (State.reset.loop i).request = 0 ∧ (State.reset.loop i).grant = 0 ∧
      (State.reset.loop i).activeDuty = 0 ∧ (State.reset.loop i).bufferedDuty = 0 ∧
      (State.reset.loop i).level = 1 ∧ (State.reset.loop i).state = .disabled ∧
      (State.reset.loop i).openPhase = false ∧ (State.reset.loop i).head = .idleUnknown ∧
      (State.reset.loop i).wanted = none := by
  rw [State.loop_reset]
  exact ⟨rfl, rfl, rfl, rfl, rfl, rfl, rfl, rfl, rfl⟩

theorem State.reset_metered : State.reset.Metered := by
  refine ⟨fun i => ?_, ?_, fun i => ?_⟩
  · obtain ⟨hrequest, hgrant, -⟩ := State.reset_loop_cleared i
    rw [hrequest, hgrant]
    exact ⟨le_rfl, Nat.zero_le _, fun _ => rfl⟩
  · unfold State.FlowWithinBudget
    rw [State.committed_eq]
    refine (Finset.sum_eq_zero fun i _ => ?_).le
    obtain ⟨-, hgrant, -⟩ := State.reset_loop_cleared i
    rw [Loop.load, hgrant, Nat.zero_mul, ite_self]
  · obtain ⟨-, -, -, -, hlevel, -⟩ := State.reset_loop_cleared i
    rw [hlevel]
    decide

theorem State.reset_dutiless : State.reset.Dutiless := by
  refine ⟨fun i _ => ?_, fun hm => ?_⟩
  · obtain ⟨hrequest, -, hactive, hbuffered, -⟩ := State.reset_loop_cleared i
    exact ⟨hactive, hbuffered, hrequest⟩
  · exact absurd hm (State.not_drives (.inl rfl))

/-- Grants and flow are a law of the part while its configuration is in range. -/
theorem State.metered_law : State.Law fun s => s.ConfigInRange ∧ s.Metered :=
  State.law_of_works State.configInRange_law (fun _ _ => State.reset_metered)
    (fun _ _ h hw => (hw.meters True).1 trivial h)
    (fun s h _ => (s.takeHeadOrder_kept.meters True).1 trivial h)
    (fun _ i hc h hdue => (State.boundary_meters i (fun _ : True => hc) hdue).1 trivial h)

/-- What always holds is a law. -/
theorem State.law_true : State.Law fun _ => True :=
  ⟨fun _ _ _ => trivial, fun _ _ => trivial, fun _ _ _ _ => trivial, fun _ _ _ _ => trivial,
    fun _ _ => trivial⟩

/-- The duties of idle and shed loops are a law of the part. -/
theorem State.dutiless_law : State.Law fun s => True ∧ s.Dutiless :=
  State.law_of_works State.law_true (fun _ _ => State.reset_dutiless)
    (fun _ _ h hw => (hw.meters False).2 h)
    (fun s h _ => (s.takeHeadOrder_kept.meters False).2 h)
    (fun _ i _ h hdue => (State.boundary_meters i False.elim hdue).2 h)

/-- Settles O56: grants and flow are a law together with the ranges of the configuration. -/
theorem grantsStayWithinBudget : Obligations.GrantsStayWithinBudget := by
  intro s t hconfig hgrants hflow hstep
  have hlevel (i : Fin 16) : (s.loop i).level ≤ 7 := by
    obtain ⟨-, hloops, -⟩ := hconfig
    have hl := hloops i
    unfold Loop.InRange at hl
    omega
  obtain ⟨-, hgrants, hflow, -⟩ := State.metered_law.step ⟨hconfig, hgrants, hflow, hlevel⟩ hstep
  exact ⟨hgrants, hflow⟩

/-- Settles O57: `State.Dutiless` is a law. -/
theorem shedLoopsKeepNoDuty : Obligations.ShedLoopsKeepNoDuty :=
  fun _ _ hidle hshed hstep => (State.dutiless_law.step ⟨trivial, hidle, hshed⟩ hstep).2

end Sys2Proof.Machine
end

section
/-! PROOFS. The head arbiter, one loop at a time: what the lists and port M hold of a loop (`Docket`), which
of it agrees with its head (`Docket.Sound`), and that every placing keeps it so within Hmax (R95 to R98). -/

namespace Sys2Proof.Machine

open Sys2Proof

/-! ## The docket of a loop -/

/-- What the arbiter holds of one loop: its head, the actions of its queued orders and of its waits, and
that of its order on port M. -/
structure Docket where
  head : HeadState
  orders : List Action
  waits : List Action
  line : Option Action

def State.ordersOf (s : State) (i : Fin 16) : List Action :=
  (s.orders.filter (·.loop == i)).map (·.action)

def State.waitsOf (s : State) (i : Fin 16) : List Action :=
  (s.waits.filter (·.loop == i)).map (·.action)

def State.lineOf (s : State) (i : Fin 16) : Option Action :=
  match s.line with
  | some (j, a) => if j = i then some a else none
  | none => none

def State.docket (s : State) (i : Fin 16) : Docket :=
  ⟨(s.loop i).head, s.ordersOf i, s.waitsOf i, s.lineOf i⟩

/-- The heads that hold no slot and may wait to release. -/
def HeadState.rests (h : HeadState) : Prop := h = .idleUnknown ∨ h = .released ∨ h = .silentRelease

/-- The heads that have nothing listed: sent, or confirmed or silent on ENERGISE. -/
def HeadState.away (h : HeadState) : Prop :=
  h = .energiseSent ∨ h = .energised ∨ h = .silentEnergise ∨ h = .releaseSent

/-- What the arbiter may hold of a loop (R96 to R98). -/
inductive Docket.Sound : Docket → Prop
  | rest {h : HeadState} (hh : h.rests) : Docket.Sound ⟨h, [], [], none⟩
  | restWaiting {h : HeadState} (hh : h.rests) : Docket.Sound ⟨h, [], [.release], none⟩
  | waiting : Docket.Sound ⟨.energiseWait, [], [.energise], none⟩
  | listed (a : Action) : Docket.Sound ⟨a.queued, [a], [], none⟩
  | onLine (a : Action) : Docket.Sound ⟨a.queued, [], [], some a⟩
  | away {h : HeadState} (hh : h.away) : Docket.Sound ⟨h, [], [], none⟩

/-- The lists and port M agree with every head. -/
def State.Filed (s : State) : Prop := ∀ i, (s.docket i).Sound

theorem State.docket_congr {s t : State} {i : Fin 16} (hhead : (t.loop i).head = (s.loop i).head)
    (horders : t.orders = s.orders) (hwaits : t.waits = s.waits) (hline : t.line = s.line) :
    t.docket i = s.docket i := by
  simp only [State.docket, State.ordersOf, State.waitsOf, State.lineOf, hhead, horders, hwaits, hline]

theorem State.lineOf_eq_some {s : State} {i : Fin 16} {a : Action} :
    s.lineOf i = some a ↔ s.line = some (i, a) := by
  unfold State.lineOf
  cases s.line with
  | none => simp
  | some x =>
    obtain ⟨j, b⟩ := x
    simp only [Option.some.injEq, Prod.mk.injEq]
    split <;> simp_all

theorem State.line_eq_some {s : State} {i : Fin 16} {a : Action} :
    s.line = some (i, a) ↔ ∃ t, s.portM.tx = some (.headOrder i a t false) := by
  unfold State.line
  split <;> simp_all

/-! ## Agreement in the frozen terms -/

/-- A list that names i at most once. -/
theorem filter_length_le_one {α : Type} {l : List α} {f : α → Fin 16} (h : (l.map f).Nodup) (i : Fin 16) :
    (l.filter (f · == i)).length ≤ 1 := by
  have hcount := List.nodup_iff_count_le_one.mp h i
  rwa [List.count, List.countP_map, List.countP_eq_length_filter] at hcount

theorem nodup_of_filter_length {α : Type} {l : List α} {f : α → Fin 16}
    (h : ∀ i, (l.filter (f · == i)).length ≤ 1) : (l.map f).Nodup := by
  refine List.nodup_iff_count_le_one.mpr fun i => ?_
  rw [List.count, List.countP_map, List.countP_eq_length_filter]
  exact h i

theorem State.orderQueued_iff {s : State} {i : Fin 16} : s.orderQueued i = true ↔ s.ordersOf i ≠ [] := by
  simp [State.orderQueued, State.ordersOf]

theorem State.waiting_iff {s : State} {i : Fin 16} : s.waiting i = true ↔ s.waitsOf i ≠ [] := by
  simp [State.waiting, State.waitsOf]

theorem State.orderInTransmission_iff {s : State} {i : Fin 16} :
    s.orderInTransmission i = true ↔ ∃ a, s.lineOf i = some a := by
  simp only [State.lineOf_eq_some, State.line_eq_some, State.orderInTransmission]
  split <;> simp_all

theorem State.mem_ordersOf {s : State} {i : Fin 16} {a : Action} :
    a ∈ s.ordersOf i ↔ ∃ o ∈ s.orders, o.loop = i ∧ o.action = a := by
  simp [State.ordersOf, and_assoc]

theorem State.mem_waitsOf {s : State} {i : Fin 16} {a : Action} :
    a ∈ s.waitsOf i ↔ ∃ w ∈ s.waits, w.loop = i ∧ w.action = a := by
  simp [State.waitsOf, and_assoc]

/-- What a sound docket says, in the terms of `OrdersAgree` and `WaitsAgree`. -/
theorem Docket.sound_iff (d : Docket) : d.Sound ↔
    d.orders.length ≤ 1 ∧ d.waits.length ≤ 1 ∧ (∀ a ∈ d.orders, d.head = a.queued) ∧
    (∀ a, d.line = some a → d.head = a.queued ∧ d.orders = []) ∧
    (d.head = .energisePending ∨ d.head = .releasePending → d.orders ≠ [] ∨ ∃ a, d.line = some a) ∧
    (.energise ∈ d.waits → d.head = .energiseWait) ∧
    (.release ∈ d.waits → d.head = .idleUnknown ∨ d.head = .silentRelease ∨ d.head = .released) ∧
    (d.head = .energiseWait → d.waits ≠ []) := by
  constructor
  · rintro (⟨rfl | rfl | rfl⟩ | ⟨rfl | rfl | rfl⟩ | _ | ⟨⟨⟩⟩ | ⟨⟨⟩⟩ | ⟨rfl | rfl | rfl | rfl⟩) <;>
      simp [Action.queued]
  · obtain ⟨h, os, ws, l⟩ := d
    rintro ⟨hos, hws, hhead, hline, hpending, henergise, hrelease, hwait⟩
    match os, ws, hos, hws with
    | [], [], _, _ =>
      cases l with
      | none =>
        cases h
        case idleUnknown | released | silentRelease => exact .rest (by simp [HeadState.rests])
        case energised | energiseSent | silentEnergise | releaseSent =>
          exact .away (by simp [HeadState.away])
        all_goals simp_all
      | some a =>
        obtain ⟨rfl, -⟩ := hline a rfl
        exact .onLine a
    | [a], ws, _, hws =>
      obtain rfl := hhead a (List.mem_singleton_self a)
      obtain rfl : l = none := by
        cases l with
        | none => rfl
        | some b => simpa using hline b rfl
      match ws, hws with
      | [], _ => exact .listed a
      | [.energise], _ => cases a <;> simp [Action.queued] at henergise
      | [.release], _ => cases a <;> simp [Action.queued] at hrelease
    | [], [b], _, _ =>
      cases b
      · have hh := hrelease (List.mem_singleton_self _)
        obtain rfl : l = none := by
          cases l with
          | none => rfl
          | some a =>
            obtain ⟨rfl, -⟩ := hline a rfl
            cases a <;> simp [Action.queued] at hh
        refine .restWaiting ?_
        unfold HeadState.rests
        tauto
      · obtain rfl := henergise (List.mem_singleton_self _)
        obtain rfl : l = none := by
          cases l with
          | none => rfl
          | some a =>
            have hq := (hline a rfl).1
            cases a <;> simp [Action.queued] at hq
        exact .waiting

/-- The agreement of orders and waits with the heads is that of every docket. -/
theorem State.filed_iff (s : State) : s.Filed ↔ s.OrdersAgree ∧ s.WaitsAgree := by
  have hlen (i : Fin 16) : (s.ordersOf i).length = (s.orders.filter (·.loop == i)).length :=
    List.length_map ..
  have wlen (i : Fin 16) : (s.waitsOf i).length = (s.waits.filter (·.loop == i)).length :=
    List.length_map ..
  simp only [State.Filed, Docket.sound_iff, State.docket]
  constructor
  · intro h
    refine ⟨⟨nodup_of_filter_length fun i => ?_, fun o ho => ?_, fun i a t htx => ?_, fun i hi => ?_⟩,
      nodup_of_filter_length fun i => ?_, fun w hw ha => ?_, fun w hw ha => ?_, fun i hi => ?_⟩
    · exact hlen i ▸ (h i).1
    · obtain ⟨-, -, hhead, -⟩ := h o.loop
      exact hhead _ (State.mem_ordersOf.mpr ⟨o, ho, rfl, rfl⟩)
    · obtain ⟨-, -, -, hline, -⟩ := h i
      obtain ⟨hhead, hnone⟩ := hline a (State.lineOf_eq_some.mpr (State.line_eq_some.mpr ⟨t, htx⟩))
      refine ⟨hhead, ?_⟩
      rw [← Bool.not_eq_true, State.orderQueued_iff]
      exact fun hne => hne hnone
    · obtain ⟨-, -, -, -, hpending, -⟩ := h i
      rw [State.orderQueued_iff, State.orderInTransmission_iff]
      exact hpending hi
    · obtain ⟨-, hle, -⟩ := h i
      exact wlen i ▸ hle
    · obtain ⟨-, -, -, -, -, henergise, -⟩ := h w.loop
      exact henergise (State.mem_waitsOf.mpr ⟨w, hw, rfl, ha⟩)
    · obtain ⟨-, -, -, -, -, -, hrelease, -⟩ := h w.loop
      exact hrelease (State.mem_waitsOf.mpr ⟨w, hw, rfl, ha⟩)
    · obtain ⟨-, -, -, -, -, -, -, hwait⟩ := h i
      exact State.waiting_iff.mpr (hwait hi)
  · rintro ⟨⟨honce, hhead, hline, hpending⟩, hwonce, henergise, hrelease, hwait⟩ i
    refine ⟨?_, ?_, fun a ha => ?_, fun a ha => ?_, fun hi => ?_, fun hm => ?_, fun hm => ?_, fun hi => ?_⟩
    · rw [hlen]; exact filter_length_le_one honce i
    · rw [wlen]; exact filter_length_le_one hwonce i
    · obtain ⟨o, ho, rfl, rfl⟩ := State.mem_ordersOf.mp ha
      exact hhead o ho
    · obtain ⟨t, htx⟩ := State.line_eq_some.mp (State.lineOf_eq_some.mp ha)
      obtain ⟨hq, hnone⟩ := hline i a t htx
      refine ⟨hq, ?_⟩
      rw [← Bool.not_eq_true, State.orderQueued_iff] at hnone
      exact not_not.mp hnone
    · rw [← State.orderQueued_iff, ← State.orderInTransmission_iff]
      exact hpending i hi
    · obtain ⟨w, hw, rfl, ha⟩ := State.mem_waitsOf.mp hm
      exact henergise w hw ha
    · obtain ⟨w, hw, rfl, ha⟩ := State.mem_waitsOf.mp hm
      exact hrelease w hw ha
    · exact State.waiting_iff.mp (hwait i hi)

/-! ## Dockets after the operations -/

section ops

variable {s : State} {i j : Fin 16}

theorem State.docket_setHead_self (x : HeadState) :
    (s.setHead i x).docket i = { s.docket i with head := x } := by
  have hhead : ((s.setHead i x).loop i).head = x := by rw [State.loop_setHead, if_pos rfl]
  simp only [State.docket, hhead]
  rfl

theorem State.docket_setHead_ne (h : j ≠ i) (x : HeadState) : (s.setHead i x).docket j = s.docket j :=
  State.docket_congr (by rw [State.loop_setHead_ne h]) rfl rfl rfl

theorem State.docket_order_self (a : Action) :
    (s.order i a).docket i =
      { s.docket i with head := a.queued, orders := (s.docket i).orders ++ [a] } := by
  have hhead : ((s.order i a).loop i).head = a.queued := by rw [State.loop_order, if_pos rfl]
  have horders : (s.order i a).ordersOf i = s.ordersOf i ++ [a] := by
    have happ : (s.order i a).orders = s.orders ++ [⟨i, a⟩] := rfl
    simp [State.ordersOf, happ]
  simp only [State.docket, hhead, horders]
  rfl

theorem State.docket_order_ne (h : j ≠ i) (a : Action) : (s.order i a).docket j = s.docket j := by
  have hhead : ((s.order i a).loop j).head = (s.loop j).head := by rw [State.loop_order_ne h]
  have horders : (s.order i a).ordersOf j = s.ordersOf j := by
    have happ : (s.order i a).orders = s.orders ++ [⟨i, a⟩] := rfl
    simp [State.ordersOf, happ, List.filter_append, h.symm]
  simp only [State.docket, hhead, horders]
  rfl

theorem State.ordersOf_replaceOrder (a : Action) :
    (s.replaceOrder i a).ordersOf j =
      if j = i then (s.ordersOf i).map fun _ => a else s.ordersOf j := by
  have hmap : (s.replaceOrder i a).orders = s.orders.map fun o => if o.loop == i then ⟨i, a⟩ else o := rfl
  simp only [State.ordersOf, hmap]
  induction s.orders with
  | nil => simp
  | cons o os ih =>
    by_cases ho : o.loop = i <;> by_cases hj : j = i <;>
      simp_all [List.filter_cons]
    all_goals split <;> simp_all

theorem State.docket_replaceOrder_self (a : Action) :
    (s.replaceOrder i a).docket i =
      { s.docket i with head := a.queued, orders := (s.docket i).orders.map fun _ => a } := by
  have hhead : ((s.replaceOrder i a).loop i).head = a.queued := by
    rw [State.loop_replaceOrder, if_pos rfl]
  simp only [State.docket, hhead, State.ordersOf_replaceOrder, if_true]
  rfl

theorem State.docket_replaceOrder_ne (h : j ≠ i) (a : Action) :
    (s.replaceOrder i a).docket j = s.docket j := by
  have hhead : ((s.replaceOrder i a).loop j).head = (s.loop j).head := by
    rw [State.loop_replaceOrder_ne h]
  simp only [State.docket, hhead, State.ordersOf_replaceOrder, if_neg h]
  rfl

theorem State.docket_leaveWaits_self : (s.leaveWaits i).docket i = { s.docket i with waits := [] } := by
  have hwaits : (s.leaveWaits i).waitsOf i = [] := by
    simp [State.waitsOf, State.leaveWaits]
  simp only [State.docket, hwaits]
  rfl

theorem State.docket_leaveWaits_ne (h : j ≠ i) : (s.leaveWaits i).docket j = s.docket j := by
  have hwaits : (s.leaveWaits i).waitsOf j = s.waitsOf j := by
    simp only [State.waitsOf, State.leaveWaits, List.filter_filter]
    congr 1
    refine List.filter_congr fun w _ => ?_
    by_cases hw : w.loop = j <;> simp [hw, h]
  simp only [State.docket, hwaits]
  rfl

/-- The wait list with an entry of loop i at its tail. -/
theorem State.docket_addWait (a : Action) (b : Bool) :
    State.docket { s with waits := s.waits ++ [⟨i, a, b⟩] } j =
      if j = i then { s.docket i with waits := (s.docket i).waits ++ [a] } else s.docket j := by
  have hwaits : State.waitsOf { s with waits := s.waits ++ [⟨i, a, b⟩] } j =
      if j = i then s.waitsOf i ++ [a] else s.waitsOf j := by
    by_cases h : j = i
    · subst h
      simp [State.waitsOf]
    · simp [State.waitsOf, List.filter_append, h, Ne.symm h]
  simp only [State.docket, hwaits]
  split
  · rename_i h
    subst h
    rfl
  · rfl

end ops

/-! ## Slots (R98) -/

theorem State.holders_eq (s : State) :
    s.holders = ∑ i, if (s.loop i).head.holdsSlot = true then 1 else 0 := by
  have h (is : List (Fin 16)) : is.countP (fun i => (s.loop i).head.holdsSlot) =
      (is.map fun i => if (s.loop i).head.holdsSlot = true then 1 else 0).sum := by
    induction is with
    | nil => rfl
    | cons i is ih =>
      rw [List.countP_cons, List.map_cons, List.sum_cons, ih, Nat.add_comm]
  rw [State.holders, h, sum_loopIds]

/-- The slots of the loops other than i. -/
def State.otherHolders (s : State) (i : Fin 16) : Nat :=
  ∑ j ∈ Finset.univ.erase i, if (s.loop j).head.holdsSlot = true then 1 else 0

theorem State.holders_eq_add (s : State) (i : Fin 16) :
    s.holders = (if (s.loop i).head.holdsSlot = true then 1 else 0) + s.otherHolders i := by
  rw [State.holders_eq, State.otherHolders]
  exact (Finset.add_sum_erase Finset.univ
    (fun j => if (s.loop j).head.holdsSlot = true then 1 else 0) (Finset.mem_univ i)).symm

theorem State.otherHolders_congr {s t : State} {i : Fin 16}
    (h : ∀ j, j ≠ i → (t.loop j).head = (s.loop j).head) : t.otherHolders i = s.otherHolders i := by
  unfold State.otherHolders
  exact Finset.sum_congr rfl fun j hj => by rw [h j (Finset.ne_of_mem_erase hj)]

theorem State.holders_congr {s t : State} (h : ∀ j, (t.loop j).head = (s.loop j).head) :
    t.holders = s.holders := by
  rw [State.holders_eq, State.holders_eq]
  exact Finset.sum_congr rfl fun j _ => by rw [h j]

/-- Only the head of loop i changes: a slot is taken by it at most, and only if it holds one then. -/
theorem State.holders_le_of_move {s t : State} (i : Fin 16) {n : Nat}
    (hother : ∀ j, j ≠ i → (t.loop j).head = (s.loop j).head)
    (hslot : (t.loop i).head.holdsSlot = true → (s.loop i).head.holdsSlot = true ∨ s.holders < n)
    (h : s.holders ≤ n) : t.holders ≤ n := by
  rw [t.holders_eq_add i, State.otherHolders_congr hother]
  rw [s.holders_eq_add i] at h hslot
  split
  · rename_i ht
    rcases hslot ht with hs | hlt
    · rwa [if_pos hs] at h
    · omega
  · omega

end Sys2Proof.Machine
end

section
/-! PROOFS. Placings, grants and confirmations keep the slots within Hmax, the lists in agreement with the
heads, and every loop that is not driven on its way to unpowered (R95 to R102). -/

namespace Sys2Proof.Machine

open Sys2Proof

/-! ## Placings at one loop (R96, R98) -/

/-- t differs from s, as far as the arbiter reads, at loop i alone: its docket is sound, and it takes a slot
only where one is left. -/
structure State.PlacesAt (i : Fin 16) (s t : State) : Prop where
  other : ∀ j, j ≠ i → t.docket j = s.docket j
  slot : (t.loop i).head.holdsSlot = true →
    (s.loop i).head.holdsSlot = true ∨ s.holders < s.general.hmax
  sound : (t.docket i).Sound

theorem State.PlacesAt.refl {i : Fin 16} {s : State} (h : (s.docket i).Sound) : State.PlacesAt i s s :=
  ⟨fun _ _ => rfl, .inl, h⟩

/-- Before the placing the docket of loop i may change, its head still without a slot. -/
theorem State.PlacesAt.after {i : Fin 16} {s u t : State} (h : State.PlacesAt i u t)
    (hother : ∀ j, j ≠ i → u.docket j = s.docket j) (hmax : u.general.hmax = s.general.hmax)
    (hslot : (u.loop i).head.holdsSlot = (s.loop i).head.holdsSlot) : State.PlacesAt i s t := by
  have hholders : u.holders = s.holders := by
    rw [u.holders_eq_add i, s.holders_eq_add i, hslot]
    exact congrArg _ (State.otherHolders_congr fun j hj => congrArg Docket.head (hother j hj))
  refine ⟨fun j hj => (h.other j hj).trans (hother j hj), fun ht => ?_, h.sound⟩
  rw [← hslot, ← hholders, ← hmax]
  exact h.slot ht

theorem HeadState.rests.not_slot {h : HeadState} (hh : h.rests) : h.holdsSlot = false := by
  rcases hh with rfl | rfl | rfl <;> rfl

theorem Action.queued_holdsSlot (a : Action) : a.queued.holdsSlot = true := by cases a <;> rfl

theorem State.docket_eq {s : State} {i : Fin 16} {h : HeadState} {os ws : List Action} {l : Option Action}
    (hd : s.docket i = ⟨h, os, ws, l⟩) :
    (s.loop i).head = h ∧ s.ordersOf i = os ∧ s.waitsOf i = ws ∧ s.lineOf i = l := by
  rw [State.docket, Docket.mk.injEq] at hd
  exact hd

section place

variable {s : State} {i : Fin 16}

/-- An order of a loop with nothing listed. -/
theorem State.order_placesAt {h : HeadState} (hd : s.docket i = ⟨h, [], [], none⟩) (a : Action)
    (hslot : h.holdsSlot = true ∨ s.holders < s.general.hmax) : State.PlacesAt i s (s.order i a) := by
  obtain ⟨hhead, -⟩ := State.docket_eq hd
  refine ⟨fun j hj => State.docket_order_ne hj a, fun _ => hhead ▸ hslot, ?_⟩
  rw [State.docket_order_self, hd]
  exact .listed a

theorem State.replaceOrder_placesAt {a b : Action} (hd : s.docket i = ⟨b.queued, [b], [], none⟩) :
    State.PlacesAt i s (s.replaceOrder i a) := by
  obtain ⟨hhead, -⟩ := State.docket_eq hd
  refine ⟨fun j hj => State.docket_replaceOrder_ne hj a, fun _ => .inl ?_, ?_⟩
  · rw [hhead, Action.queued_holdsSlot]
  · rw [State.docket_replaceOrder_self, hd]
    exact .listed a

theorem State.askToEnergise_placesAt {h : HeadState} (hd : s.docket i = ⟨h, [], [], none⟩) :
    State.PlacesAt i s (s.askToEnergise i) := by
  unfold State.askToEnergise
  split
  · exact State.order_placesAt hd _ (.inr ‹_›)
  · have hwait (j : Fin 16) := State.docket_addWait (s := s.setHead i .energiseWait) (i := i) (j := j)
      .energise ((s.loop i).head == .silentRelease)
    refine ⟨fun j hj => ?_, fun ht => ?_, ?_⟩
    · exact (hwait j).trans ((if_neg hj).trans (State.docket_setHead_ne hj _))
    · have hhead := congrArg Docket.head ((hwait i).trans (if_pos rfl))
      rw [State.docket_setHead_self] at hhead
      have hh : (State.loop { s.setHead i .energiseWait with
        waits := (s.setHead i .energiseWait).waits ++
          [⟨i, .energise, (s.loop i).head == .silentRelease⟩] } i).head = .energiseWait := hhead
      dsimp only at ht
      rw [hh] at ht
      cases ht
    · refine ((hwait i).trans (if_pos rfl)) ▸ ?_
      rw [State.docket_setHead_self, hd]
      exact .waiting

theorem State.askToRelease_placesAt {h : HeadState} (hh : h.rests) (hhead : (s.loop i).head = h)
    (hd : (s.docket i).Sound) : State.PlacesAt i s (s.askToRelease i) := by
  have hcase : s.waiting i = true ∨ s.docket i = ⟨h, [], [], none⟩ := by
    generalize hk : s.docket i = k at hd
    have hkh : k.head = h := by rw [← hk]; exact hhead
    cases hd with
    | rest _ => right; rw [← hkh]
    | restWaiting _ =>
      left
      rw [State.waiting_iff, (State.docket_eq hk).2.2.1]
      simp
    | waiting => subst hkh; simp [HeadState.rests] at hh
    | listed a => subst hkh; cases a <;> simp [HeadState.rests, Action.queued] at hh
    | onLine a => subst hkh; cases a <;> simp [HeadState.rests, Action.queued] at hh
    | away ha =>
      subst hkh
      rcases ha with e | e | e | e <;> simp [HeadState.rests, e] at hh
  unfold State.askToRelease
  split
  · exact .refl hd
  · rename_i hnot
    have hd := hcase.resolve_left hnot
    split
    · exact State.order_placesAt hd _ (.inr ‹_›)
    · refine ⟨fun j hj => ?_, .inl, ?_⟩
      · rw [State.docket_addWait, if_neg hj]
      · rw [State.docket_addWait, if_pos rfl, hd]
        exact .restWaiting hh

theorem State.leaveWaits_placesAt {t : State} {h : HeadState} (hh : h.rests)
    (hhead : (s.loop i).head = h) (hd : (s.docket i).Sound)
    (ht : (s.leaveWaits i).docket i = ⟨h, [], [], none⟩ → State.PlacesAt i (s.leaveWaits i) t) :
    State.PlacesAt i s t := by
  have hrest : (s.leaveWaits i).docket i = ⟨h, [], [], none⟩ := by
    rw [State.docket_leaveWaits_self]
    generalize hk : s.docket i = k at hd
    have hkh : k.head = h := by rw [← hk]; exact hhead
    cases hd with
    | rest _ | restWaiting _ => rw [← hkh]
    | waiting => subst hkh; simp [HeadState.rests] at hh
    | listed a | onLine a => subst hkh; cases a <;> simp [HeadState.rests, Action.queued] at hh
    | away ha =>
      subst hkh
      rcases ha with e | e | e | e <;> simp [HeadState.rests, e] at hh
  exact (ht hrest).after (fun j hj => State.docket_leaveWaits_ne hj) rfl rfl

/-- A head in one of the SENT, confirmed or silent states has nothing listed. -/
theorem State.docket_of_away (hd : (s.docket i).Sound) {h : HeadState} (hh : h.away)
    (hhead : (s.loop i).head = h) : s.docket i = ⟨h, [], [], none⟩ := by
  generalize hk : s.docket i = k at hd
  have hkh : k.head = h := by rw [← hk]; exact hhead
  subst hkh
  cases hd with
  | away _ => rfl
  | rest hr | restWaiting hr =>
    rcases hr with e | e | e <;> simp [HeadState.away, e] at hh
  | waiting => simp [HeadState.away] at hh
  | listed a | onLine a => cases a <;> simp [HeadState.away, Action.queued] at hh

theorem State.docket_of_waiting (hd : (s.docket i).Sound) (hhead : (s.loop i).head = .energiseWait) :
    s.docket i = ⟨.energiseWait, [], [.energise], none⟩ := by
  generalize hk : s.docket i = k at hd
  have hkh : k.head = .energiseWait := by rw [← hk]; exact hhead
  cases hd with
  | waiting => rfl
  | away hr | rest hr | restWaiting hr => subst hkh; simp [HeadState.away, HeadState.rests] at hr
  | listed a | onLine a => cases a <;> simp [Action.queued] at hkh

/-- A pending head's order is listed or on the line. -/
theorem State.docket_of_pending (hd : (s.docket i).Sound) {a : Action}
    (hhead : (s.loop i).head = a.queued) :
    s.docket i = ⟨a.queued, [a], [], none⟩ ∨ s.docket i = ⟨a.queued, [], [], some a⟩ := by
  generalize hk : s.docket i = k at hd
  have hkh : k.head = a.queued := by rw [← hk]; exact hhead
  cases hd with
  | waiting => cases a <;> simp [Action.queued] at hkh
  | away hr | rest hr | restWaiting hr =>
    subst hkh
    cases a <;> simp [HeadState.away, HeadState.rests, Action.queued] at hr
  | listed b => cases a <;> cases b <;> simp [Action.queued] at hkh ⊢
  | onLine b => cases a <;> cases b <;> simp [Action.queued] at hkh ⊢

theorem State.placeEnergise_placesAt (hd : (s.docket i).Sound) (r : Bool) :
    State.PlacesAt i s (s.placeEnergise i r) := by
  unfold State.placeEnergise
  cases hhead : (s.loop i).head <;> dsimp only
  case released | idleUnknown | silentRelease =>
    exact State.leaveWaits_placesAt (by simp [HeadState.rests]) hhead hd fun h =>
      State.askToEnergise_placesAt h
  case releasePending =>
    split
    · rename_i hqueued
      refine State.replaceOrder_placesAt ((State.docket_of_pending (a := .release) hd hhead).resolve_right
        fun hline => ?_)
      rw [State.orderQueued_iff, (State.docket_eq hline).2.1] at hqueued
      exact hqueued rfl
    · exact .refl hd
  case silentEnergise =>
    split
    · exact State.order_placesAt (State.docket_of_away hd (by simp [HeadState.away]) hhead) _ (.inl rfl)
    · exact .refl hd
  all_goals exact .refl hd

theorem State.waitReturn_rests (s : State) (i : Fin 16) : (s.waitReturn i).rests := by
  unfold State.waitReturn
  split <;> simp [HeadState.rests]

/-- A head in ENERGISE-WAIT leaves the wait list for a state without a slot. -/
theorem State.leaveEnergiseWait {t : State} {h : HeadState} (hh : h.rests) (hd : (s.docket i).Sound)
    (hhead : (s.loop i).head = .energiseWait)
    (ht : ((s.leaveWaits i).setHead i h).docket i = ⟨h, [], [], none⟩ →
      State.PlacesAt i ((s.leaveWaits i).setHead i h) t) : State.PlacesAt i s t := by
  have hdocket : ((s.leaveWaits i).setHead i h).docket i = ⟨h, [], [], none⟩ := by
    rw [State.docket_setHead_self, State.docket_leaveWaits_self, State.docket_of_waiting hd hhead]
  refine (ht hdocket).after (fun j hj => ?_) rfl ?_
  · rw [State.docket_setHead_ne hj, State.docket_leaveWaits_ne hj]
  · rw [(State.docket_eq hdocket).1, hhead, hh.not_slot]
    rfl

theorem State.placeRelease_placesAt (hd : (s.docket i).Sound) (r : Bool) :
    State.PlacesAt i s (s.placeRelease i r) := by
  unfold State.placeRelease
  cases hhead : (s.loop i).head <;> dsimp only
  case energised | silentEnergise =>
    exact State.order_placesAt (State.docket_of_away hd (by simp [HeadState.away]) hhead) _ (.inl rfl)
  case energisePending =>
    split
    · rename_i hqueued
      refine State.replaceOrder_placesAt ((State.docket_of_pending (a := .energise) hd hhead).resolve_right
        fun hline => ?_)
      rw [State.orderQueued_iff, (State.docket_eq hline).2.1] at hqueued
      exact hqueued rfl
    · exact .refl hd
  case energiseWait =>
    split
    · have hrests := s.waitReturn_rests i
      refine State.leaveEnergiseWait hrests hd hhead fun h => .refl ?_
      rw [h]
      exact .rest hrests
    · refine State.leaveEnergiseWait (h := .idleUnknown) (by simp [HeadState.rests]) hd hhead fun h => ?_
      refine State.askToRelease_placesAt (by simp [HeadState.rests]) (State.docket_eq h).1 ?_
      rw [h]
      exact .rest (by simp [HeadState.rests])
  case idleUnknown => exact State.askToRelease_placesAt (by simp [HeadState.rests]) hhead hd
  case silentRelease =>
    split
    · exact State.askToRelease_placesAt (by simp [HeadState.rests]) hhead hd
    · exact .refl hd
  all_goals exact .refl hd

theorem State.place_placesAt (hd : (s.docket i).Sound) (a : Action) (r : Bool) :
    State.PlacesAt i s (s.place i a r) := by
  unfold State.place
  split
  · exact .refl hd
  · cases a
    · exact State.placeRelease_placesAt hd r
    · exact State.placeEnergise_placesAt hd r

/-- The heads on which ENERGISE is neither confirmed nor asked for anew. -/
def HeadState.falling (h : HeadState) : Prop := h ≠ .energised ∧ h ≠ .silentEnergise ∧ h ≠ .energiseWait

theorem HeadState.rests.falling {h : HeadState} (hh : h.rests) : h.falling := by
  rcases hh with rfl | rfl | rfl <;> simp [HeadState.falling]

theorem Action.queued_falling (a : Action) : a.queued.falling := by
  cases a <;> simp [HeadState.falling, Action.queued]

theorem State.head_order (s : State) (i : Fin 16) (a : Action) : ((s.order i a).loop i).head = a.queued := by
  rw [State.loop_order, if_pos rfl]

theorem State.head_setHead (s : State) (i : Fin 16) (h : HeadState) : ((s.setHead i h).loop i).head = h := by
  rw [State.loop_setHead, if_pos rfl]

theorem State.askToRelease_falling (h : (s.loop i).head.falling) :
    ((s.askToRelease i).loop i).head.falling := by
  unfold State.askToRelease
  split
  · exact h
  · split
    · rw [State.head_order]
      exact Action.queued_falling _
    · exact h

/-- A placed RELEASE leaves no head energised (R96). -/
theorem State.placeRelease_falling (r : Bool) : ((s.placeRelease i r).loop i).head.falling := by
  unfold State.placeRelease
  cases hhead : (s.loop i).head <;> dsimp only
  case energised | silentEnergise =>
    rw [State.head_order]
    exact Action.queued_falling _
  case energisePending =>
    split
    · rw [State.loop_replaceOrder, if_pos rfl]
      exact Action.queued_falling .release
    · simp [hhead, HeadState.falling]
  case energiseWait =>
    split
    · rw [State.head_setHead]
      exact (s.waitReturn_rests i).falling
    · refine State.askToRelease_falling ?_
      rw [State.head_setHead]
      simp [HeadState.falling]
  case idleUnknown => exact State.askToRelease_falling (by simp [hhead, HeadState.falling])
  case silentRelease =>
    split
    · exact State.askToRelease_falling (by simp [hhead, HeadState.falling])
    · simp [hhead, HeadState.falling]
  all_goals simp [hhead, HeadState.falling]

theorem Loop.windsDown_of_falling {l : Loop} (hw : l.wanted = some .release) (h : l.head.falling) :
    l.WindsDown := ⟨by rw [hw]; decide, h.1, h.2.1, h.2.2, fun _ => hw⟩

end place

/-! ## The arbiter -/

/-- The slots within Hmax, every docket sound, and every loop outside x on its way to unpowered. -/
structure State.Arb (x : Fin 16 → Prop) (s : State) : Prop where
  slots : s.holders ≤ s.general.hmax
  filed : s.Filed
  down : ∀ i, ¬x i → (s.loop i).WindsDown

theorem State.Arb.mono {x y : Fin 16 → Prop} {s : State} (h : State.Arb x s) (hxy : ∀ i, x i → y i) :
    State.Arb y s := ⟨h.slots, h.filed, fun i hi => h.down i fun hx => hi (hxy i hx)⟩

theorem Loop.WindsDown.of_eq {l k : Loop} (h : l.WindsDown) (hhead : k.head = l.head)
    (hwanted : k.wanted = l.wanted) : k.WindsDown := by
  rwa [Loop.WindsDown, hhead, hwanted]

/-- No docket changes, and no wanted action. -/
theorem State.Arb.of_same {x : Fin 16 → Prop} {s t : State} (h : State.Arb x s)
    (hmax : t.general.hmax = s.general.hmax) (hdocket : ∀ j, t.docket j = s.docket j)
    (hwanted : ∀ j, (t.loop j).wanted = (s.loop j).wanted) : State.Arb x t := by
  have hhead (j : Fin 16) : (t.loop j).head = (s.loop j).head := congrArg Docket.head (hdocket j)
  refine ⟨?_, fun j => hdocket j ▸ h.filed j, fun j hj => (h.down j hj).of_eq (hhead j) (hwanted j)⟩
  rw [State.holders_congr hhead, hmax]
  exact h.slots

/-- A placing at one loop. -/
theorem State.Arb.placesAt {x : Fin 16 → Prop} {s t : State} (h : State.Arb x s) {i : Fin 16}
    (hp : State.PlacesAt i s t) (hmax : t.general.hmax = s.general.hmax)
    (hwanted : ∀ j, j ≠ i → (t.loop j).wanted = (s.loop j).wanted)
    (hdown : ¬x i → (t.loop i).WindsDown) : State.Arb x t := by
  have hhead (j : Fin 16) (hj : j ≠ i) : (t.loop j).head = (s.loop j).head :=
    congrArg Docket.head (hp.other j hj)
  refine ⟨?_, fun j => ?_, fun j hj => ?_⟩
  · rw [hmax]
    exact State.holders_le_of_move i hhead hp.slot h.slots
  · by_cases hji : j = i
    · subst hji; exact hp.sound
    · exact hp.other j hji ▸ h.filed j
  · by_cases hji : j = i
    · subst hji; exact hdown hj
    · exact (h.down j hj).of_eq (hhead j hji) (hwanted j hji)

theorem State.Arb.place {x : Fin 16 → Prop} {s : State} (h : State.Arb x s) (i : Fin 16) (a : Action)
    (r : Bool) (hdown : ¬x i → ((s.place i a r).loop i).WindsDown) : State.Arb x (s.place i a r) := by
  have hstep := s.place_placeStep i a r
  exact h.placesAt (State.place_placesAt (h.filed i) a r) (by rw [hstep.general])
    (fun j hj => by rw [State.loop_place_ne hj]) hdown

theorem State.wanted_place (s : State) (i : Fin 16) (a : Action) (r : Bool) (j : Fin 16) :
    ((s.place i a r).loop j).wanted = (s.loop j).wanted := by
  have hahead (u : State) (k : Fin 16) (x : HeadState) : ((u.setHead k x).loop j).wanted =
      (u.loop j).wanted := by
    rw [State.loop_setHead]
    split
    · rename_i e; subst e; rfl
    · rfl
  have horder (u : State) (k : Fin 16) (b : Action) : ((u.order k b).loop j).wanted = (u.loop j).wanted :=
    hahead u k _
  have hreplace (u : State) (k : Fin 16) (b : Action) :
      ((u.replaceOrder k b).loop j).wanted = (u.loop j).wanted := hahead u k _
  have hask (u : State) : ((u.askToRelease i).loop j).wanted = (u.loop j).wanted := by
    unfold State.askToRelease
    split
    · rfl
    · split
      · exact horder ..
      · rfl
  have henergise (u : State) : ((u.askToEnergise i).loop j).wanted = (u.loop j).wanted := by
    unfold State.askToEnergise
    split
    · exact horder ..
    · exact hahead ..
  unfold State.place
  split
  · rfl
  · cases a <;> dsimp only
    · unfold State.placeRelease
      cases (s.loop i).head <;> dsimp only
      case energised | silentEnergise => exact horder ..
      case energisePending => split <;> [exact hreplace ..; rfl]
      case energiseWait => split <;> [exact hahead ..; exact (hask _).trans (hahead ..)]
      case idleUnknown => exact hask s
      case silentRelease => split <;> [exact hask s; rfl]
    · unfold State.placeEnergise
      cases (s.loop i).head <;> dsimp only
      case released | idleUnknown | silentRelease => exact henergise _
      case releasePending => split <;> [exact hreplace ..; rfl]
      case silentEnergise => split <;> [exact horder ..; rfl]

theorem State.wanted_want (s : State) (i : Fin 16) (a : Action) (r : Bool) :
    ((s.want i a r).loop i).wanted = some a := by
  rw [State.want, State.wanted_place, State.loop_updLoop_self]

theorem State.updLoop_docket (s : State) (i : Fin 16) (f : Loop → Loop)
    (j : Fin 16) (h : (f (s.loop i)).head = (s.loop i).head := by rfl) :
    (s.updLoop i f).docket j = s.docket j := by
  refine State.docket_congr ?_ rfl rfl rfl
  rw [State.loop_updLoop]
  split
  · rename_i e; rw [h, e]
  · rfl

/-- The action of a driven loop. -/
theorem State.Arb.want {x : Fin 16 → Prop} {s : State} (h : State.Arb x s) {i : Fin 16} (hx : x i)
    (a : Action) (r : Bool) : State.Arb x (s.want i a r) := by
  have hupd : State.Arb x (s.updLoop i fun l => { l with wanted := some a }) :=
    h.placesAt (i := i) ⟨fun j _ => s.updLoop_docket i _ j, fun ht => .inl (by
      rwa [State.loop_updLoop_self] at ht), (s.updLoop_docket i (fun l => { l with wanted := some a }) i) ▸ h.filed i⟩ rfl
      (fun j hj => by rw [s.loop_updLoop_ne hj.symm]) (fun hn => absurd hx hn)
  exact hupd.place i a r fun hn => absurd hx hn

/-- The RELEASE of a loop that is driven no longer (R12, R103, R137). -/
theorem State.Arb.wantRelease {x : Fin 16 → Prop} {s : State} {i : Fin 16}
    (h : State.Arb (fun j => x j ∨ j = i) s) (hm : s.mode ≠ .passive) (r : Bool) :
    State.Arb x (s.want i .release r) := by
  have hw := h.want (.inr rfl) .release r
  refine ⟨hw.slots, hw.filed, fun j hj => ?_⟩
  by_cases hji : j = i
  · subst hji
    refine Loop.windsDown_of_falling (s.wanted_want j _ r) ?_
    have hmode : (s.updLoop j fun l => { l with wanted := some .release }).mode ≠ .passive := hm
    rw [State.want, State.place, if_neg hmode]
    exact State.placeRelease_falling r
  · exact hw.down j (not_or.mpr ⟨hj, hji⟩)

/-! ## Grants (R98) -/

theorem State.bestWaiter_mem {s : State} {w : WaitEntry} (h : s.bestWaiter = some w) : w ∈ s.waits := by
  have hfold (l : List WaitEntry) (best : Option WaitEntry) (hb : ∀ b, best = some b → b ∈ s.waits)
      (hl : ∀ b ∈ l, b ∈ s.waits) : ∀ b, l.foldl (fun best w =>
        match best with
        | none => some w
        | some b => if s.servedBefore w.loop b.loop then some w else some b) best = some b →
      b ∈ s.waits := by
    induction l generalizing best with
    | nil => exact hb
    | cons c l ih =>
      refine ih _ (fun b hb' => ?_) fun b hbl => hl b (List.mem_cons_of_mem _ hbl)
      dsimp only at hb'
      split at hb'
      · cases hb'
        exact hl _ (List.mem_cons_self ..)
      · split at hb'
        · cases hb'
          exact hl _ (List.mem_cons_self ..)
        · cases hb'
          exact hb _ rfl
  exact hfold s.waits none nofun (fun _ h => h) w h

/-- A slot that is left goes to a waiter (R98). -/
theorem State.Arb.grantSlot {x : Fin 16 → Prop} {s : State} (h : State.Arb x s)
    (hleft : s.holders < s.general.hmax) : State.Arb x s.grantSlot := by
  unfold State.grantSlot
  split
  · exact h
  · rename_i w hw
    have hmem : w.action ∈ s.waitsOf w.loop :=
      State.mem_waitsOf.mpr ⟨w, State.bestWaiter_mem hw, rfl, rfl⟩
    have hcase : ∃ k, (s.leaveWaits w.loop).docket w.loop = ⟨k, [], [], none⟩ ∧
        (s.loop w.loop).head = k ∧ (w.action = .energise → k = .energiseWait) := by
      rw [State.docket_leaveWaits_self]
      have hsound := h.filed w.loop
      generalize hk : s.docket w.loop = d at hsound
      obtain ⟨hhead, -, hwaits, -⟩ := State.docket_eq hk
      rw [hwaits] at hmem
      cases hsound with
      | restWaiting _ =>
        rw [List.mem_singleton] at hmem
        exact ⟨_, rfl, hhead, fun he => by rw [hmem] at he; cases he⟩
      | waiting => exact ⟨_, rfl, hhead, fun _ => rfl⟩
      | rest _ | listed _ | onLine _ | away _ => simp at hmem
    obtain ⟨k, hd, hhead, hwait⟩ := hcase
    have hp := (State.order_placesAt hd w.action (.inr hleft)).after
      (fun j hj => State.docket_leaveWaits_ne hj) rfl rfl
    refine h.placesAt hp rfl (fun j hj => by rw [State.loop_order_ne hj]; rfl) fun hn => ?_
    have hdown := h.down w.loop hn
    have hrelease : w.action = .release := by
      cases ha : w.action
      · rfl
      · exact absurd (hhead.trans (hwait ha)) hdown.2.2.2.1
    rw [State.loop_order, if_pos rfl, hrelease]
    exact ⟨hdown.1, by simp [Action.queued], by simp [Action.queued], by simp [Action.queued],
      by simp [Action.queued]⟩

end Sys2Proof.Machine
end

section
/-! PROOFS. What a recompute, a cause and the balancing leave of the modes and of the arbiter
(`State.Settles`): they move loops among RUNNING, SHED and FAULT only. -/

namespace Sys2Proof.Machine

open Sys2Proof

/-! ## The modes -/

/-- t has the modes of s: the loops in the drive stay in it, and the others keep their state. -/
structure State.SameModes (s t : State) : Prop where
  mode : t.mode = s.mode
  t0 : t.t0 = s.t0
  stage : t.pattern.stage = s.pattern.stage
  subject : t.pattern.subject = s.pattern.subject
  hmax : t.general.hmax = s.general.hmax
  engaged : ∀ j, (t.loop j).engaged = (s.loop j).engaged
  out : ∀ j, (s.loop j).engaged = false → (t.loop j).state = (s.loop j).state
  openPhase : ∀ j, (t.loop j).openPhase = true → (s.loop j).openPhase = true

theorem State.SameModes.refl (s : State) : s.SameModes s :=
  ⟨rfl, rfl, rfl, rfl, rfl, fun _ => rfl, fun _ _ => rfl, fun _ => id⟩

theorem State.SameModes.trans {s t u : State} (h : s.SameModes t) (g : t.SameModes u) :
    s.SameModes u where
  mode := g.mode.trans h.mode
  t0 := g.t0.trans h.t0
  stage := g.stage.trans h.stage
  subject := g.subject.trans h.subject
  hmax := g.hmax.trans h.hmax
  engaged j := (g.engaged j).trans (h.engaged j)
  out j hj := (g.out j ((h.engaged j).trans hj)).trans (h.out j hj)
  openPhase j hj := h.openPhase j (g.openPhase j hj)

theorem Loop.PlacedAs.state {l k : Loop} (h : l.PlacedAs k) : k.state = l.state := by
  unfold Loop.PlacedAs at h
  rw [h]

theorem Loop.PlacedAs.openPhase {l k : Loop} (h : l.PlacedAs k) : k.openPhase = l.openPhase := by
  unfold Loop.PlacedAs at h
  rw [h]

theorem Loop.engaged_of_state {l k : Loop} (h : k.state = l.state) : k.engaged = l.engaged := by
  simp only [Loop.engaged, h]

theorem State.PlaceStep.sameModes {s t : State} (h : s.PlaceStep t) : s.SameModes t :=
  ⟨h.mode, h.t0, by rw [h.pattern], by rw [h.pattern], by rw [h.general],
    fun j => Loop.engaged_of_state (h.placedAs j).state, fun j _ => (h.placedAs j).state,
    fun j hj => (h.placedAs j).openPhase ▸ hj⟩

theorem Loop.not_testing_of_engaged {l : Loop} (h : l.engaged = true) : l.state ≠ .testing := by
  intro e
  simp [Loop.engaged, e] at h

theorem Loop.not_standby_of_engaged {l : Loop} (h : l.engaged = true) : l.state ≠ .standby := by
  intro e
  simp [Loop.engaged, e] at h

/-- A state out of the drive is kept in both directions. -/
theorem State.SameModes.state_of_out {s t : State} (h : s.SameModes t) {j : Fin 16}
    (hj : (t.loop j).engaged = false) : (t.loop j).state = (s.loop j).state :=
  h.out j ((h.engaged j).symm.trans hj)

theorem State.SameModes.modes {s t : State} (h : s.SameModes t) (hs : s.ModesConsistent) :
    t.ModesConsistent := by
  obtain ⟨hout, hopen, hstage, htesting, hstandby, hclock⟩ := hs
  refine ⟨fun hm i => ?_, fun i hi => ?_, fun hm => ?_, fun hm i hi => ?_, fun hm i hi => ?_, ?_⟩
  · rw [h.mode] at hm
    rw [h.engaged]
    exact hout hm i
  · rw [h.engaged]
    exact hopen i (h.openPhase i hi)
  · rw [h.mode] at hm
    rw [h.stage]
    exact hstage hm
  · rw [h.mode, h.stage] at hm
    exact htesting hm i (by rw [← h.state_of_out (by simp [Loop.engaged, hi]), hi])
  · rw [h.mode] at hm
    exact hstandby hm i (by rw [← h.state_of_out (by simp [Loop.engaged, hi]), hi])
  · rw [h.mode, h.t0]
    exact hclock

theorem State.SameModes.subjectTesting {s t : State} (h : s.SameModes t) (hs : s.SubjectTesting) :
    t.SubjectTesting := by
  intro hm hidle hwinding k hk
  rw [h.mode] at hm
  rw [h.stage] at hidle hwinding
  rw [h.subject] at hk
  have hk := hs hm hidle hwinding k hk
  rw [h.out k (by simp [Loop.engaged, hk]), hk]

/-- The loops that a boundary or a pattern may drive. -/
def State.Driven (s : State) (i : Fin 16) : Prop :=
  (s.Drives ∧ (s.loop i).engaged = true) ∨ (s.mode = .test ∧ (s.loop i).state = .testing)

theorem State.SameModes.driven {s t : State} (h : s.SameModes t) (i : Fin 16) :
    t.Driven i ↔ s.Driven i := by
  unfold State.Driven State.Drives
  rw [h.mode, h.engaged]
  refine or_congr_right (and_congr_right fun _ => ⟨fun ht => ?_, fun hs => ?_⟩)
  · rw [← h.state_of_out (by simp [Loop.engaged, ht]), ht]
  · rw [h.out i (by simp [Loop.engaged, hs]), hs]

/-! ## Changes that settle -/

/-- t comes from s by changes at loops in the drive: the modes stay, the others keep their heads, and the
arbiter stays sound for any set of driven loops that has those in the drive. -/
structure State.Settles (s t : State) : Prop where
  modes : s.SameModes t
  head : ∀ j, (s.loop j).engaged = false → (t.loop j).head = (s.loop j).head
  wanted : ∀ j, (s.loop j).engaged = false → (t.loop j).wanted = (s.loop j).wanted
  rest : (∀ j, (s.loop j).engaged = false) → t.orders = s.orders ∧ t.waits = s.waits
  arb : ∀ x : Fin 16 → Prop, (∀ j, (s.loop j).engaged = true → x j) → State.Arb x s → State.Arb x t

theorem State.Settles.refl (s : State) : s.Settles s :=
  ⟨.refl s, fun _ _ => rfl, fun _ _ => rfl, fun _ => ⟨rfl, rfl⟩, fun _ _ h => h⟩

theorem State.Settles.trans {s t u : State} (h : s.Settles t) (g : t.Settles u) : s.Settles u where
  modes := h.modes.trans g.modes
  head j hj := (g.head j ((h.modes.engaged j).trans hj)).trans (h.head j hj)
  wanted j hj := (g.wanted j ((h.modes.engaged j).trans hj)).trans (h.wanted j hj)
  rest hall := by
    obtain ⟨horders, hwaits⟩ := h.rest hall
    obtain ⟨gorders, gwaits⟩ := g.rest fun j => (h.modes.engaged j).trans (hall j)
    exact ⟨gorders.trans horders, gwaits.trans hwaits⟩
  arb x hx hs := g.arb x (fun j hj => hx j ((h.modes.engaged j).symm.trans hj)) (h.arb x hx hs)

/-- What the arbiter and the modes read of a loop. -/
def Loop.stance (l : Loop) : LoopState × Bool × HeadState × Option Action :=
  (l.state, l.openPhase, l.head, l.wanted)

/-- t agrees with s in everything that the arbiter and the modes read. -/
structure State.Calm (s t : State) : Prop where
  stance : ∀ j, (t.loop j).stance = (s.loop j).stance
  mode : t.mode = s.mode
  t0 : t.t0 = s.t0
  stage : t.pattern.stage = s.pattern.stage
  subject : t.pattern.subject = s.pattern.subject
  hmax : t.general.hmax = s.general.hmax
  orders : t.orders = s.orders
  waits : t.waits = s.waits
  line : t.line = s.line

theorem Loop.stance_eq {l k : Loop} (h : k.stance = l.stance) :
    k.state = l.state ∧ k.openPhase = l.openPhase ∧ k.head = l.head ∧ k.wanted = l.wanted := by
  simpa [Loop.stance] using h

theorem State.Calm.settles {s t : State} (h : s.Calm t) : s.Settles t := by
  have hloop (j : Fin 16) := Loop.stance_eq (h.stance j)
  refine ⟨⟨h.mode, h.t0, h.stage, h.subject, h.hmax, fun j => ?_, fun j _ => (hloop j).1,
    fun j hj => (hloop j).2.1 ▸ hj⟩, fun j _ => ?_, fun j _ => ?_, fun _ => ⟨h.orders, h.waits⟩,
    fun x _ hs => hs.of_same h.hmax (fun j => ?_) fun j => ?_⟩
  · exact Loop.engaged_of_state (hloop j).1
  · obtain ⟨-, -, hhead, -⟩ := hloop j
    exact hhead
  · obtain ⟨-, -, -, hwanted⟩ := hloop j
    exact hwanted
  · obtain ⟨-, -, hhead, -⟩ := hloop j
    exact State.docket_congr hhead h.orders h.waits h.line
  · obtain ⟨-, -, -, hwanted⟩ := hloop j
    exact hwanted

theorem State.SameRun.calm {s t : State} (h : s.SameRun t) : s.Calm t := by
  refine ⟨fun j => ?_, h.mode, h.t0, h.stage, h.subject, h.hmax, h.orders, h.waits, h.line⟩
  have hface := h.face j
  simp only [Loop.stance, Loop.state_of_face hface, Loop.openPhase_of_face hface,
    Loop.head_of_face hface, Loop.wanted_of_face hface]

theorem State.Quiet.settles {s t : State} (h : s.Quiet t) : s.Settles t := h.toSameRun.calm.settles

theorem State.setLoop_calm (s : State) (i : Fin 16) (l : Loop) (h : l.stance = (s.loop i).stance) :
    s.Calm (s.setLoop i l) := by
  refine ⟨fun j => ?_, rfl, rfl, rfl, rfl, rfl, rfl, rfl, rfl⟩
  rw [State.loop_setLoop]
  split
  · rename_i e; exact e ▸ h
  · rfl

theorem State.mapLoops_calm (s : State) (f : Fin 16 → Loop → Loop)
    (h : ∀ i, (f i (s.loop i)).stance = (s.loop i).stance) : s.Calm (s.mapLoops f) := by
  refine ⟨fun j => ?_, by simp, by simp, by simp, by simp, by simp, by simp, by simp, ?_⟩
  · rw [State.loop_mapLoops, h]
  · simp only [State.line, State.portM_mapLoops]

/-- A loop in the drive takes another record in the drive, its head and its wanted action as they were. -/
theorem State.setLoop_settles (s : State) (i : Fin 16) (l : Loop) (hs : (s.loop i).engaged = true)
    (hl : l.engaged = true) (hopen : l.openPhase = true → (s.loop i).openPhase = true)
    (hhead : l.head = (s.loop i).head) (hwanted : l.wanted = (s.loop i).wanted) :
    s.Settles (s.setLoop i l) := by
  have hloop (j : Fin 16) : (s.setLoop i l).loop j = if i = j then l else s.loop j :=
    s.loop_setLoop i j l
  have hheads (j : Fin 16) : ((s.setLoop i l).loop j).head = (s.loop j).head := by
    rw [hloop]
    split
    · rename_i e; exact e ▸ hhead
    · rfl
  have hwants (j : Fin 16) : ((s.setLoop i l).loop j).wanted = (s.loop j).wanted := by
    rw [hloop]
    split
    · rename_i e; exact e ▸ hwanted
    · rfl
  refine ⟨⟨rfl, rfl, rfl, rfl, rfl, fun j => ?_, fun j hj => ?_, fun j hj => ?_⟩,
    fun j _ => hheads j, fun j _ => hwants j, fun _ => ⟨rfl, rfl⟩,
    fun x _ h => h.of_same rfl (fun j => State.docket_congr (hheads j) rfl rfl rfl) hwants⟩
  · rw [hloop]
    split
    · rename_i e; rw [← e, hl, hs]
    · rfl
  · rw [hloop]
    split
    · rename_i e; rw [← e, hs] at hj; cases hj
    · rfl
  · rw [hloop] at hj
    split at hj
    · rename_i e; exact e ▸ hopen hj
    · exact hj

/-- The action of a loop in the drive. -/
theorem State.want_settles (s : State) (i : Fin 16) (a : Action) (r : Bool)
    (h : (s.loop i).engaged = true) : s.Settles (s.want i a r) := by
  have hne (j : Fin 16) (hj : (s.loop j).engaged = false) : j ≠ i := by
    rintro rfl
    rw [h] at hj
    cases hj
  refine ⟨(s.want_placeStep i a r).sameModes, fun j hj => ?_, fun j hj => ?_, fun hall => ?_,
    fun x hx hs => hs.want (hx i h) a r⟩
  · rw [State.loop_want_ne (hne j hj)]
  · rw [State.loop_want_ne (hne j hj)]
  · rw [hall i] at h
    cases h

/-! ## The recompute -/

theorem State.closeShed_settles (s : State) (i : Fin 16) (h : (s.loop i).engaged = true) :
    s.Settles (s.closeShed i) := by
  have hclosed := s.setLoop_settles i { s.loop i with onTime := 0, openPhase := false } h h nofun rfl rfl
  unfold State.closeShed
  dsimp only
  split
  · refine hclosed.trans (State.want_settles _ i _ _ ?_)
    rw [State.loop_setLoop_self]
    exact h
  · exact hclosed

theorem State.shedStep_settles (n : Nat) (s : State) (i : Fin 16) : s.Settles (State.shedStep n s i) := by
  cases hstate : (s.loop i).state <;> simp only [State.shedStep, hstate]
  case running =>
    split
    · have hshed := s.setLoop_settles i
        { (s.loop i).noDuties with state := .shed, request := 0, grant := 0 }
        (by simp [Loop.engaged, hstate]) rfl id rfl rfl
      refine hshed.trans (State.closeShed_settles _ i ?_)
      rw [State.loop_setLoop_self]
      rfl
    · exact .refl s
  case fault =>
    split
    · have hengaged : (s.loop i).noDuties.engaged = true := by
        simp [Loop.engaged, Loop.noDuties, hstate]
      have hshed := s.setLoop_settles i (s.loop i).noDuties (by simp [Loop.engaged, hstate])
        hengaged id rfl rfl
      refine hshed.trans (State.closeShed_settles _ i ?_)
      rw [State.loop_setLoop_self]
      exact hengaged
    · exact .refl s
  case shed =>
    split
    · exact .refl s
    · exact s.setLoop_settles i { s.loop i with state := .running } (by simp [Loop.engaged, hstate]) rfl
        id rfl rfl
  all_goals exact .refl s

theorem State.foldl_settles {α : Type} (f : State → α → State) (h : ∀ s a, State.Settles s (f s a))
    (l : List α) (s : State) : s.Settles (l.foldl f s) := by
  induction l generalizing s with
  | nil => exact .refl s
  | cons a l ih => exact (h s a).trans (ih _)

theorem Loop.allocated_stance (l : Loop) (r : Bool) (g : Nat) : (l.allocated r g).stance = l.stance := by
  unfold Loop.allocated
  split
  case h_2 => split <;> rfl
  all_goals rfl

theorem State.allocate_calm (s : State) : s.Calm s.allocate := by
  have hstep := s.allocate_driveStep
  have hlists : s.allocate.orders = s.orders ∧ s.allocate.waits = s.waits := by
    have hmap := s.orders_mapLoops fun i l => l.allocated (s.inShedRange i)
      (s.grantOf (s.findScaled allocationLevels s.bavail) i)
    have wmap := s.waits_mapLoops fun i l => l.allocated (s.inShedRange i)
      (s.grantOf (s.findScaled allocationLevels s.bavail) i)
    rw [← hmap, ← wmap]
    unfold State.allocate
    dsimp only
    generalize s.mapLoops _ = g
    split
    · split <;> exact ⟨rfl, rfl⟩
    · exact ⟨rfl, rfl⟩
  refine ⟨fun j => ?_, hstep.mode, hstep.t0, by rw [hstep.pattern], by rw [hstep.pattern],
    by rw [hstep.general], hlists.1, hlists.2, by simp only [State.line, hstep.portM]⟩
  rw [State.loop_allocate, Loop.allocated_stance]

theorem State.recompute_settles (s : State) : s.Settles s.recompute := by
  unfold State.recompute
  split
  · exact (State.foldl_settles _ (State.shedStep_settles _) loopIds s).trans
      (State.allocate_calm _).settles
  · exact .refl s

/-! ## Causes and the balancing -/

theorem State.raise_settles (s : State) (k : NoticeKind) (n : Option Nat) (v : Option Int) :
    s.Settles (s.raise k n v) := (s.raise_quiet k n v).settles

theorem State.addCause_settles (s : State) (i : Fin 16) (c : Cause) : s.Settles (s.addCause i c) := by
  have hjoined := (s.updLoop_quiet i (fun l => { l with causes := (s.loop i).causes.put true c })).settles
  have hfault (u : State) (b : Bool) (h : (u.loop i).engaged = true) :
      u.Settles (u.updLoop i fun l => l.intoFault b) := by
    cases b
    · exact u.setLoop_settles i ((u.loop i).intoFault false) h rfl id rfl rfl
    · exact u.setLoop_settles i ((u.loop i).intoFault true) h rfl id rfl rfl
  unfold State.addCause
  dsimp only
  split
  · exact .refl s
  · split
    case h_1 hs | h_2 hs =>
      refine ((hjoined.trans (hfault _ _ ?_)).trans (State.raise_settles _ _ _ _)).trans
        (State.recompute_settles _)
      rw [State.loop_updLoop_self]
      simp [Loop.engaged, hs]
    all_goals exact hjoined.trans (State.raise_settles _ _ _ _)

theorem State.removeCause_settles (s : State) (i : Fin 16) (c : Cause) :
    s.Settles (s.removeCause i c) := by
  have hleft := (s.updLoop_quiet i (fun l => { l with causes := (s.loop i).causes.put false c })).settles
  unfold State.removeCause
  dsimp only
  split
  · exact .refl s
  · split
    · exact hleft.trans (State.raise_settles _ _ _ _)
    · exact hleft

theorem State.clearSilent_settles (s : State) (i : Fin 16) : s.Settles (s.clearSilent i) := by
  unfold State.clearSilent
  split
  · exact s.removeCause_settles i _
  · exact .refl s

theorem State.damageBy_settles (s : State) (i : Fin 16) (c : Condition) :
    s.Settles (s.damageBy i c) := by
  cases c
  · exact .refl s
  all_goals exact s.addCause_settles i _

theorem State.updLoop_settles (s : State) (i : Fin 16) (f : Loop → Loop)
    (h : ∀ l : Loop, (f l).stance = l.stance) : s.Settles (s.updLoop i f) :=
  (s.setLoop_calm i _ (h _)).settles

theorem State.capture_settles (s : State) (i : Fin 16) : s.Settles (s.capture i) := by
  have hachieved := s.updLoop_settles i (fun l => { l with achieved := l.openCount }) fun _ => rfl
  have hstarved (n : Loop → Nat) (u : State) :=
    u.updLoop_settles i (fun l => { l with starvedRun := n l }) fun _ => rfl
  unfold State.capture
  dsimp only
  split
  · split
    · exact (hachieved.trans (hstarved (fun l => satInc l.starvedRun) _)).trans
        (State.raise_settles _ _ _ _)
    · exact hachieved.trans (hstarved (fun l => satInc l.starvedRun) _)
  · exact hachieved.trans (hstarved (fun _ => 0) _)

theorem State.faultExit_settles (s : State) (i : Fin 16) : s.Settles (s.faultExit i) := by
  unfold State.faultExit
  split
  · rename_i h
    refine State.Settles.trans (s.setLoop_settles i
      { s.loop i with state := if s.inShedRange i then .shed else .running }
      (by simp [Loop.engaged, h.1]) ?_ id rfl rfl) (State.recompute_settles _)
    simp only [Loop.engaged]
    split <;> rfl
  · exact .refl s

theorem State.balance_settles (s : State) (i : Fin 16) : s.Settles (s.balance i) := by
  refine s.updLoop_settles i _ fun l => ?_
  unfold Loop.balance
  split <;> rfl

theorem State.stateWork_settles (s : State) (i : Fin 16) : s.Settles (s.stateWork i) := by
  unfold State.stateWork
  split
  · exact ((s.balance_settles i).trans (State.updLoop_settles _ i
      (fun l => { l with request := (s.balance i).requestOf i }) fun _ => rfl)).trans
      (State.recompute_settles _)
  · exact s.updLoop_settles i _ fun _ => rfl

theorem State.haltingWork_settles (s : State) (i : Fin 16) : s.Settles (s.haltingWork i) := by
  unfold State.haltingWork
  split
  · exact s.balance_settles i
  · exact s.updLoop_settles i _ fun _ => rfl

theorem Loop.swap_stance (l : Loop) : l.swap.stance = l.stance := by
  unfold Loop.swap
  split <;> rfl

end Sys2Proof.Machine
end

section
/-! PROOFS. The head arbiter through every work of the core (R98, R103, R137, R139, R142): the settling of
O58, O59 and O60. -/

namespace Sys2Proof.Machine

open Sys2Proof

/-! ## The law in terms of the arbiter -/

/-- Everything the law of the slots rests on. -/
structure State.Framed (s : State) : Prop where
  hmax : 1 ≤ s.general.hmax
  modes : s.ModesConsistent
  subject : s.SubjectTesting
  quiet : s.mode = .passive → s.orders = [] ∧ s.waits = [] ∧ s.holders = 0
  arb : State.Arb s.Driven s

theorem State.not_slot_of_holders {s : State} (h : s.holders = 0) (i : Fin 16) :
    (s.loop i).head.holdsSlot = false := by
  by_contra hi
  rw [Bool.not_eq_false] at hi
  rw [s.holders_eq_add i, if_pos hi] at h
  omega

theorem State.holders_eq_zero {s : State} (h : ∀ i, (s.loop i).head.holdsSlot = false) :
    s.holders = 0 := by
  rw [State.holders_eq]
  exact Finset.sum_eq_zero fun i _ => by rw [h i]; rfl

theorem State.arbiterSound_iff (s : State) : s.ArbiterSound ↔ s.Framed := by
  constructor
  · rintro ⟨hslots, hmax, hmodes, horders, hwaits, hpassive, hothers, hsubject⟩
    refine ⟨hmax, hmodes, hsubject, fun hm => ?_, hslots, (s.filed_iff).mpr ⟨horders, hwaits⟩,
      fun i hi => ?_⟩
    · obtain ⟨ho, hw, hh, -⟩ := hpassive hm
      exact ⟨ho, hw, hh⟩
    · cases hm : s.mode
      case passive =>
        obtain ⟨-, -, hnone, hall⟩ := hpassive hm
        have hslot := State.not_slot_of_holders hnone i
        obtain ⟨hwanted, hwait⟩ := hall i
        refine ⟨hwanted, ?_, ?_, hwait, ?_⟩
        · intro he; simp [he, HeadState.holdsSlot] at hslot
        · intro he; simp [he, HeadState.holdsSlot] at hslot
        · rintro (he | he) <;> simp [he, HeadState.holdsSlot] at hslot
      case test => exact hothers.2 hm i fun ht => hi (.inr ⟨hm, ht⟩)
      case active =>
        refine hothers.1 (.inl hm) i ?_
        rw [← Bool.not_eq_true]
        exact fun he => hi (.inl ⟨.inl hm, he⟩)
      case halting =>
        refine hothers.1 (.inr hm) i ?_
        rw [← Bool.not_eq_true]
        exact fun he => hi (.inl ⟨.inr hm, he⟩)
  · intro h
    obtain ⟨horders, hwaits⟩ := (s.filed_iff).mp h.arb.filed
    refine ⟨h.arb.slots, h.hmax, h.modes, horders, hwaits, fun hm => ?_, ⟨fun hd i hi => ?_,
      fun hm i hi => ?_⟩, h.subject⟩
    · obtain ⟨ho, hw, hh⟩ := h.quiet hm
      refine ⟨ho, hw, hh, fun i => ?_⟩
      have hdown := h.arb.down i (by simp [State.Driven, State.Drives, hm])
      obtain ⟨hwanted, -, -, hwait, -⟩ := hdown
      exact ⟨hwanted, hwait⟩
    · refine h.arb.down i ?_
      rintro (⟨-, he⟩ | ⟨hm, -⟩)
      · rw [hi] at he
        cases he
      · rcases hd with hd | hd <;> rw [hd] at hm <;> cases hm
    · refine h.arb.down i ?_
      rintro (⟨hd, -⟩ | ⟨-, ht⟩)
      · rcases hd with hd | hd <;> rw [hd] at hm <;> cases hm
      · exact hi ht

/-! ## Facts about a sound part -/

theorem State.Framed.engaged_drives {s : State} (h : s.Framed) {i : Fin 16}
    (hi : (s.loop i).engaged = true) : s.Drives := by
  obtain ⟨hout, -⟩ := h.modes
  cases hm : s.mode
  case active => exact .inl hm
  case halting => exact .inr hm
  all_goals
    have := hout (by simp [hm]) i
    rw [hi] at this
    cases this

theorem State.Framed.engaged_driven {s : State} (h : s.Framed) {i : Fin 16}
    (hi : (s.loop i).engaged = true) : s.Driven i := .inl ⟨h.engaged_drives hi, hi⟩

theorem State.Framed.test_of_busy {s : State} (h : s.Framed) (hst : s.pattern.stage.busy) :
    s.mode = .test := by
  by_contra hm
  obtain ⟨-, -, hstage, -⟩ := h.modes
  exact hst.1 (hstage hm)

theorem State.Framed.out_of_passive {s : State} (h : s.Framed) (hm : s.mode = .passive) (i : Fin 16) :
    (s.loop i).engaged = false := h.modes.1 (.inl hm) i

theorem State.Framed.not_testing_of_passive {s : State} (h : s.Framed) (hm : s.mode = .passive)
    (i : Fin 16) : (s.loop i).state ≠ .testing := by
  obtain ⟨-, -, -, htesting, -⟩ := h.modes
  exact htesting (.inl (by rw [hm]; decide)) i

theorem State.Framed.out_of_test {s : State} (h : s.Framed) (hm : s.mode = .test) (i : Fin 16) :
    (s.loop i).engaged = false := h.modes.1 (.inr hm) i

/-- A part with the modes of s, its arbiter sound, is sound. -/
theorem State.Framed.reach {s t : State} (h : s.Framed) (hm : s.SameModes t)
    (harb : State.Arb s.Driven t)
    (hquiet : s.mode = .passive → t.orders = [] ∧ t.waits = [] ∧ t.holders = 0) : t.Framed where
  hmax := hm.hmax ▸ h.hmax
  modes := hm.modes h.modes
  subject := hm.subjectTesting h.subject
  quiet hp := hquiet (hm.mode ▸ hp)
  arb := harb.mono fun i hi => (hm.driven i).mpr hi

theorem State.Settles.holders {s t : State} (h : s.Settles t)
    (hall : ∀ j, (s.loop j).engaged = false) : t.holders = s.holders :=
  State.holders_congr fun j => h.head j (hall j)

theorem State.Framed.settles {s t : State} (h : s.Framed) (hs : s.Settles t) : t.Framed := by
  refine h.reach hs.modes (hs.arb _ (fun j hj => h.engaged_driven hj) h.arb) fun hm => ?_
  obtain ⟨ho, hw, hh⟩ := h.quiet hm
  obtain ⟨so, sw⟩ := hs.rest (h.out_of_passive hm)
  exact ⟨so.trans ho, sw.trans hw, (hs.holders (h.out_of_passive hm)).trans hh⟩

/-- The action of a driven loop. -/
theorem State.Framed.want {s : State} (h : s.Framed) {i : Fin 16} (hi : s.Driven i) (a : Action)
    (r : Bool) : (s.want i a r).Framed := by
  refine h.reach (s.want_placeStep i a r).sameModes (h.arb.want hi a r) fun hm => ?_
  exact absurd hi (by simp [State.Driven, State.Drives, hm])

/-! ## The completion checks (R103, R137) -/

/-- The halting check, with what it has found (R103). -/
theorem State.checkHalting_spec (s : State) : s.checkHalting = s ∨
    (s.mode = .halting ∧ s.headsQuiet = true ∧
      (∀ i, (s.loop i).enabled = true → (s.loop i).state = .standby) ∧
      s.checkHalting = { s with mode := .passive, t0 := none }) := by
  unfold State.checkHalting
  split
  · rename_i h
    obtain ⟨hm, hq, hall⟩ := h
    refine .inr ⟨hm, hq, fun i hi => ?_, rfl⟩
    have hi' := List.all_eq_true.mp hall i (mem_loopIds i)
    simpa [hi] using hi'
  · exact .inl rfl

theorem State.checkWindDown_spec (s : State) : s.checkWindDown = s ∨
    (s.mode = .test ∧ s.pattern.stage = .windingDown ∧ s.headsQuiet = true ∧
      ∃ n, s.checkWindDown = { s with
        mode := .passive
        pattern := { s.pattern with
          kind := .none, stage := .idle, heldBy := Vector.replicate 16 false }
        notices := s.notices.raise .patternDone none n }) := by
  unfold State.checkWindDown
  split
  · rename_i h
    obtain ⟨hm, hst, hq⟩ := h
    exact .inr ⟨hm, hst, ((s.windDownQuiet_iff).mp hq).1, _, rfl⟩
  · exact .inl rfl

theorem State.headsQuiet_iff (s : State) : s.headsQuiet = true ↔
    s.orders = [] ∧ s.headOrderOnLine = false ∧ s.waits = [] ∧
      ∀ i, (s.loop i).releaseBehind = false := by
  simp [State.headsQuiet, mem_loopIds, and_assoc]

theorem State.line_of_headOrderOnLine {s : State} (h : s.headOrderOnLine = false) : s.line = none := by
  unfold State.headOrderOnLine at h
  unfold State.line
  split at h <;> simp_all

/-- With nothing left to send, a part whose loops all wind down holds no slot. -/
theorem State.holders_of_quiet {s : State} (hfiled : s.Filed) (hq : s.headsQuiet = true)
    (hdown : ∀ i, (s.loop i).WindsDown) : s.holders = 0 := by
  obtain ⟨horders, hline, -, hbehind⟩ := (s.headsQuiet_iff).mp hq
  have hline := State.line_of_headOrderOnLine hline
  refine State.holders_eq_zero fun i => ?_
  obtain ⟨-, henergised, hsilent, -, hpending⟩ := hdown i
  have hsound := hfiled i
  generalize hk : s.docket i = d at hsound
  obtain ⟨hhead, hos, -, hl⟩ := State.docket_eq hk
  cases hsound with
  | rest hr | restWaiting hr => rw [hhead]; exact hr.not_slot
  | waiting => rw [hhead]; rfl
  | listed a => simp [State.ordersOf, horders] at hos
  | onLine a => simp [State.lineOf, hline] at hl
  | away ha =>
    rw [hhead]
    rw [hhead] at henergised hsilent hpending
    rcases ha with e | e | e | e
    · have hwanted := hpending (.inr e)
      have hb := hbehind i
      simp [Loop.releaseBehind, hhead, e, hwanted] at hb
    · exact absurd e henergised
    · exact absurd e hsilent
    · rw [e]; rfl

/-- The passage to PASSIVE mode. -/
theorem State.Framed.toPassive {s t : State} (h : s.Framed) (hq : s.headsQuiet = true)
    (hout : ∀ i, (s.loop i).engaged = false) (htesting : ∀ i, (s.loop i).state ≠ .testing)
    (hloops : t.loops = s.loops) (horders : t.orders = s.orders) (hwaits : t.waits = s.waits)
    (hline : t.line = s.line) (hmax : t.general.hmax = s.general.hmax) (hmode : t.mode = .passive)
    (hstage : t.pattern.stage = .idle) (ht0 : t.t0 = none) : t.Framed := by
  have hloop (j : Fin 16) : t.loop j = s.loop j := by rw [State.loop, State.loop, hloops]
  have hdown (i : Fin 16) : (s.loop i).WindsDown := h.arb.down i (by
    rintro (⟨-, he⟩ | ⟨-, ht⟩)
    · rw [hout i] at he
      cases he
    · exact htesting i ht)
  obtain ⟨ho, -, hw, -⟩ := (s.headsQuiet_iff).mp hq
  have hnone : t.holders = 0 := (State.holders_congr fun j => by rw [hloop]).trans
    (State.holders_of_quiet h.arb.filed hq hdown)
  obtain ⟨-, hopen, -⟩ := h.modes
  refine ⟨hmax ▸ h.hmax, ⟨fun _ i => ?_, fun i hi => ?_, fun _ => hstage, fun _ i => ?_,
    fun hm => ?_, ?_⟩, fun hm => ?_, fun _ => ⟨horders.trans ho, hwaits.trans hw, hnone⟩, ?_, fun i => ?_,
    fun i _ => ?_⟩
  · rw [hloop]; exact hout i
  · rw [hloop] at hi ⊢; exact hopen i hi
  · rw [hloop]; exact htesting i
  · rw [hmode] at hm; cases hm
  · simp [hmode, ht0]
  · rw [hmode] at hm; cases hm
  · rw [hnone]; exact Nat.zero_le _
  · rw [State.docket_congr (by rw [hloop]) horders hwaits hline]
    exact h.arb.filed i
  · rw [hloop]; exact hdown i

theorem State.Framed.checkHalting {s : State} (h : s.Framed) : s.checkHalting.Framed := by
  rcases s.checkHalting_spec with e | ⟨hm, hq, hall, e⟩ <;> rw [e]
  · exact h
  · obtain ⟨-, -, hstage, htesting, -⟩ := h.modes
    have hne : s.mode ≠ .test := by rw [hm]; decide
    refine h.toPassive hq (fun i => ?_) (htesting (.inl hne)) rfl rfl rfl rfl rfl rfl (hstage hne) rfl
    by_contra hi
    rw [Bool.not_eq_false] at hi
    exact Loop.not_standby_of_engaged hi (hall i (Loop.enabled_of_engaged hi))

theorem State.Framed.checkWindDown {s : State} (h : s.Framed) : s.checkWindDown.Framed := by
  rcases s.checkWindDown_spec with e | ⟨hm, hst, hq, n, e⟩ <;> rw [e]
  · exact h
  · obtain ⟨hout, -, -, htesting, -, hclock⟩ := h.modes
    refine h.toPassive hq (hout (.inr hm)) (htesting (.inr hst)) rfl rfl rfl rfl rfl rfl rfl ?_
    show s.t0 = none
    rw [← Option.not_isSome_iff_eq_none, hclock, hm]
    decide

/-! ## Stages -/

/-- The settling of a pattern's action moves a busy stage to a busy stage (R131). -/
theorem State.patternSettle_stage (s : State) :
    s.patternSettle = s ∨ (s.pattern.stage.busy ∧ ∃ st n, Stage.busy st ∧
      s.patternSettle = s.startInterval st n) := by
  have hbusy : Stage.closingAll.busy := by simp [Stage.busy]
  unfold State.patternSettle
  split
  case h_6 => exact .inl rfl
  all_goals
    rename_i hstage _
    split
    case isFalse => exact .inl rfl
  · exact .inr ⟨by rw [hstage]; exact Stage.opening_busy, _, _, Stage.openHalf_busy, rfl⟩
  · exact .inr ⟨by rw [hstage]; exact Stage.closing_busy, _, _, Stage.closedHalf_busy, rfl⟩
  · exact .inr ⟨by simp_all, _, _, Stage.clearing_busy, rfl⟩
  · exact .inr ⟨by rw [hstage]; exact Stage.opening_busy, _, _, Stage.dwell_busy, rfl⟩
  · exact .inr ⟨by rw [hstage]; exact Stage.closing_busy, _, _, Stage.closeWait_busy, rfl⟩

theorem State.Framed.closed_of_out {s : State} (h : s.Framed) (hout : ∀ i, (s.loop i).engaged = false)
    (i : Fin 16) : (s.loop i).openPhase = false := by
  obtain ⟨-, hopen, -⟩ := h.modes
  by_contra hi
  rw [Bool.not_eq_false] at hi
  have hengaged := hopen i hi
  rw [hout i] at hengaged
  cases hengaged

theorem State.Framed.t0_of_not_drives {s : State} (h : s.Framed) (hd : ¬s.Drives) : s.t0 = none := by
  obtain ⟨-, -, -, -, -, hclock⟩ := h.modes
  rwa [← Option.not_isSome_iff_eq_none, hclock]

/-- A part in TEST mode is sound when nothing is in the drive and its stage fits its TESTING loops. -/
theorem State.framed_of_test {t : State} (hm : t.mode = .test) (hmax : 1 ≤ t.general.hmax)
    (hout : ∀ i, (t.loop i).engaged = false) (hclosed : ∀ i, (t.loop i).openPhase = false)
    (ht0 : t.t0 = none) (htesting : t.pattern.stage = .windingDown → ∀ i, (t.loop i).state ≠ .testing)
    (hsubject : t.pattern.stage.busy → ∀ k, t.pattern.subject = some k → (t.loop k).state = .testing)
    (harb : State.Arb (fun i => (t.loop i).state = .testing) t) : t.Framed where
  hmax := hmax
  modes := by
    refine ⟨fun _ => hout, fun i hi => ?_, fun hn => absurd hm hn,
      fun hn => htesting (hn.resolve_left fun hne => hne hm), fun ha => ?_, ?_⟩
    · rw [hclosed i] at hi
      cases hi
    · rw [hm] at ha
      cases ha
    · simp [ht0, hm]
  subject _ hidle hwinding := hsubject ⟨hidle, hwinding⟩
  quiet hp := by
    rw [hm] at hp
    cases hp
  arb := harb.mono fun _ hi => .inr ⟨hm, hi⟩

/-- In TEST mode the driven loops are the TESTING ones. -/
theorem State.Framed.arb_of_test {s : State} (h : s.Framed) (hm : s.mode = .test) :
    State.Arb (fun i => (s.loop i).state = .testing) s := h.arb.mono fun i hi => by
  rcases hi with ⟨-, he⟩ | ⟨-, ht⟩
  · rw [h.out_of_test hm i] at he
    cases he
  · exact ht

/-- A change of the pattern record to a stage that fits the TESTING loops. -/
theorem State.Framed.setBusy {s : State} (h : s.Framed) (hm : s.mode = .test) (p : Pattern)
    (hwinding : p.stage ≠ .windingDown)
    (hsubject : ∀ k, p.subject = some k → (s.loop k).state = .testing) :
    State.Framed { s with pattern := p } :=
  State.framed_of_test hm h.hmax (h.out_of_test hm) (h.closed_of_out (h.out_of_test hm))
    (h.t0_of_not_drives (State.not_drives (.inr hm))) (fun hw => absurd hw hwinding) (fun _ => hsubject)
    ((h.arb_of_test hm).of_same rfl (fun _ => rfl) fun _ => rfl)

theorem State.Framed.patternSettle {s : State} (h : s.Framed) : s.patternSettle.Framed := by
  rcases s.patternSettle_stage with e | ⟨hbusy, st, n, hst, e⟩ <;> rw [e]
  · exact h
  · have hm := h.test_of_busy hbusy
    exact h.setBusy hm _ hst.2 fun k hk => h.subject hm hbusy.1 hbusy.2 k hk

theorem State.Framed.afterHeadEvent {s : State} (h : s.Framed) : s.afterHeadEvent.Framed :=
  h.patternSettle.checkHalting.checkWindDown

/-- A stage that drives a TESTING loop. -/
theorem State.Framed.driveStage {s : State} (h : s.Framed) (hm : s.mode = .test) {st : Stage}
    (hst : st.busy) {k : Fin 16} (hk : (s.loop k).state = .testing) (a : Action) :
    (s.driveStage st k a).Framed := by
  have hset : (s.setStage st (some k)).Framed :=
    h.setBusy hm _ hst.2 fun j hj => by
      cases hj
      exact hk
  exact (hset.want (.inr ⟨hm, hk⟩) a false).patternSettle

/-- The actions of driven loops, one after the other. -/
theorem State.Framed.wantAll {s : State} (h : s.Framed) (f : State → Fin 16 → Action)
    (is : List (Fin 16)) (his : ∀ i ∈ is, s.Driven i) :
    (is.foldl (fun s i => s.want i (f s i) false) s).Framed := by
  induction is generalizing s with
  | nil => exact h
  | cons i is ih =>
    refine ih (h.want (his i (List.mem_cons_self ..)) _ false) fun j hj => ?_
    exact ((s.want_placeStep i _ false).sameModes.driven j).mpr (his j (List.mem_cons_of_mem _ hj))

/-- The RELEASE of every driven loop leaves none driven. -/
theorem State.Arb.releaseAll {s : State} {is : List (Fin 16)} (h : State.Arb (· ∈ is) s)
    (hm : s.mode ≠ .passive) :
    State.Arb (fun _ => False) (is.foldl (fun s i => s.want i .release false) s) := by
  induction is generalizing s with
  | nil => exact h.mono fun i hi => absurd hi List.not_mem_nil
  | cons i is ih =>
    refine ih (State.Arb.wantRelease (h.mono fun j hj => ?_) hm false) ?_
    · exact (List.mem_cons.mp hj).symm
    · rwa [(s.want_placeStep i .release false).mode]

theorem State.fields_mapLoops (s : State) (f : Fin 16 → Loop → Loop) :
    (s.mapLoops f).orders = s.orders ∧ (s.mapLoops f).waits = s.waits ∧ (s.mapLoops f).line = s.line ∧
      (s.mapLoops f).general = s.general ∧ (s.mapLoops f).t0 = s.t0 ∧
      (s.mapLoops f).pattern = s.pattern ∧ (s.mapLoops f).mode = s.mode :=
  ⟨by simp, by simp, by simp only [State.line, State.portM_mapLoops], by simp, by simp, by simp, by simp⟩

/-- A change of the states of loops, their heads and wanted actions as they were. -/
theorem State.Arb.mapLoops {x : Fin 16 → Prop} {s : State} (h : State.Arb x s) (f : Fin 16 → Loop → Loop)
    (hf : ∀ i l, (f i l).head = l.head ∧ (f i l).wanted = l.wanted) : State.Arb x (s.mapLoops f) := by
  obtain ⟨ho, hw, hl, hg, -⟩ := s.fields_mapLoops f
  refine h.of_same (by rw [hg]) (fun j => State.docket_congr ?_ ho hw hl) fun j => ?_ <;>
    rw [State.loop_mapLoops]
  · exact (hf j _).1
  · exact (hf j _).2

/-- The record of a loop at the beginning of a pattern (R129). -/
def Loop.tested (l : Loop) : Loop := if l.state = .standby then { l with state := .testing } else l

/-- The record of a loop at the end of a pattern (R137). -/
def Loop.stoodDown (l : Loop) : Loop := if l.state = .testing then { l with state := .standby } else l

theorem Loop.tested_same (l : Loop) : l.tested.head = l.head ∧ l.tested.wanted = l.wanted ∧
    l.tested.openPhase = l.openPhase ∧ (l.engaged = false → l.tested.engaged = false) := by
  unfold Loop.tested
  split <;> exact ⟨rfl, rfl, rfl, by simp [Loop.engaged]⟩

theorem Loop.stoodDown_same (l : Loop) : l.stoodDown.head = l.head ∧ l.stoodDown.wanted = l.wanted ∧
    l.stoodDown.openPhase = l.openPhase ∧ (l.engaged = false → l.stoodDown.engaged = false) ∧
    l.stoodDown.state ≠ .testing := by
  unfold Loop.stoodDown
  split
  · exact ⟨rfl, rfl, rfl, by simp [Loop.engaged], by simp⟩
  · exact ⟨rfl, rfl, rfl, id, ‹_›⟩

theorem State.enterTest_eq (s : State) : s.enterTest = { s.mapLoops (fun _ => Loop.tested) with mode := .test } := rfl

theorem State.mode_enterTest (s : State) : s.enterTest.mode = .test := rfl

/-- TEST mode is entered from PASSIVE mode (R129). -/
theorem State.Framed.enterTest {s : State} (h : s.Framed) (hm : s.mode = .passive) :
    s.enterTest.Framed ∧ ∀ k, (s.loop k).enabled = true → (s.enterTest.loop k).state = .testing := by
  have hout := h.out_of_passive hm
  have hloop (j : Fin 16) := s.loop_mapLoops (fun _ => Loop.tested) j
  have harb := h.arb.mapLoops (fun _ => Loop.tested) fun _ l => ⟨l.tested_same.1, l.tested_same.2.1⟩
  obtain ⟨-, -, -, hg, ht0, hp, -⟩ := s.fields_mapLoops fun _ => Loop.tested
  have hidle : s.pattern.stage = .idle := by
    obtain ⟨-, -, hstage, -⟩ := h.modes
    exact hstage (by rw [hm]; decide)
  have hnone (i : Fin 16) : ¬s.Driven i := by simp [State.Driven, State.Drives, hm]
  rw [State.enterTest_eq]
  generalize s.mapLoops (fun _ => Loop.tested) = v at *
  have hv (j : Fin 16) : State.loop { v with mode := .test } j = (s.loop j).tested := hloop j
  refine ⟨State.framed_of_test rfl ?_ (fun i => ?_) (fun i => ?_) ?_ (fun hw => ?_) (fun hb => ?_) ?_,
    fun k hk => ?_⟩
  · show 1 ≤ v.general.hmax
    rw [hg]
    exact h.hmax
  · obtain ⟨-, -, -, hengaged⟩ := (s.loop i).tested_same
    rw [hv]
    exact hengaged (hout i)
  · obtain ⟨-, -, hopen, -⟩ := (s.loop i).tested_same
    rw [hv, hopen]
    exact h.closed_of_out hout i
  · show v.t0 = none
    rw [ht0]
    exact h.t0_of_not_drives (State.not_drives (.inl hm))
  · rw [show State.pattern _ = v.pattern from rfl, hp, hidle] at hw
    cases hw
  · rw [show State.pattern _ = v.pattern from rfl, hp, hidle] at hb
    exact absurd rfl hb.1
  · have htest : State.Arb s.Driven { v with mode := .test } :=
      harb.of_same rfl (fun _ => rfl) fun _ => rfl
    exact htest.mono fun i hi => absurd hi (hnone i)
  · have htest := h.not_testing_of_passive hm k
    have hkout := hout k
    have hstandby : (s.loop k).state = .standby := by
      cases hs : (s.loop k).state <;> simp_all [Loop.engaged, Loop.enabled]
    rw [hv, Loop.tested, if_pos hstandby]

/-- The record of a pattern, its stage and its subject as they were. -/
theorem State.Framed.setPattern {s : State} (h : s.Framed) (p : Pattern)
    (hstage : p.stage = s.pattern.stage) (hsubject : p.subject = s.pattern.subject) :
    State.Framed { s with pattern := p } :=
  h.settles (s.setPattern_quiet p hstage hsubject).settles

theorem State.Framed.startIdentify {s : State} (h : s.Framed) (hm : s.mode = .passive) (k : Fin 16)
    (hk : (s.loop k).enabled = true) (n d : Nat) : (s.startIdentify k n d).Framed := by
  obtain ⟨htest, htesting⟩ := h.enterTest hm
  have hmode := s.mode_enterTest
  have hk := htesting k hk
  unfold State.startIdentify
  generalize s.enterTest = u at *
  have hpattern : (u.setPattern .identify k.val n d).Framed := htest.setPattern _ rfl rfl
  exact hpattern.driveStage hmode Stage.opening_busy hk _

theorem State.Framed.startSweep {s : State} (h : s.Framed) (hm : s.mode = .passive) (d r : Nat) :
    (s.startSweep d r).Framed := by
  obtain ⟨htest, -⟩ := h.enterTest hm
  have hmode := s.mode_enterTest
  have hclosingAll : Stage.closingAll ≠ .windingDown := by decide
  have hcleared (u : State) (hu : u.Framed) : State.Framed { u with sweep := Vector.replicate 16 {} } := by
    have hquiet : u.Quiet { u with sweep := Vector.replicate 16 {} } :=
      State.quiet_of_eq rfl rfl rfl rfl rfl rfl rfl rfl rfl rfl rfl
    exact hu.settles hquiet.settles
  have hswept (u : State) (hu : u.Framed) (hmu : u.mode = .test) :
      State.Framed (u.testingLoops.foldl (fun s i => s.want i (s.closingAction i) false) u) :=
    hu.wantAll State.closingAction _ fun i hi => .inr ⟨hmu, u.mem_testingLoops.mp hi⟩
  unfold State.startSweep
  generalize s.enterTest = v at *
  have hpattern : (v.setPattern .sweep d r 0).Framed := htest.setPattern _ rfl rfl
  have hset : ((v.setPattern .sweep d r 0).setStage .closingAll none).Framed :=
    hpattern.setBusy hmode _ hclosingAll nofun
  exact (hswept _ (hcleared _ hset) hmode).patternSettle

/-- A pattern's end: the RELEASE of every TESTING loop, their standing down, and the record (R137). -/
theorem State.endPattern_eq (s : State) (e : Ending) : s.endPattern e =
    let released := s.testingLoops.foldl (fun s i => s.want i .release false)
      { s with pattern := { s.pattern with intervalDue := none } }
    let standby := released.mapLoops fun _ => Loop.stoodDown
    ({ standby with pattern :=
        { standby.pattern with
          lastEnding := e, subject := none, stage := .windingDown
          heldBy := s.heldAtEnding } }).checkWindDown := rfl

/-- The standing down in TEST mode of loops of which none is driven. -/
theorem State.Framed.standDown {s u : State} (h : s.Framed) (hm : s.mode = .test) (hsame : s.SameModes u)
    (harb : State.Arb (fun _ => False) u) (p : Pattern) (hp : p.stage = .windingDown) :
    State.Framed { u.mapLoops (fun _ => Loop.stoodDown) with pattern := p } := by
  have hloop (j : Fin 16) := u.loop_mapLoops (fun _ => Loop.stoodDown) j
  have hmapped := harb.mapLoops (fun _ => Loop.stoodDown) fun _ l =>
    ⟨l.stoodDown_same.1, l.stoodDown_same.2.1⟩
  obtain ⟨-, -, -, hg, ht0, -, hmode⟩ := u.fields_mapLoops fun _ => Loop.stoodDown
  generalize u.mapLoops (fun _ => Loop.stoodDown) = v at *
  have hv (j : Fin 16) : State.loop { v with pattern := p } j = (u.loop j).stoodDown := hloop j
  refine State.framed_of_test (hmode.trans (hsame.mode.trans hm)) ?_ (fun i => ?_) (fun i => ?_) ?_
    (fun _ i => ?_) (fun hb => absurd hp hb.2) ?_
  · show 1 ≤ v.general.hmax
    rw [hg, hsame.hmax]
    exact h.hmax
  · obtain ⟨-, -, -, hengaged, -⟩ := (u.loop i).stoodDown_same
    rw [hv]
    exact hengaged ((hsame.engaged i).trans (h.out_of_test hm i))
  · obtain ⟨-, -, hopen, -⟩ := (u.loop i).stoodDown_same
    rw [hv, hopen]
    by_contra hi
    rw [Bool.not_eq_false] at hi
    have hs := hsame.openPhase i hi
    rw [h.closed_of_out (h.out_of_test hm) i] at hs
    cases hs
  · show v.t0 = none
    rw [ht0, hsame.t0]
    exact h.t0_of_not_drives (State.not_drives (.inr hm))
  · obtain ⟨-, -, -, -, htesting⟩ := (u.loop i).stoodDown_same
    rw [hv]
    exact htesting
  · have hdown : State.Arb (fun _ => False) { v with pattern := p } :=
      hmapped.of_same rfl (fun _ => rfl) fun _ => rfl
    exact hdown.mono fun _ hi => hi.elim

theorem State.Framed.endPattern {s : State} (h : s.Framed) (hst : s.pattern.stage.busy) (e : Ending) :
    (s.endPattern e).Framed := by
  have hm := h.test_of_busy hst
  have hp : State.Framed { s with pattern := { s.pattern with intervalDue := none } } :=
    h.setPattern _ rfl rfl
  have harb : State.Arb (· ∈ s.testingLoops) { s with pattern := { s.pattern with intervalDue := none } } :=
    (hp.arb_of_test hm).mono fun i hi => s.mem_testingLoops.mpr hi
  have hmode : State.mode { s with pattern := { s.pattern with intervalDue := none } } ≠ .passive := by
    rw [show State.mode _ = s.mode from rfl, hm]
    decide
  have hsame := (State.wantAll_placeStep { s with pattern := { s.pattern with intervalDue := none } }
    (fun _ _ => .release) s.testingLoops).sameModes
  rw [State.endPattern_eq]
  exact (hp.standDown hm hsame (harb.releaseAll hmode) _ rfl).checkWindDown

end Sys2Proof.Machine
end

section
/-! PROOFS. Every work of the core, and the work at a boundary, leaves the head arbiter sound (R98, R103,
R142): the settling of O58. -/

namespace Sys2Proof.Machine

open Sys2Proof

/-! ## A loop that joins or leaves -/

/-- Outside TEST mode loop i takes another record, its open phase over: one of its new state. -/
structure State.Moves (i : Fin 16) (s t : State) : Prop where
  mode : t.mode = s.mode
  t0 : t.t0 = s.t0
  stage : t.pattern.stage = s.pattern.stage
  hmax : t.general.hmax = s.general.hmax
  other : ∀ j, j ≠ i → t.loop j = s.loop j
  away : s.mode ≠ .test
  closed : (t.loop i).openPhase = false
  out : s.mode = .passive → (t.loop i).engaged = false
  untested : (t.loop i).state ≠ .testing
  busy : s.mode = .active → (t.loop i).state ≠ .standby

theorem State.Moves.modes {i : Fin 16} {s t : State} (h : State.Moves i s t) (hs : s.ModesConsistent) :
    t.ModesConsistent := by
  obtain ⟨hout, hopen, hstage, htesting, hstandby, hclock⟩ := hs
  have hcases {p : Loop → Prop} (hi : p (t.loop i)) (hj : ∀ j, p (s.loop j)) (j : Fin 16) :
      p (t.loop j) := by
    by_cases e : j = i
    · exact e ▸ hi
    · rw [h.other j e]
      exact hj j
  refine ⟨fun hm => ?_, ?_, fun _ => ?_, fun _ => ?_, fun hm => ?_, ?_⟩
  · rw [h.mode] at hm
    exact hcases (p := fun l => l.engaged = false) (h.out (hm.resolve_right h.away)) (hout hm)
  · refine hcases (p := fun l => l.openPhase = true → l.engaged = true) (fun ho => ?_) hopen
    rw [h.closed] at ho
    cases ho
  · rw [h.stage]
    exact hstage h.away
  · exact hcases (p := fun l => l.state ≠ .testing) h.untested (htesting (.inl h.away))
  · rw [h.mode] at hm
    exact hcases (p := fun l => l.state ≠ .standby) (h.busy hm) (hstandby hm)
  · rw [h.mode, h.t0]
    exact hclock

theorem State.Moves.driven {i : Fin 16} {s t : State} (h : State.Moves i s t) {j : Fin 16}
    (hj : j ≠ i) : t.Driven j ↔ s.Driven j := by
  rw [State.Driven, State.Drives, State.Driven, State.Drives, h.mode, h.other j hj]

theorem State.Moves.subjectTesting {i : Fin 16} {s t : State} (h : State.Moves i s t) :
    t.SubjectTesting := fun hm => absurd (h.mode ▸ hm) h.away

/-- The part after a loop has joined or left, its arbiter sound for the loops driven now. -/
theorem State.Framed.moves {i : Fin 16} {s t : State} (h : s.Framed) (hmove : State.Moves i s t)
    (harb : State.Arb t.Driven t)
    (hquiet : s.mode = .passive → t.orders = [] ∧ t.waits = [] ∧ t.holders = 0) : t.Framed where
  hmax := hmove.hmax ▸ h.hmax
  modes := hmove.modes h.modes
  subject := hmove.subjectTesting
  quiet hm := hquiet (hmove.mode ▸ hm)
  arb := harb

/-! ## ENABLE (R10, R11) -/

/-- A loop that may be enabled has at most a RELEASE waiting, and no slot. -/
theorem State.Framed.docket_of_enableFails {s : State} (h : s.Framed) {i : Fin 16}
    (hfails : s.enableFails i = none) :
    (s.mode = .passive ∨ s.mode = .active) ∧ (s.loop i).head.holdsSlot = false ∧
      s.ordersOf i = [] ∧ s.lineOf i = none := by
  unfold State.enableFails at hfails
  split at hfails
  · cases hfails
  rename_i hm
  have hm : s.mode = .passive ∨ s.mode = .active := by
    cases hs : s.mode <;> simp_all
  split at hfails
  · cases hfails
  rename_i hdisabled
  split at hfails
  · cases hfails
  rename_i hout
  have hstate : (s.loop i).state = .disabled := Loop.enabled_eq_false.mp (by simpa using hdisabled)
  have hdown := h.arb.down i (by
    rintro (⟨-, he⟩ | ⟨-, ht⟩)
    · simp [Loop.engaged, hstate] at he
    · rw [hstate] at ht
      cases ht)
  obtain ⟨-, henergised, hsilent, hwait, -⟩ := hdown
  simp only [State.orderOutstanding, Bool.or_eq_true, not_or, State.orderQueued_iff, not_not,
    State.orderInTransmission_iff, not_exists, Loop.awaitsEcho, beq_iff_eq] at hout
  obtain ⟨⟨hqueued, hline⟩, henergiseSent, hreleaseSent⟩ := hout
  have hsound := h.arb.filed i
  generalize hk : s.docket i = d at hsound
  obtain ⟨hhead, hos, -, hl⟩ := State.docket_eq hk
  rw [hos] at hqueued
  rw [hl] at hline
  refine ⟨hm, ?_, hos.trans hqueued, ?_⟩
  · rw [hhead] at henergised hsilent hwait henergiseSent hreleaseSent ⊢
    cases hsound with
    | rest hr | restWaiting hr => exact hr.not_slot
    | waiting => rfl
    | listed a => simp at hqueued
    | onLine a => simp at hline
    | away ha =>
      rcases ha with e | e | e | e
      · exact absurd e henergiseSent
      · exact absurd e henergised
      · exact absurd e hsilent
      · exact absurd e hreleaseSent
  · rw [hl]
    exact Option.eq_none_iff_forall_ne_some.mpr hline

theorem State.enabledLoop_fields (s : State) (i : Fin 16) :
    (s.enabledLoop i).openPhase = false ∧ (s.enabledLoop i).head = .idleUnknown ∧
      (s.enabledLoop i).wanted = none ∧ (s.enabledLoop i).state ≠ .testing ∧
      (s.mode = .active → (s.enabledLoop i).state ≠ .standby) ∧
      (s.mode = .passive → (s.enabledLoop i).engaged = false) := by
  obtain ⟨-, -, -, -, -, hopen, hhead, hwanted⟩ := (s.loop i).clearStatus_cleared
  unfold State.enabledLoop
  generalize (s.loop i).clearStatus = l at *
  dsimp only
  split
  · rename_i hm
    refine ⟨hopen, hhead, hwanted, ?_, fun _ => ?_, fun hp => ?_⟩
    · dsimp only
      split <;> simp
    · dsimp only
      split <;> simp
    · rw [hm] at hp
      cases hp
  · rename_i hm
    exact ⟨hopen, hhead, hwanted, by simp, fun ha => absurd ha hm, fun _ => rfl⟩

theorem State.Framed.joined {s : State} (h : s.Framed) {i : Fin 16} (hfails : s.enableFails i = none) :
    (s.joined i).Framed := by
  obtain ⟨hm, hslot, horders, hline⟩ := h.docket_of_enableFails hfails
  obtain ⟨hopen, hhead, hwanted, htesting, hstandby, hout⟩ := s.enabledLoop_fields i
  have hself : (s.joined i).loop i = s.enabledLoop i := State.loop_setLoop_self ..
  have hother (j : Fin 16) (hj : j ≠ i) : (s.joined i).loop j = s.loop j :=
    State.loop_setLoop_ne _ (Ne.symm hj) _
  have hmove : State.Moves i s (s.joined i) :=
    ⟨rfl, rfl, rfl, rfl, hother, by rcases hm with e | e <;> rw [e] <;> decide, hself ▸ hopen,
      hself ▸ hout, hself ▸ htesting, hself ▸ hstandby⟩
  have hdocket : (s.joined i).docket i = ⟨.idleUnknown, [], [], none⟩ := by
    have hleft := congrArg Docket.waits (s.docket_leaveWaits_self (i := i))
    rw [State.docket, hself, hhead]
    exact congrArg₂ (fun os l => Docket.mk .idleUnknown os [] l) horders hline ▸
      congrArg (fun ws => Docket.mk .idleUnknown (s.ordersOf i) ws (s.lineOf i)) hleft
  have hplaces : State.PlacesAt i s (s.joined i) := by
    refine ⟨fun j hj => ?_, fun ht => ?_, hdocket ▸ .rest (by simp [HeadState.rests])⟩
    · have hset : (s.joined i).docket j = (s.leaveWaits i).docket j :=
        State.docket_congr (by rw [hother j hj]; rfl) rfl rfl rfl
      exact hset.trans (State.docket_leaveWaits_ne hj)
    · rw [hself, hhead] at ht
      cases ht
  have harb : State.Arb s.Driven (s.joined i) :=
    h.arb.placesAt hplaces rfl (fun j hj => by rw [hother j hj]) fun _ => by
      rw [hself]
      simp [Loop.WindsDown, hhead, hwanted]
  have hdriven : State.Arb (s.joined i).Driven (s.joined i) := by
    refine ⟨harb.slots, harb.filed, fun j hj => ?_⟩
    by_cases e : j = i
    · rw [e, hself]
      simp [Loop.WindsDown, hhead, hwanted]
    · exact harb.down j fun hd => hj ((hmove.driven e).mpr hd)
  refine h.moves hmove hdriven fun hp => ?_
  obtain ⟨ho, hw, hh⟩ := h.quiet hp
  have hwaits : (s.joined i).waits = s.waits.filter (·.loop != i) := rfl
  refine ⟨ho, by rw [hwaits, hw]; rfl, Nat.le_zero.mp ?_⟩
  refine State.holders_le_of_move i (fun j hj => by rw [hother j hj]) (fun ht => ?_) hh.le
  rw [hself, hhead] at ht
  cases ht

/-! ## DISABLE (R12) -/

/-- A loop leaves the wait list while its head is in no ENERGISE-WAIT. -/
theorem State.Arb.leaveWaits {x : Fin 16 → Prop} {s : State} (h : State.Arb x s) {i : Fin 16}
    (hhead : (s.loop i).head ≠ .energiseWait) : State.Arb x (s.leaveWaits i) := by
  have hsound := h.filed i
  refine h.placesAt (i := i) ⟨fun j hj => State.docket_leaveWaits_ne hj, .inl, ?_⟩ rfl (fun _ _ => rfl)
    fun hi => h.down i hi
  rw [State.docket_leaveWaits_self]
  generalize hk : s.docket i = d at hsound
  obtain ⟨hd, -⟩ := State.docket_eq hk
  cases hsound with
  | rest hr | restWaiting hr => exact .rest hr
  | waiting => exact absurd hd hhead
  | listed a => exact .listed a
  | onLine a => exact .onLine a
  | away ha => exact .away ha

/-- Loop i is disabled, its recompute and its RELEASE still to come. -/
def State.cleared (s : State) (i : Fin 16) : State := (s.leaveWaitsAtDisable i).updLoop i Loop.disabled

theorem State.loop_cleared (s : State) (i j : Fin 16) :
    (s.cleared i).loop j = if i = j then (s.loop i).disabled else s.loop j := by
  have hleft (j : Fin 16) : (s.leaveWaitsAtDisable i).loop j = s.loop j := by
    unfold State.leaveWaitsAtDisable
    split <;> rfl
  rw [State.cleared, State.loop_updLoop, hleft, hleft]

theorem State.cleared_moves {s : State} {i : Fin 16} (hm : s.mode = .passive ∨ s.mode = .active) :
    State.Moves i s (s.cleared i) := by
  have hself : (s.cleared i).loop i = (s.loop i).disabled := by rw [State.loop_cleared, if_pos rfl]
  have hfields : (s.cleared i).mode = s.mode ∧ (s.cleared i).t0 = s.t0 ∧
      (s.cleared i).pattern.stage = s.pattern.stage ∧ (s.cleared i).general.hmax = s.general.hmax := by
    unfold State.cleared State.leaveWaitsAtDisable
    split <;> exact ⟨rfl, rfl, rfl, rfl⟩
  obtain ⟨hmode, ht0, hstage, hmax⟩ := hfields
  obtain ⟨-, -, -, -, -, hopen, -⟩ := (s.loop i).disabled_cleared
  have hstate : (s.loop i).disabled.state = .disabled := rfl
  refine ⟨hmode, ht0, hstage, hmax, fun j hj => ?_, by rcases hm with e | e <;> rw [e] <;> decide,
    hself ▸ hopen, fun _ => ?_, ?_, fun _ => ?_⟩
  · rw [State.loop_cleared, if_neg (Ne.symm hj)]
  · rw [hself]; rfl
  · rw [hself, hstate]; decide
  · rw [hself, hstate]; decide

theorem State.Arb.cleared {x : Fin 16 → Prop} {s : State} (h : State.Arb x s) {i : Fin 16}
    (hwait : (s.loop i).head = .energiseWait → s.mode = .active) : State.Arb x (s.cleared i) := by
  have hleft : State.Arb x (s.leaveWaitsAtDisable i) := by
    unfold State.leaveWaitsAtDisable
    split
    · exact h
    · rename_i hn
      exact h.leaveWaits fun e => hn ⟨hwait e, e⟩
  obtain ⟨-, -, -, -, -, -, hhead, hwanted⟩ := ((s.leaveWaitsAtDisable i).loop i).disabled_cleared
  unfold State.cleared
  generalize s.leaveWaitsAtDisable i = u at *
  refine hleft.of_same rfl (fun j => u.updLoop_docket i Loop.disabled j hhead) fun j => ?_
  rw [State.loop_updLoop]
  split
  · rename_i e
    rw [← e, hwanted]
  · rfl

theorem State.disable_eq (s : State) (i : Fin 16) : s.disable i =
    if s.mode = .active then
      (if (s.loop i).engaged then (s.cleared i).recompute else s.cleared i).want i .release false
    else if (s.loop i).engaged then (s.cleared i).recompute else s.cleared i := rfl

/-- A part whose loop i has left the drive, and is now given its RELEASE. -/
theorem State.Framed.releases {s u : State} (h : s.Framed) {i : Fin 16} (hmove : State.Moves i s u)
    (hm : s.mode ≠ .passive) {v : State} (hs : u.Settles v)
    (harb : State.Arb (fun j => u.Driven j ∨ j = i) u) : (v.want i .release false).Framed := by
  have hsame := hs.modes.trans (v.want_placeStep i .release false).sameModes
  have hv : v.mode ≠ .passive := by rwa [hs.modes.mode, hmove.mode]
  have hdrives {j : Fin 16} (hj : (u.loop j).engaged = true) : u.Driven j := by
    obtain ⟨hout, -⟩ := hmove.modes h.modes
    refine .inl ⟨?_, hj⟩
    cases hmode : u.mode
    case active => exact .inl hmode
    case halting => exact .inr hmode
    all_goals
      have he := hout (by simp [hmode]) j
      rw [hj] at he
      cases he
  have hsound := hs.arb _ (fun j hj => .inl (hdrives hj)) harb
  refine ⟨hsame.hmax ▸ hmove.hmax ▸ h.hmax, hsame.modes (hmove.modes h.modes),
    hsame.subjectTesting hmove.subjectTesting, fun hp => ?_,
    (State.Arb.wantRelease hsound hv false).mono fun j hj => (hsame.driven j).mpr hj⟩
  rw [hsame.mode, hmove.mode] at hp
  exact absurd hp hm

theorem State.Framed.disable {s : State} (h : s.Framed) {i : Fin 16}
    (hm : s.mode = .passive ∨ s.mode = .active) : (s.disable i).Framed := by
  have hmove := State.cleared_moves (i := i) hm
  have hrecomputed : (s.cleared i).Settles
      (if (s.loop i).engaged then (s.cleared i).recompute else s.cleared i) := by
    split
    · exact State.recompute_settles _
    · exact .refl _
  have harb : State.Arb s.Driven (s.cleared i) := by
    refine h.arb.cleared fun hw => hm.resolve_left fun hp => ?_
    obtain ⟨-, -, -, hwait, -⟩ := h.arb.down i (by simp [State.Driven, State.Drives, hp])
    exact hwait hw
  rw [State.disable_eq]
  split
  · rename_i ha
    refine h.releases hmove (by rw [ha]; decide) hrecomputed (harb.mono fun j hj => ?_)
    by_cases e : j = i
    · exact .inr e
    · exact .inl ((hmove.driven e).mpr hj)
  · rename_i ha
    have hp := hm.resolve_right ha
    have hnone (j : Fin 16) : ¬s.Driven j := by simp [State.Driven, State.Drives, hp]
    refine State.Framed.settles (h.moves hmove (harb.mono fun j hj => absurd hj (hnone j)) fun _ => ?_)
      hrecomputed
    obtain ⟨ho, hw, hh⟩ := h.quiet hp
    refine ⟨?_, ?_, State.holders_eq_zero fun j => ?_⟩
    · unfold State.cleared State.leaveWaitsAtDisable
      split <;> exact ho
    · unfold State.cleared State.leaveWaitsAtDisable
      split
      · exact hw
      · exact congrArg (List.filter (·.loop != i)) hw
    · rw [State.loop_cleared]
      split
      · rename_i e
        exact e ▸ State.not_slot_of_holders hh i
      · exact State.not_slot_of_holders hh j

/-! ## SET MODE (R140, R141) -/

theorem State.Framed.beginHalting {s : State} (h : s.Framed) (hm : s.mode = .active) :
    s.beginHalting.Framed := by
  obtain ⟨-, hopen, hstage, htesting, -, hclock⟩ := h.modes
  have hne : s.mode ≠ .test := by rw [hm]; decide
  have hhalting : State.Framed { s with mode := .halting } := by
    refine ⟨h.hmax, ⟨nofun, hopen, fun _ => hstage hne, fun _ => htesting (.inl hne), nofun, ?_⟩, nofun,
      nofun, State.Arb.mono (x := s.Driven) (h.arb.of_same rfl (fun _ => rfl) fun _ => rfl) fun i hi => ?_⟩
    · exact ⟨fun _ => .inr rfl, fun _ => hclock.mpr (.inl hm)⟩
    · rcases hi with ⟨-, he⟩ | ⟨ht, -⟩
      · exact .inl ⟨.inr rfl, he⟩
      · exact absurd ht hne
  exact hhalting.checkHalting

/-- The placing of a STANDBY loop (R140). -/
theorem Loop.placed_fields (l : Loop) (r : Bool) (n : Nat) :
    (l.placed r n).engaged = true ∧ (l.placed r n).openPhase = false ∧ (l.placed r n).wanted = none ∧
      (l.placed r n).head = l.head := by
  refine ⟨?_, rfl, rfl, rfl⟩
  simp only [Loop.placed, Loop.engaged]
  split_ifs <;> rfl

theorem State.loop_startPlaced (s : State) (j : Fin 16) : ∃ r n, s.startPlaced.loop j =
    if (s.startCauses.loop j).state = .standby then (s.startCauses.loop j).placed r n
    else s.startCauses.loop j := by
  rw [State.startPlaced, State.loop_mapLoops]
  exact ⟨_, _, rfl⟩

/-- What the placing of a START leaves of each loop: it is in the drive, or as it was and disabled. -/
theorem State.Framed.startPlaced_loop {s : State} (h : s.Framed) (hm : s.mode = .passive) (j : Fin 16) :
    (s.startPlaced.loop j).openPhase = false ∧ (s.startPlaced.loop j).state ≠ .testing ∧
      (s.startPlaced.loop j).state ≠ .standby ∧
      (s.startPlaced.loop j).head = (s.startCauses.loop j).head ∧
      ((s.startPlaced.loop j).engaged = true ∨
        (s.startPlaced.loop j).wanted = (s.startCauses.loop j).wanted) := by
  have hface := s.startCauses_quiet.face j
  have hstate : (s.startCauses.loop j).state = (s.loop j).state := Loop.state_of_face hface
  have hopen : (s.startCauses.loop j).openPhase = (s.loop j).openPhase := Loop.openPhase_of_face hface
  obtain ⟨r, n, e⟩ := s.loop_startPlaced j
  rw [e]
  split
  · obtain ⟨hengaged, hclosed, -, hhead⟩ := (s.startCauses.loop j).placed_fields r n
    exact ⟨hclosed, Loop.not_testing_of_engaged hengaged, Loop.not_standby_of_engaged hengaged, hhead,
      .inl hengaged⟩
  · rename_i hstandby
    refine ⟨hopen.trans (h.closed_of_out (h.out_of_passive hm) j), ?_, hstandby, rfl, .inr rfl⟩
    rw [hstate]
    exact h.not_testing_of_passive hm j

theorem State.Framed.startPlaced {s : State} (h : s.Framed) (hm : s.mode = .passive) :
    s.startPlaced.Framed := by
  have hloop := h.startPlaced_loop hm
  have hquiet := s.startCauses_quiet
  have hnone (j : Fin 16) : ¬s.Driven j := by simp [State.Driven, State.Drives, hm]
  obtain ⟨-, -, hidle, -⟩ := h.modes
  have hstage := hidle (by rw [hm]; decide)
  have hopened : State.Arb (fun _ => False) { s with mode := .active, t0 := some s.now } :=
    (h.arb.mono fun j hj => hnone j hj).of_same rfl (fun _ => rfl) fun _ => rfl
  have hcauses := hquiet.settles.arb _ (fun j hj => by
    have hj : (s.loop j).engaged = true := hj
    rw [h.out_of_passive hm j] at hj
    cases hj) hopened
  obtain ⟨ho, hw, hl, hg, ht0, hp, -⟩ := s.startCauses.fields_mapLoops fun i l =>
    if l.state = .standby then
      l.placed (s.startCauses.inShedRange i) (s.startCauses.boundaryFrom i s.now (s.now + 1))
    else l
  have hmode := s.mode_startPlaced
  change s.startPlaced.orders = _ at ho
  change s.startPlaced.waits = _ at hw
  change s.startPlaced.line = _ at hl
  change s.startPlaced.general = _ at hg
  change s.startPlaced.t0 = _ at ht0
  change s.startPlaced.pattern = _ at hp
  have hmax : s.startPlaced.general.hmax = s.general.hmax := by
    rw [hg]
    exact hquiet.hmax
  have hhead (j : Fin 16) : (s.startPlaced.loop j).head = (s.startCauses.loop j).head := by
    obtain ⟨-, -, -, hhead, -⟩ := hloop j
    exact hhead
  have hdocket (j : Fin 16) : s.startPlaced.docket j = s.startCauses.docket j :=
    State.docket_congr (hhead j) ho hw hl
  generalize s.startPlaced = t at *
  refine ⟨?_, ⟨fun hn => ?_, fun j hj => ?_, fun _ => ?_, fun _ j => ?_, fun _ j => ?_, ?_⟩, fun ht => ?_,
    fun hn => ?_, ?_, fun j => ?_, fun j hj => ?_⟩
  · rw [hmax]
    exact h.hmax
  · rcases hn with e | e <;> rw [hmode] at e <;> cases e
  · obtain ⟨hclosed, -⟩ := hloop j
    rw [hclosed] at hj
    cases hj
  · rw [hp]
    exact hquiet.stage.trans hstage
  · obtain ⟨-, htesting, -⟩ := hloop j
    exact htesting
  · obtain ⟨-, -, hstandby, -⟩ := hloop j
    exact hstandby
  · rw [ht0, hquiet.t0, hmode]
    simp
  · rw [hmode] at ht
    cases ht
  · rw [hmode] at hn
    cases hn
  · rw [State.holders_congr hhead, hg]
    exact hcauses.slots
  · rw [hdocket]
    exact hcauses.filed j
  · obtain ⟨-, -, -, -, hrest⟩ := hloop j
    have hwanted := hrest.resolve_left fun he => hj (.inl ⟨.inl hmode, he⟩)
    exact (hcauses.down j id).of_eq (hhead j) hwanted

theorem State.Framed.start {s : State} (h : s.Framed) (hm : s.mode = .passive) : s.start.Framed := by
  rw [State.start_eq]
  exact (h.startPlaced hm).settles (State.recompute_settles _)

end Sys2Proof.Machine
end

section
/-! PROOFS. Echoes, timeouts, transmissions and boundaries leave the head arbiter sound; with them the
settling of O58, O59 and O60. -/

namespace Sys2Proof.Machine

open Sys2Proof

/-! ## Echoes and timeouts (R99 to R102) -/

/-- A SENT or SILENT head is confirmed, or goes silent. -/
theorem Docket.Sound.answered {d : Docket} (hd : d.Sound) {a : Action} {x : HeadState}
    (hhead : d.head = a.sent ∨ d.head = a.silent) (hx : x = a.target ∨ x = a.silent) :
    Docket.Sound { d with head := x } := by
  have hrests : a = .release → x.rests := by
    rintro rfl
    rcases hx with rfl | rfl
    · exact .inr (.inl rfl)
    · exact .inr (.inr rfl)
  have haway : a = .energise → x.away := by
    rintro rfl
    rcases hx with rfl | rfl
    · exact .inr (.inl rfl)
    · exact .inr (.inr (.inl rfl))
  cases hd with
  | rest hr =>
    cases a
    · exact .rest (hrests rfl)
    · exact .away (haway rfl)
  | away ha =>
    cases a
    · exact .rest (hrests rfl)
    · exact .away (haway rfl)
  | restWaiting hr =>
    cases a
    · exact .restWaiting (hrests rfl)
    · rcases hr with e | e | e <;> simp [e, Action.sent, Action.silent] at hhead
  | waiting => cases a <;> simp [Action.sent, Action.silent] at hhead
  | listed b | onLine b => cases a <;> cases b <;> simp [Action.queued, Action.sent, Action.silent] at hhead

/-- Loop i, whose head was SENT or SILENT on an action, is answered or goes silent: the part u. -/
structure State.Answered (i : Fin 16) (a : Action) (s u : State) : Prop where
  before : (s.loop i).head = a.sent ∨ (s.loop i).head = a.silent
  head : (u.loop i).head = a.target ∨ (u.loop i).head = a.silent
  wanted : ∀ j, (u.loop j).wanted = (s.loop j).wanted
  same : s.SameModes u
  other : ∀ j, j ≠ i → (u.loop j).head = (s.loop j).head
  orders : u.orders = s.orders
  waits : u.waits = s.waits
  line : u.line = s.line

theorem State.answered_updLoop {s : State} {i : Fin 16} {a : Action} {x : HeadState} (f : Loop → Loop)
    (hbefore : (s.loop i).head = a.sent ∨ (s.loop i).head = a.silent)
    (hx : x = a.target ∨ x = a.silent)
    (hf : ∀ l : Loop, (f l).stance = (l.state, l.openPhase, x, l.wanted)) :
    State.Answered i a s (s.updLoop i f) := by
  have hloop (j : Fin 16) : (s.updLoop i f).loop j = if i = j then f (s.loop i) else s.loop j :=
    s.loop_updLoop i j f
  have hstance : (f (s.loop i)).state = (s.loop i).state ∧
      (f (s.loop i)).openPhase = (s.loop i).openPhase ∧ (f (s.loop i)).head = x ∧
        (f (s.loop i)).wanted = (s.loop i).wanted := by
    simpa [Loop.stance] using hf (s.loop i)
  obtain ⟨hstate, hopen, hhead, hwanted⟩ := hstance
  have hcases {p : Loop → Loop → Prop} (hi : p (f (s.loop i)) (s.loop i))
      (hrefl : ∀ l, p l l) (j : Fin 16) : p ((s.updLoop i f).loop j) (s.loop j) := by
    rw [hloop]
    split
    · rename_i e
      exact e ▸ hi
    · exact hrefl _
  refine ⟨hbefore, ?_, hcases (p := fun l k => l.wanted = k.wanted) hwanted fun _ => rfl, ?_,
    fun j hj => by rw [State.loop_updLoop_ne _ (Ne.symm hj)], rfl, rfl, rfl⟩
  · rw [State.loop_updLoop_self, hhead]
    exact hx
  · refine ⟨rfl, rfl, rfl, rfl, rfl, ?_, fun j _ => ?_, ?_⟩
    · exact hcases (p := fun l k => l.engaged = k.engaged) (Loop.engaged_of_state hstate) fun _ => rfl
    · exact hcases (p := fun l k => l.state = k.state) hstate (fun _ => rfl) j
    · exact hcases (p := fun l k => l.openPhase = true → k.openPhase = true) (fun h => hopen ▸ h)
        fun _ => id

theorem State.Answered.arb {i : Fin 16} {a : Action} {s u : State} {x : Fin 16 → Prop}
    (h : State.Answered i a s u) (hs : State.Arb x s) : State.Arb (fun j => x j ∨ j = i) u := by
  have hdocket (j : Fin 16) (hj : j ≠ i) : u.docket j = s.docket j :=
    State.docket_congr (h.other j hj) h.orders h.waits h.line
  have hself : u.docket i = { s.docket i with head := (u.loop i).head } := by
    simp only [State.docket, State.ordersOf, State.waitsOf, State.lineOf, h.orders, h.waits, h.line]
  refine State.Arb.placesAt (i := i) (hs.mono fun _ => .inl) ⟨hdocket, fun ht => .inl ?_, ?_⟩ h.same.hmax
    (fun j _ => h.wanted j) fun hn => absurd (.inr rfl) hn
  · cases a
    · rcases h.head with e | e <;> rw [e] at ht <;> cases ht
    · rcases h.before with e | e <;> rw [e] <;> rfl
  · rw [hself]
    exact (hs.filed i).answered h.before h.head

theorem State.Answered.holders {i : Fin 16} {a : Action} {s u : State} (h : State.Answered i a s u)
    (hs : s.holders = 0) : u.holders = 0 := by
  have hslot := State.not_slot_of_holders hs i
  refine Nat.le_zero.mp (State.holders_le_of_move i h.other (fun ht => ?_) hs.le)
  cases a
  · rcases h.head with e | e <;> rw [e] at ht <;> cases ht
  · rcases h.before with e | e <;> rw [e] at hslot <;> cases hslot

theorem State.placeDiffering_cases (s : State) (i : Fin 16) (a : Action) :
    s.placeDiffering i a = s ∨ ∃ b, s.placeDiffering i a = s.place i b false := by
  unfold State.placeDiffering
  split
  · exact .inl rfl
  · split
    · exact .inl rfl
    · exact .inr ⟨_, rfl⟩

theorem State.wanted_placeDiffering (s : State) (i : Fin 16) (a : Action) (j : Fin 16) :
    ((s.placeDiffering i a).loop j).wanted = (s.loop j).wanted := by
  rcases s.placeDiffering_cases i a with e | ⟨b, e⟩ <;> rw [e]
  exact s.wanted_place i b false j

theorem State.Arb.placeDiffering {x : Fin 16 → Prop} {s : State} (h : State.Arb x s) (i : Fin 16)
    (a : Action) (hx : x i) : State.Arb x (s.placeDiffering i a) := by
  rcases s.placeDiffering_cases i a with e | ⟨b, e⟩ <;> rw [e]
  · exact h
  · exact h.place i b false fun hn => absurd hx hn

theorem State.placeDiffering_passive {s : State} (hm : s.mode = .passive) (i : Fin 16) (a : Action) :
    s.placeDiffering i a = s := by
  rcases s.placeDiffering_cases i a with e | ⟨b, e⟩ <;> rw [e]
  simp [State.place, hm]

/-- A wanted action that differs from the answered one winds a loop down that is not driven. -/
theorem State.Answered.windsDown {i : Fin 16} {a : Action} {s u v : State} (h : State.Answered i a s u)
    (hdown : (s.loop i).WindsDown) (hquiet : s.mode = .passive → s.holders = 0)
    (hhead : (v.loop i).head = (u.loop i).head) (hwanted : (v.loop i).wanted = (u.loop i).wanted)
    (hmode : v.mode = s.mode) : ((v.placeDiffering i a).loop i).WindsDown := by
  have hw : (v.loop i).wanted = (s.loop i).wanted := hwanted.trans (h.wanted i)
  obtain ⟨hnot, -, hsilent, -, hbehind⟩ := hdown
  cases a
  · have hfalling : (v.loop i).head.falling := by
      rw [hhead]
      rcases h.head with e | e <;> rw [e] <;> simp [HeadState.falling, Action.target, Action.silent]
    have hsame : v.placeDiffering i .release = v := by
      unfold State.placeDiffering
      rw [hw]
      cases hs : (s.loop i).wanted with
      | none => rfl
      | some b =>
        cases b
        · rfl
        · exact absurd hs hnot
    obtain ⟨h1, h2, h3⟩ := hfalling
    rw [hsame]
    refine ⟨hw ▸ hnot, h1, h2, h3, fun hp => ?_⟩
    rw [hhead] at hp
    rcases h.head with e | e <;> rw [e] at hp <;> simp [Action.target, Action.silent] at hp
  · have hsent : (s.loop i).head = .energiseSent := h.before.resolve_right hsilent
    have hrelease := hbehind (.inr hsent)
    have hpassive : v.mode ≠ .passive := by
      rw [hmode]
      intro hp
      have hslot := State.not_slot_of_holders (hquiet hp) i
      rw [hsent] at hslot
      cases hslot
    have hplaced : v.placeDiffering i .energise = v.placeRelease i false := by
      simp [State.placeDiffering, hw, hrelease, State.place, hpassive]
    refine Loop.windsDown_of_falling ?_ ?_
    · rw [State.wanted_placeDiffering, hw, hrelease]
    · rw [hplaced]
      exact State.placeRelease_falling false

/-- An echo or a timeout: the head answered or silent, what it counts for, and the placing (R100 to R102). -/
theorem State.Framed.answered {i : Fin 16} {a : Action} {s u v : State} (h : s.Framed)
    (hu : State.Answered i a s u) (hv : u.Settles v) :
    (v.placeDiffering i a).afterHeadEvent.Framed := by
  have hsame := hu.same.trans hv.modes
  have hplaced := (v.placeDiffering_placeStep i a).sameModes
  have hengaged {j : Fin 16} (hj : (u.loop j).engaged = true) : s.Driven j :=
    h.engaged_driven ((hu.same.engaged j).symm.trans hj)
  have harb := (hv.arb _ (fun j hj => .inl (hengaged hj)) (hu.arb h.arb)).placeDiffering i a (.inr rfl)
  have hpassive (hm : s.mode = .passive) : v.placeDiffering i a = v :=
    State.placeDiffering_passive (hsame.mode.trans hm) i a
  refine State.Framed.afterHeadEvent (h.reach (hsame.trans hplaced) ⟨harb.slots, harb.filed, fun j hj => ?_⟩
    fun hm => ?_)
  · by_cases e : j = i
    · subst e
      have hout : (u.loop j).engaged = false := by
        rw [← Bool.not_eq_true]
        exact fun he => hj (hengaged he)
      refine hu.windsDown (h.arb.down j hj) (fun hm => ?_) (hv.head j hout) (hv.wanted j hout) hsame.mode
      obtain ⟨-, -, hh⟩ := h.quiet hm
      exact hh
    · exact harb.down j (not_or.mpr ⟨hj, e⟩)
  · obtain ⟨ho, hw, hh⟩ := h.quiet hm
    have hall (j : Fin 16) : (u.loop j).engaged = false :=
      (hu.same.engaged j).trans (h.out_of_passive hm j)
    obtain ⟨vo, vw⟩ := hv.rest hall
    rw [hpassive hm]
    exact ⟨vo.trans (hu.orders.trans ho), vw.trans (hu.waits.trans hw),
      (hv.holders hall).trans (hu.holders hh)⟩

theorem State.Framed.takeEcho {s : State} (h : s.Framed) {i : Fin 16} {a : Action}
    (haccepts : (s.loop i).accepts a = true) (c : Condition) : (s.takeEcho i a c).Framed := by
  have hbefore : (s.loop i).head = a.sent ∨ (s.loop i).head = a.silent := by
    simpa [Loop.accepts] using haccepts
  have hconfirmed : State.Answered i a s (s.confirm i a) := by
    unfold State.confirm
    exact State.answered_updLoop _ hbefore (.inl rfl) fun _ => rfl
  have hcounted : (s.confirm i a).Settles (s.echoCounted i a) := by
    unfold State.echoCounted
    split
    · exact (State.updLoop_settles _ i Loop.goodEcho fun _ => rfl).trans (State.clearSilent_settles _ i)
    · exact .refl _
  rw [State.takeEcho_eq]
  exact h.answered hconfirmed (hcounted.trans (State.damageBy_settles _ i c))

theorem State.Framed.timeout {s : State} (h : s.Framed) {i : Fin 16} {a : Action}
    (hsent : (s.loop i).head.sentAction = some a) : (s.timeout i a).Framed := by
  have hbefore : (s.loop i).head = a.sent := by
    cases hh : (s.loop i).head <;> rw [hh] at hsent <;> cases hsent <;> rfl
  have hsilent : State.Answered i a s (s.setHead i a.silent) :=
    State.answered_updLoop (x := a.silent) _ (.inl hbefore) (.inr rfl) fun _ => rfl
  have hcounted : (s.setHead i a.silent).Settles (s.timeoutCounted i a) := by
    have hmissed := (s.setHead i a.silent).updLoop_settles i (fun l =>
      { l with echoDue := none, misses := satInc l.misses, goodRun := 0 }) fun _ => rfl
    unfold State.timeoutCounted
    dsimp only
    split
    · exact hmissed.trans (State.addCause_settles _ i _)
    · exact hmissed
  rw [State.timeout_eq]
  exact h.answered hsilent hcounted

/-! ## Head orders on port M (R97, R98, R104) -/

theorem State.Framed.not_passive_of_slot {s : State} (h : s.Framed) {i : Fin 16}
    (hi : (s.loop i).head.holdsSlot = true) : s.mode ≠ .passive := by
  intro hm
  obtain ⟨-, -, hh⟩ := h.quiet hm
  rw [State.not_slot_of_holders hh i] at hi
  cases hi

/-- The head after its order has been sent whole. -/
theorem Loop.WindsDown.sent {l k : Loop} {a : Action} (h : l.WindsDown) (hl : l.head = a.queued)
    (hk : k.head = a.sent) (hwanted : k.wanted = l.wanted) : k.WindsDown := by
  obtain ⟨hnot, -, -, -, hbehind⟩ := h
  rw [Loop.WindsDown, hk, hwanted]
  cases a
  · exact ⟨hnot, by decide, by decide, by decide, by simp [Action.sent]⟩
  · exact ⟨hnot, by decide, by decide, by decide, fun _ => hbehind (.inl hl)⟩

/-- Port M free, and the head of an order sent whole. -/
def State.headSent (s : State) (i : Fin 16) (a : Action) : State :=
  ((s.freeTx .m).setHead i a.sent).updLoop i fun l =>
    { l with echoDue := some (s.now + Config.echoTimeout) }

theorem State.orderSent_eq (s : State) (i : Fin 16) (a : Action) : (s.freeTx .m).orderSent i a =
    match a with
    | .energise => s.headSent i a
    | .release => (s.headSent i a).grantSlot := by cases a <;> rfl

theorem State.headSent_sameModes (s : State) (i : Fin 16) (a : Action) : s.SameModes (s.headSent i a) := by
  have hfreed : s.SameModes (s.freeTx .m) :=
    ⟨rfl, rfl, rfl, rfl, rfl, fun _ => rfl, fun _ _ => rfl, fun _ => id⟩
  exact (hfreed.trans (State.setHead_placeStep _ i a.sent).sameModes).trans
    (State.updLoop_settles _ i (fun l => { l with echoDue := some (s.now + Config.echoTimeout) })
      fun _ => rfl).modes

theorem State.loop_headSent_self (s : State) (i : Fin 16) (a : Action) :
    ((s.headSent i a).loop i).head = a.sent ∧ ((s.headSent i a).loop i).wanted = (s.loop i).wanted := by
  rw [State.headSent, State.loop_updLoop_self, State.loop_setHead, if_pos rfl]
  exact ⟨rfl, rfl⟩

theorem State.loop_headSent_ne {s : State} {i j : Fin 16} (h : j ≠ i) (a : Action) :
    (s.headSent i a).loop j = s.loop j := by
  rw [State.headSent, State.loop_updLoop_ne _ (Ne.symm h), State.loop_setHead_ne h]
  rfl

theorem State.line_headSent (s : State) (i : Fin 16) (a : Action) : (s.headSent i a).line = none := rfl

/-- The docket of an order on the line. -/
theorem State.docket_of_line {s : State} {i : Fin 16} {a : Action} (hs : (s.docket i).Sound)
    (hline : s.line = some (i, a)) : s.docket i = ⟨a.queued, [], [], some a⟩ := by
  have hl : s.lineOf i = some a := State.lineOf_eq_some.mpr hline
  generalize hk : s.docket i = d at hs
  obtain ⟨-, -, -, hd⟩ := State.docket_eq hk
  rw [hl] at hd
  cases hs with
  | onLine b =>
    cases hd
    rfl
  | rest | restWaiting | waiting | listed | away => cases hd

theorem State.Arb.headSent {x : Fin 16 → Prop} {s : State} (h : State.Arb x s) {i : Fin 16} {a : Action}
    (hline : s.line = some (i, a)) : State.Arb x (s.headSent i a) := by
  obtain ⟨hhead, horders, hwaits, -⟩ := State.docket_eq (State.docket_of_line (h.filed i) hline)
  obtain ⟨hsent, hwanted⟩ := s.loop_headSent_self i a
  refine h.placesAt (i := i) ⟨fun j hj => ?_, fun _ => .inl ?_, ?_⟩ rfl
    (fun j hj => by rw [State.loop_headSent_ne hj]) fun hn => (h.down i hn).sent hhead hsent hwanted
  · have hnone : s.lineOf j = none := by
      rw [State.lineOf, hline]
      exact if_neg (Ne.symm hj)
    have hfree : (s.headSent i a).lineOf j = none := by rw [State.lineOf, s.line_headSent]
    simp only [State.docket, State.loop_headSent_ne hj, hnone, hfree]
    rfl
  · rw [hhead, Action.queued_holdsSlot]
  · have hfree : (s.headSent i a).lineOf i = none := by rw [State.lineOf, s.line_headSent]
    have hdocket : (s.headSent i a).docket i = ⟨a.sent, [], [], none⟩ := by
      rw [State.docket, hsent, hfree]
      exact congrArg₂ (fun os ws => Docket.mk a.sent os ws none) horders hwaits
    rw [hdocket]
    cases a
    · exact .away (.inr (.inr (.inr rfl)))
    · exact .away (.inl rfl)

/-- A RELEASE sent whole returns its slot. -/
theorem State.holders_headSent_release {s : State} {i : Fin 16}
    (hslot : (s.loop i).head.holdsSlot = true) : (s.headSent i .release).holders < s.holders := by
  have hothers : (s.headSent i .release).otherHolders i = s.otherHolders i :=
    State.otherHolders_congr fun j hj => by rw [State.loop_headSent_ne hj]
  obtain ⟨hsent, -⟩ := s.loop_headSent_self i .release
  rw [s.holders_eq_add i, (s.headSent i .release).holders_eq_add i, hothers, if_pos hslot, hsent]
  simp [Action.sent, HeadState.holdsSlot]

theorem State.Framed.orderSent {s : State} (h : s.Framed) {i : Fin 16} {a : Action}
    (hline : s.line = some (i, a)) : ((s.freeTx .m).orderSent i a).Framed := by
  obtain ⟨hhead, -⟩ := State.docket_eq (State.docket_of_line (h.arb.filed i) hline)
  have hslot : (s.loop i).head.holdsSlot = true := by rw [hhead, Action.queued_holdsSlot]
  have hmode := h.not_passive_of_slot hslot
  have harb := h.arb.headSent hline
  have hsame := s.headSent_sameModes i a
  rw [State.orderSent_eq]
  cases a
  · refine h.reach (hsame.trans (State.grantSlot_placeStep _).sameModes) (harb.grantSlot ?_)
      fun hp => absurd hp hmode
    rw [hsame.hmax]
    exact (State.holders_headSent_release hslot).trans_le h.arb.slots
  · exact h.reach hsame harb fun hp => absurd hp hmode

theorem State.Framed.completeHeadOrder {s : State} (h : s.Framed) {i : Fin 16} {a : Action} {x : Telegram}
    {o : Bool} (htx : s.portM.tx = some (.headOrder i a x o)) : (s.completeHeadOrder i a o).Framed := by
  unfold State.completeHeadOrder
  cases o
  · have hline : s.line = some (i, a) := State.line_eq_some.mpr ⟨x, htx⟩
    exact (h.orderSent hline).checkHalting.checkWindDown
  · have hnone : s.line = none := by simp only [State.line, htx]
    have hcalm : s.Calm (s.freeTx .m) := ⟨fun _ => rfl, rfl, rfl, rfl, rfl, rfl, rfl, rfl, hnone.symm⟩
    exact (h.settles hcalm.settles).checkHalting.checkWindDown

/-- The oldest order goes on the line: it leaves the list. -/
theorem State.takeHeadOrder_eq {s : State} {o : HeadOrder} {rest : List HeadOrder}
    (ho : s.orders = o :: rest) : s.takeHeadOrder =
      ({ s with orders := rest }.updLoop o.loop fun l => { l with lastAction := some o.action }).transmit
        .m (.headOrder o.loop o.action (s.orderTelegram o) false) := by
  unfold State.takeHeadOrder
  rw [ho]

theorem State.takeHeadOrder_stance {s : State} {o : HeadOrder} {rest : List HeadOrder}
    (ho : s.orders = o :: rest) (j : Fin 16) :
    (s.takeHeadOrder.loop j).stance = (s.loop j).stance := by
  rw [State.takeHeadOrder_eq ho]
  exact (State.setLoop_calm { s with orders := rest } o.loop
    { s.loop o.loop with lastAction := some o.action } rfl).stance j

/-- A queued order goes on the line. -/
theorem State.docket_takeHeadOrder {s : State} {o : HeadOrder} {rest : List HeadOrder}
    (ho : s.orders = o :: rest) (hline : s.line = none) (hs : s.Filed) (j : Fin 16) :
    (s.takeHeadOrder.docket j).Sound := by
  obtain ⟨-, -, hhead, -⟩ := Loop.stance_eq (State.takeHeadOrder_stance ho j)
  have hfields : s.takeHeadOrder.orders = rest ∧ s.takeHeadOrder.waits = s.waits ∧
      s.takeHeadOrder.line = some (o.loop, o.action) := by
    rw [State.takeHeadOrder_eq ho]
    exact ⟨rfl, rfl, rfl⟩
  obtain ⟨horders, hwaits, htaken⟩ := hfields
  have hws : s.takeHeadOrder.waitsOf j = s.waitsOf j := by rw [State.waitsOf, hwaits]; rfl
  have hsound := hs j
  by_cases e : o.loop = j
  · have hos : s.ordersOf j = o.action :: s.takeHeadOrder.ordersOf j := by
      simp [State.ordersOf, ho, horders, e]
    have hl : s.takeHeadOrder.lineOf j = some o.action := by rw [State.lineOf, htaken]; exact if_pos e
    have hd : s.takeHeadOrder.docket j =
        ⟨(s.loop j).head, s.takeHeadOrder.ordersOf j, s.waitsOf j, some o.action⟩ := by
      rw [State.docket, hhead, hws, hl]
    generalize hk : s.docket j = d at hsound
    obtain ⟨hh, horder, hwait, -⟩ := State.docket_eq hk
    rw [hos] at horder
    cases hsound with
    | listed a =>
      obtain ⟨rfl, hrest⟩ := List.cons.inj horder
      rw [hd, hh, hrest, hwait]
      exact .onLine _
    | rest | restWaiting | waiting | onLine | away => cases horder
  · have hos : s.takeHeadOrder.ordersOf j = s.ordersOf j := by
      simp [State.ordersOf, ho, horders, e]
    have hl : s.takeHeadOrder.lineOf j = s.lineOf j := by
      rw [State.lineOf, State.lineOf, htaken, hline]
      exact if_neg e
    rw [State.docket, hhead, hos, hws, hl]
    exact hsound

theorem State.Framed.takeHeadOrder {s : State} (h : s.Framed) (hready : s.headOrderReady = true) :
    s.takeHeadOrder.Framed := by
  simp only [State.headOrderReady, Bool.and_eq_true, Bool.not_eq_true', bne_iff_ne, ne_eq] at hready
  obtain ⟨⟨hfree, hmode⟩, hne⟩ := hready
  cases ho : s.orders with
  | nil => simp [ho] at hne
  | cons o rest =>
    have hline : s.line = none := by
      simp only [State.txFree, State.port, Option.isNone_iff_eq_none] at hfree
      simp only [State.line, hfree]
    have hloop (j : Fin 16) := Loop.stance_eq (State.takeHeadOrder_stance ho j)
    have hfields : s.takeHeadOrder.mode = s.mode ∧ s.takeHeadOrder.t0 = s.t0 ∧
        s.takeHeadOrder.pattern = s.pattern ∧ s.takeHeadOrder.general = s.general := by
      rw [State.takeHeadOrder_eq ho]
      exact ⟨rfl, rfl, rfl, rfl⟩
    obtain ⟨hm, ht0, hp, hg⟩ := hfields
    have hsame : s.SameModes s.takeHeadOrder := by
      refine ⟨hm, ht0, by rw [hp], by rw [hp], by rw [hg], fun j => ?_, fun j _ => (hloop j).1,
        fun j hj => (hloop j).2.1 ▸ hj⟩
      exact Loop.engaged_of_state (hloop j).1
    have hhead (j : Fin 16) : (s.takeHeadOrder.loop j).head = (s.loop j).head := by
      obtain ⟨-, -, hhead, -⟩ := hloop j
      exact hhead
    have hwanted (j : Fin 16) : (s.takeHeadOrder.loop j).wanted = (s.loop j).wanted := by
      obtain ⟨-, -, -, hwanted⟩ := hloop j
      exact hwanted
    refine h.reach hsame ⟨?_, State.docket_takeHeadOrder ho hline h.arb.filed, fun j hj =>
      (h.arb.down j hj).of_eq (hhead j) (hwanted j)⟩ fun hp => absurd hp hmode
    rw [State.holders_congr hhead, hg]
    exact h.arb.slots

/-! ## The on-time and the restart (R93, R104, R147) -/

theorem State.Framed.closePhase {s : State} (h : s.Framed) {i : Fin 16}
    (hopen : (s.loop i).openPhase = true) :
    ((s.updLoop i fun l => { l with openPhase := false }).want i (s.closingAction i) false).Framed := by
  obtain ⟨-, hengaged, -⟩ := h.modes
  have hi := hengaged i hopen
  have hclosed : s.Settles (s.updLoop i fun l => { l with openPhase := false }) :=
    s.setLoop_settles i _ hi hi nofun rfl rfl
  refine h.settles (hclosed.trans (State.want_settles _ i _ false ?_))
  rw [State.loop_updLoop_self]
  exact hi

theorem State.line_restart (s : State) : s.restart.line = none := by
  have htx : s.restart.portM.tx = s.portM.tx.map Transmission.orphaned := rfl
  rw [State.line, htx]
  cases s.portM.tx with
  | none => rfl
  | some x => cases x <;> rfl

theorem State.state_restart (s : State) (i : Fin 16) :
    (s.restart.loop i).state = if (s.loop i).enabled then .standby else .disabled := by
  rw [State.loop_restart]
  rfl

/-- In PASSIVE mode, with nothing wanted, listed or held, the arbiter is sound. -/
theorem State.framed_of_idle {t : State} (hmax : 1 ≤ t.general.hmax) (hmode : t.mode = .passive)
    (ht0 : t.t0 = none) (hstage : t.pattern.stage = .idle) (horders : t.orders = []) (hwaits : t.waits = [])
    (hline : t.line = none) (hloop : ∀ i, (t.loop i).openPhase = false ∧ (t.loop i).head = .idleUnknown ∧
      (t.loop i).wanted = none ∧ ((t.loop i).state = .standby ∨ (t.loop i).state = .disabled)) :
    t.Framed := by
  have hhead (i : Fin 16) : (t.loop i).head = .idleUnknown := by
    obtain ⟨-, hhead, -⟩ := hloop i
    exact hhead
  have hout (i : Fin 16) : (t.loop i).engaged = false ∧ (t.loop i).state ≠ .testing := by
    obtain ⟨-, -, -, hs | hs⟩ := hloop i <;> simp [Loop.engaged, hs]
  have hholders : t.holders = 0 := State.holders_eq_zero fun i => by
    rw [hhead]
    rfl
  refine ⟨hmax, ⟨fun _ i => (hout i).1, fun i hi => ?_, fun _ => hstage, fun _ i => (hout i).2,
    fun hm => ?_, ?_⟩, fun hm => ?_, fun _ => ⟨horders, hwaits, hholders⟩, ?_, fun i => ?_, fun i _ => ?_⟩
  · rw [(hloop i).1] at hi
    cases hi
  · rw [hmode] at hm
    cases hm
  · simp [ht0, hmode]
  · rw [hmode] at hm
    cases hm
  · rw [hholders]
    exact Nat.zero_le _
  · have hd : t.docket i = ⟨.idleUnknown, [], [], none⟩ := by
      rw [State.docket, State.ordersOf, State.waitsOf, State.lineOf, horders, hwaits, hline, hhead]
      rfl
    rw [hd]
    exact .rest (.inl rfl)
  · obtain ⟨-, -, hwanted, -⟩ := hloop i
    simp [Loop.WindsDown, hhead, hwanted]

/-- After a restart nothing is wanted, listed or held (R104). -/
theorem State.restart_framed {s : State} (hmax : 1 ≤ s.general.hmax) : s.restart.Framed := by
  refine State.framed_of_idle hmax rfl rfl rfl rfl rfl s.line_restart fun i => ?_
  obtain ⟨-, -, -, -, -, hopen, hhead, hwanted⟩ := s.loop_restart_cleared i
  refine ⟨hopen, hhead, hwanted, ?_⟩
  rw [State.state_restart]
  cases (s.loop i).enabled
  · exact .inr rfl
  · exact .inl rfl

/-! ## Boundaries (R90, R103) -/

theorem State.ModesConsistent.of_states {s t : State} (hs : s.ModesConsistent) (hmode : t.mode = s.mode)
    (ht0 : t.t0 = s.t0) (hstage : t.pattern.stage = s.pattern.stage)
    (hstate : ∀ j, (t.loop j).state = (s.loop j).state)
    (hopen : ∀ j, (t.loop j).openPhase = true → (t.loop j).engaged = true) : t.ModesConsistent := by
  obtain ⟨hout, -, hidle, htesting, hstandby, hclock⟩ := hs
  refine ⟨fun hm j => ?_, hopen, fun hm => ?_, fun hm j => ?_, fun hm j => ?_, ?_⟩
  · rw [hmode] at hm
    rw [Loop.engaged_of_state (hstate j)]
    exact hout hm j
  · rw [hmode] at hm
    rw [hstage]
    exact hidle hm
  · rw [hmode, hstage] at hm
    rw [hstate]
    exact htesting hm j
  · rw [hmode] at hm
    rw [hstate]
    exact hstandby hm j
  · rw [hmode, ht0]
    exact hclock

/-- A loop in the drive takes another record of its state, its head and its wanted action. -/
theorem State.Framed.rephase {s : State} (h : s.Framed) {i : Fin 16} (hi : (s.loop i).engaged = true)
    (f : Loop → Loop) (hf : ∀ l : Loop, (f l).state = l.state ∧ (f l).head = l.head ∧
      (f l).wanted = l.wanted) : (s.updLoop i f).Framed ∧ (s.updLoop i f).Driven i := by
  have hloop (j : Fin 16) : ((s.updLoop i f).loop j).state = (s.loop j).state ∧
      ((s.updLoop i f).loop j).head = (s.loop j).head ∧
      ((s.updLoop i f).loop j).wanted = (s.loop j).wanted := by
    rw [State.loop_updLoop]
    split
    · rename_i e
      exact e ▸ hf (s.loop i)
    · exact ⟨rfl, rfl, rfl⟩
  obtain ⟨-, hopen, -⟩ := h.modes
  have hstate (j : Fin 16) : ((s.updLoop i f).loop j).state = (s.loop j).state := (hloop j).1
  have hengaged (j : Fin 16) : ((s.updLoop i f).loop j).engaged = (s.loop j).engaged :=
    Loop.engaged_of_state (hstate j)
  have hdrives := h.engaged_drives hi
  have hdriven (j : Fin 16) : (s.updLoop i f).Driven j ↔ s.Driven j := by
    rw [State.Driven, State.Driven, hengaged, hstate]
    exact Iff.rfl
  have harb : State.Arb s.Driven (s.updLoop i f) := by
    refine h.arb.of_same rfl (fun j => ?_) fun j => ?_
    · obtain ⟨-, hhead, -⟩ := hloop j
      exact State.docket_congr hhead rfl rfl rfl
    · obtain ⟨-, -, hwanted⟩ := hloop j
      exact hwanted
  have hmode : (s.updLoop i f).mode = s.mode := rfl
  have hfix : (s.updLoop i f).t0 = s.t0 ∧ (s.updLoop i f).pattern.stage = s.pattern.stage ∧
      (s.updLoop i f).general = s.general := ⟨rfl, rfl, rfl⟩
  have hother {j : Fin 16} (e : i ≠ j) := s.loop_updLoop_ne e f
  generalize s.updLoop i f = u at *
  refine ⟨⟨?_, h.modes.of_states hmode hfix.1 hfix.2.1 hstate fun j hj => ?_, fun hm => ?_, fun hm => ?_,
    harb.mono fun j => (hdriven j).mpr⟩, (hdriven i).mpr (.inl ⟨hdrives, hi⟩)⟩
  · obtain ⟨-, -, hg⟩ := hfix
    rw [hg]
    exact h.hmax
  · by_cases e : i = j
    · rw [hengaged, ← e]
      exact hi
    · rw [hother e] at hj ⊢
      exact hopen j hj
  · exact absurd hdrives (State.not_drives (.inr (hmode ▸ hm)))
  · exact absurd hdrives (State.not_drives (.inl (hmode ▸ hm)))

/-- The phase of a cycle begins at a loop in the drive (R92). -/
theorem State.Framed.phaseStart {s : State} (h : s.Framed) {i : Fin 16} (hi : (s.loop i).engaged = true) :
    (s.phaseStart i).Framed := by
  unfold State.phaseStart
  dsimp only
  obtain ⟨hframed, hdriven⟩ := h.rephase hi (fun l =>
    { l with
      onTime := onTimeOf (s.loop i).activeDuty s.general.cycleLength
      openPhase := decide (0 < onTimeOf (s.loop i).activeDuty s.general.cycleLength)
      openCount := 0
      inCycle := true }) fun _ => ⟨rfl, rfl, rfl⟩
  exact hframed.want hdriven _ true

theorem State.passBoundary_settles (s : State) (i : Fin 16) : s.Settles (s.updLoop i fun l =>
    { l with
      nextBoundary := l.nextBoundary.map (· + s.general.cycleLength), lastBoundary := some s.now }) :=
  s.updLoop_settles i _ fun _ => rfl

theorem State.Framed.activeBoundary {s : State} (h : s.Framed) {i : Fin 16}
    (hi : (s.loop i).engaged = true) : (s.activeBoundary i).Framed := by
  have hworked : s.Settles ((((s.capture i).faultExit i).stateWork i).updLoop i Loop.swap) :=
    ((((s.capture_settles i).trans (State.faultExit_settles _ i)).trans
      (State.stateWork_settles _ i)).trans (State.updLoop_settles _ i Loop.swap Loop.swap_stance))
  refine (h.settles hworked).phaseStart ?_
  rw [hworked.modes.engaged]
  exact hi

/-- The passing of a loop out of the drive, its RELEASE placed (R103). -/
theorem State.Framed.halts {s : State} (h : s.Framed) {i : Fin 16} (hm : s.mode = .halting)
    (hi : (s.loop i).engaged = true) : ((s.want i .release false).updLoop i Loop.halted).Framed := by
  have hdriven := h.engaged_driven hi
  have hwanted : (s.want i .release false).Framed := h.want hdriven .release false
  have hwant := (s.want_placeStep i .release false).sameModes
  have hne : s.mode ≠ .passive := by rw [hm]; decide
  have hreleased : State.Arb (fun j => s.Driven j ∧ j ≠ i) (s.want i .release false) := by
    refine State.Arb.wantRelease (h.arb.mono fun j hj => ?_) hne false
    by_cases e : j = i
    · exact .inr e
    · exact .inl ⟨hj, e⟩
  have hmode := hwant.mode.trans hm
  generalize s.want i .release false = u at *
  obtain ⟨-, -, -, -, -, hopen, hhead, hkept⟩ := (u.loop i).halted_cleared
  have hself : (u.updLoop i Loop.halted).loop i = (u.loop i).halted := State.loop_updLoop_self ..
  have hmove : State.Moves i u (u.updLoop i Loop.halted) := by
    refine ⟨rfl, rfl, rfl, rfl, fun j hj => State.loop_updLoop_ne _ (Ne.symm hj) _, by rw [hmode]; decide,
      hself ▸ hopen, fun hp => ?_, ?_, fun ha => ?_⟩
    · rw [hmode] at hp
      cases hp
    · rw [hself, show (u.loop i).halted.state = .standby from rfl]
      decide
    · rw [hmode] at ha
      cases ha
  have harb : State.Arb (fun j => s.Driven j ∧ j ≠ i) (u.updLoop i Loop.halted) := by
    refine hreleased.of_same rfl (fun j => u.updLoop_docket i Loop.halted j hhead) fun j => ?_
    rw [State.loop_updLoop]
    split
    · rename_i e
      rw [← e, hkept]
    · rfl
  refine hwanted.moves hmove (harb.mono fun j hj => ?_) fun hp => ?_
  · exact (hmove.driven hj.2).mpr ((hwant.driven j).mpr hj.1)
  · rw [hmode] at hp
    cases hp

theorem State.Framed.haltingBoundary {s : State} (h : s.Framed) {i : Fin 16} (hm : s.mode = .halting)
    (hi : (s.loop i).engaged = true) : (s.haltingBoundary i).Framed := by
  have hworked : s.Settles ((s.capture i).haltingWork i) :=
    (s.capture_settles i).trans (State.haltingWork_settles _ i)
  rw [State.haltingBoundary_eq]
  exact State.Framed.checkHalting (((h.settles hworked).halts (hworked.modes.mode.trans hm)
    ((hworked.modes.engaged i).trans hi)).settles (State.recompute_settles _))

theorem State.Framed.boundary {s : State} (h : s.Framed) {i : Fin 16} (hdue : s.boundaryDue i = true) :
    (s.boundary i).Framed := by
  simp only [State.boundaryDue, Bool.and_eq_true] at hdue
  obtain ⟨⟨-, hi⟩, -⟩ := hdue
  have hpassed := s.passBoundary_settles i
  have hframed := h.settles hpassed
  have hengaged := (hpassed.modes.engaged i).trans hi
  unfold State.boundary
  dsimp only
  split
  · rename_i hm
    exact hframed.haltingBoundary hm hengaged
  · exact hframed.activeBoundary hengaged

/-! ## Every work -/

theorem State.Framed.work {s t : State} (h : s.Framed) (hw : s.Work t) : t.Framed := by
  cases hw with
  | quiet hq => exact h.settles hq.settles
  | caused i c => exact h.settles (s.addCause_settles i c)
  | reshaped hs => exact h.settles (hs.calm.settles.trans (State.recompute_settles _))
  | retuned f hm hmax =>
    obtain ⟨ho, hw, hh⟩ := h.quiet hm
    refine ⟨hmax h.hmax, h.modes, h.subject, fun _ => ⟨ho, hw, hh⟩, ?_, h.arb.filed, h.arb.down⟩
    exact hh.le.trans (Nat.zero_le _)
  | joined i hfails => exact (h.joined hfails).settles (State.recompute_settles _)
  | disabled i hm => exact h.disable hm
  | started hm => exact h.start hm
  | halted hm => exact h.beginHalting hm
  | identified k n d hm hk => exact h.startIdentify hm k hk n d
  | swept d r hm => exact h.startSweep hm d r
  | ended e hst => exact h.endPattern hst e
  | staged st k a hst hbusy hk =>
    have hm := h.test_of_busy hbusy
    refine h.driveStage hm hst (hk.elim (fun hsub => ?_) id) a
    exact h.subject hm hbusy.1 hbusy.2 k hsub
  | echoed i a c haccepts => exact h.takeEcho haccepts c
  | timedOut i a hsent => exact h.timeout hsent
  | orderSent i a x o htx => exact h.completeHeadOrder htx
  | onTimeOver i hopen => exact h.closePhase hopen
  | restarted => exact State.restart_framed h.hmax

/-- A part at power-on is sound, whatever its straps and the commands that wait. -/
theorem State.reset_framed (b : BitVec 3) (q : List Instr) :
    State.Framed { State.reset with strap := b, pending := q } := by
  have hmax : 1 ≤ State.reset.general.hmax := by decide
  refine State.framed_of_idle hmax rfl rfl rfl rfl rfl rfl fun i => ?_
  obtain ⟨-, -, -, -, -, hstate, hopen, hhead, hwanted⟩ := State.reset_loop_cleared i
  exact ⟨hopen, hhead, hwanted, .inr hstate⟩

/-- The soundness of the head arbiter is a law of the part. -/
theorem State.framed_law : State.Law fun s => True ∧ s.Framed :=
  State.law_of_works State.law_true State.reset_framed (fun _ _ h hw => h.work hw)
    (fun _ h hready => h.takeHeadOrder hready) fun _ _ _ h hdue => h.boundary hdue

/-- Settles O58: `State.Framed`, which is `State.ArbiterSound`, is a law. -/
theorem headArbiterStaysSound : Obligations.HeadArbiterStaysSound := fun s t h hstep =>
  (t.arbiterSound_iff).mpr (State.framed_law.step ⟨trivial, (s.arbiterSound_iff).mp h⟩ hstep).2

/-- Settles O59: the values of power-on, law by law. -/
theorem resetSatisfiesEveryLaw : Obligations.ResetSatisfiesEveryLaw := by
  obtain ⟨hgrants, hflow, -⟩ := State.reset_metered
  obtain ⟨hidle, hshed⟩ := State.reset_dutiless
  exact ⟨State.reset_configInRange, State.reset_temperaturesInRange, State.reset_queuesBounded,
    State.reset_tablesRelated, hgrants, hflow, hidle, hshed,
    (State.reset.arbiterSound_iff).mpr (State.reset_framed 0 [])⟩

/-! ## No head order in PASSIVE mode (R142) -/

/-- A head order on port M in t was there in s, but for the mark a restart leaves on it. -/
def State.CableKept (s t : State) : Prop :=
  ∀ i a x o, t.portM.tx = some (.headOrder i a x o) → ∃ o', s.portM.tx = some (.headOrder i a x o')

theorem State.CableKept.refl (s : State) : s.CableKept s := fun _ _ _ _ h => ⟨_, h⟩

theorem State.CableKept.trans {s t u : State} (h : s.CableKept t) (g : t.CableKept u) : s.CableKept u := by
  intro i a x o hu
  obtain ⟨o', ht⟩ := g i a x o hu
  exact h i a x o' ht

theorem State.cableKept_of_eq {s t : State} (h : t.portM = s.portM) : s.CableKept t :=
  fun _ _ _ o hx => ⟨o, h ▸ hx⟩

theorem State.SameRun.cableKept {s t : State} (h : s.SameRun t) : s.CableKept t := fun _ _ _ o ht =>
  ⟨o, State.cable_eq_some.mp (h.cable ▸ State.cable_eq_some.mpr ht)⟩

theorem State.DriveStep.cableKept {s t : State} (h : s.DriveStep t) : s.CableKept t :=
  State.cableKept_of_eq h.portM

theorem State.PlaceStep.cableKept {s t : State} (h : s.PlaceStep t) : s.CableKept t :=
  State.cableKept_of_eq h.portM

theorem State.portM_checkHalting (s : State) : s.checkHalting.portM = s.portM := by
  unfold State.checkHalting
  split <;> rfl

theorem State.portM_checkWindDown (s : State) : s.checkWindDown.portM = s.portM := by
  unfold State.checkWindDown
  split <;> rfl

theorem State.portM_patternSettle (s : State) : s.patternSettle.portM = s.portM := by
  rcases s.patternSettle_stage with e | ⟨-, st, n, -, e⟩ <;> rw [e]
  rfl

theorem State.portM_afterHeadEvent (s : State) : s.afterHeadEvent.portM = s.portM := by
  rw [State.afterHeadEvent, State.portM_checkWindDown, State.portM_checkHalting, State.portM_patternSettle]

theorem State.portM_driveStage (s : State) (st : Stage) (k : Fin 16) (a : Action) :
    (s.driveStage st k a).portM = s.portM := by
  rw [State.driveStage, State.portM_patternSettle, (State.want_placeStep _ k a false).portM]
  rfl

theorem State.portM_enterTest (s : State) : s.enterTest.portM = s.portM := by
  rw [State.enterTest_eq]
  exact s.portM_mapLoops fun _ => Loop.tested

theorem State.portM_endPattern (s : State) (e : Ending) : (s.endPattern e).portM = s.portM := by
  have hreleased := (State.wantAll_placeStep
    { s with pattern := { s.pattern with intervalDue := none } } (fun _ _ => .release) s.testingLoops).portM
  rw [State.endPattern_eq, State.portM_checkWindDown]
  dsimp only at hreleased ⊢
  rw [State.portM_mapLoops, hreleased]

theorem State.portM_startIdentify (s : State) (k : Fin 16) (n d : Nat) :
    (s.startIdentify k n d).portM = s.portM := by
  rw [State.startIdentify, State.portM_driveStage]
  exact s.portM_enterTest

theorem State.portM_startSweep (s : State) (d r : Nat) : (s.startSweep d r).portM = s.portM := by
  have henter := s.portM_enterTest
  unfold State.startSweep
  generalize s.enterTest = u at *
  rw [State.portM_patternSettle, (State.wantAll_placeStep _ State.closingAction _).portM]
  exact henter

theorem State.portM_startPlaced (s : State) : s.startPlaced.portM = s.startCauses.portM := by
  rw [State.startPlaced, State.portM_mapLoops]

theorem State.portM_takeEcho (s : State) (i : Fin 16) (a : Action) (c : Condition) :
    (s.takeEcho i a c).portM = s.portM := by
  have hcounted : s.DriveStep (s.echoCounted i a) := by
    unfold State.echoCounted
    split
    · exact ((s.confirm_driveStep i a).trans
        (State.updLoop_driveStep _ i _ Loop.goodEcho_sameSettings)).trans (State.clearSilent_driveStep _ i)
    · exact s.confirm_driveStep i a
  rw [State.takeEcho_eq, State.portM_afterHeadEvent]
  exact ((hcounted.trans (State.damageBy_driveStep _ i c)).trans
    (State.placeDiffering_driveStep _ i a)).portM

theorem State.portM_timeout (s : State) (i : Fin 16) (a : Action) : (s.timeout i a).portM = s.portM := by
  rw [State.timeout_eq, State.portM_afterHeadEvent, (State.placeDiffering_driveStep _ i a).portM]
  unfold State.timeoutCounted
  dsimp only
  split
  · exact (State.addCause_driveStep _ i _).portM
  · rfl

theorem State.portM_disable (s : State) (i : Fin 16) : (s.disable i).portM = s.portM := by
  have hcleared : (s.cleared i).portM = s.portM := (s.leaveWaitsAtDisable_driveStep i).portM
  have hrecomputed : (if (s.loop i).engaged then (s.cleared i).recompute else s.cleared i).portM =
      s.portM := by
    split
    · exact (State.recompute_driveStep _).portM.trans hcleared
    · exact hcleared
  rw [State.disable_eq]
  split
  · exact (State.want_placeStep _ i _ false).portM.trans hrecomputed
  · exact hrecomputed

theorem State.portM_boundary (s : State) (i : Fin 16) : (s.boundary i).portM = s.portM := by
  have hhalting (u : State) : (u.haltingBoundary i).portM = u.portM := by
    have hwanted := (u.haltingWanted_driveStep i).portM
    rw [State.haltingBoundary_eq, State.portM_checkHalting, (State.recompute_driveStep _).portM]
    generalize u.haltingWanted i = v at *
    exact hwanted
  unfold State.boundary
  dsimp only
  split
  · exact hhalting _
  · exact (State.activeBoundary_driveStep _ i).portM

/-- A completion leaves port M free. -/
theorem State.tx_completeHeadOrder (s : State) (i : Fin 16) (a : Action) (o : Bool) :
    (s.completeHeadOrder i a o).portM.tx = none := by
  unfold State.completeHeadOrder
  dsimp only
  rw [State.portM_checkWindDown, State.portM_checkHalting]
  split
  · rfl
  · exact congrArg Port.tx (State.orderSent_driveStep (s.freeTx .m) i a).portM

theorem State.Work.cableKept {s t : State} (h : s.Work t) : s.CableKept t := by
  cases h with
  | quiet hq => exact hq.toSameRun.cableKept
  | caused i c => exact (s.addCause_driveStep i c).cableKept
  | reshaped hs => exact hs.cableKept.trans (State.recompute_driveStep _).cableKept
  | retuned f hm hmax => exact State.cableKept_of_eq rfl
  | joined i hfails =>
    have hjoined : s.CableKept (s.joined i) := State.cableKept_of_eq rfl
    exact hjoined.trans (State.recompute_driveStep _).cableKept
  | disabled i hm => exact State.cableKept_of_eq (s.portM_disable i)
  | started hm =>
    rw [State.start_eq]
    have hcauses : s.CableKept s.startCauses := s.startCauses_quiet.toSameRun.cableKept
    exact (hcauses.trans (State.cableKept_of_eq s.portM_startPlaced)).trans
      (State.recompute_driveStep _).cableKept
  | halted hm => exact State.cableKept_of_eq (State.portM_checkHalting _)
  | identified k n d hm hk => exact State.cableKept_of_eq (s.portM_startIdentify k n d)
  | swept d r hm => exact State.cableKept_of_eq (s.portM_startSweep d r)
  | ended e hst => exact State.cableKept_of_eq (s.portM_endPattern e)
  | staged st k a hst hbusy hk => exact State.cableKept_of_eq (s.portM_driveStage st k a)
  | echoed i a c haccepts => exact State.cableKept_of_eq (s.portM_takeEcho i a c)
  | timedOut i a hsent => exact State.cableKept_of_eq (s.portM_timeout i a)
  | orderSent i a x o htx =>
    intro j b y q ht
    rw [State.tx_completeHeadOrder] at ht
    cases ht
  | onTimeOver i hopen => exact State.cableKept_of_eq (State.want_placeStep _ i _ false).portM
  | restarted =>
    intro i a x o ht
    have htx : s.restart.portM.tx = s.portM.tx.map Transmission.orphaned := rfl
    rw [htx, Option.map_eq_some_iff] at ht
    obtain ⟨y, hy, hx⟩ := ht
    cases y <;> cases hx
    exact ⟨_, hy⟩

theorem State.cableKept_of_chain {r : State → State → Prop} (hr : ∀ s t, r s t → State.CableKept s t)
    {s t : State} (h : Relation.ReflTransGen r s t) : s.CableKept t := by
  induction h with
  | refl => exact .refl s
  | tail _ hstep ih => exact ih.trans (hr _ _ hstep)

theorem State.Event.cableKept {s t : State} (h : s.Event t) : s.CableKept t := by
  rcases h.works with ⟨i, -, rfl⟩ | hworks
  · exact State.cableKept_of_eq (s.portM_boundary i)
  · exact State.cableKept_of_chain (fun _ _ hw => hw.cableKept) hworks

/-- In PASSIVE mode no head order begins (R142). -/
theorem State.Begun.passive {s t : State} (h : s.Begun t) (hm : s.mode = .passive) :
    t.mode = .passive ∧ s.CableKept t := by
  rcases h.quiet_or_order with hq | ⟨hready, -⟩
  · exact ⟨hq.mode.trans hm, hq.toSameRun.cableKept⟩
  · simp [State.headOrderReady, hm] at hready

theorem State.beginAll_passive {s : State} (hm : s.mode = .passive) :
    s.beginAll.mode = .passive ∧ s.CableKept s.beginAll :=
  State.beginAll_keep (P := fun t => t.mode = .passive ∧ s.CableKept t)
    (fun _ _ ⟨hm, hk⟩ hb => ⟨(hb.passive hm).1, hk.trans (hb.passive hm).2⟩) ⟨hm, .refl s⟩

theorem exec_cableKept {c : Instr} {s t : State} (hm : s.mode = .passive) (he : exec c s = .next t) :
    s.CableKept t := by
  by_cases hp : ∃ b, c = .powerOn b
  · obtain ⟨b, rfl⟩ := hp
    cases he
    exact fun _ _ _ _ hx => nomatch hx
  · cases hb : isBeginning c
    · obtain ⟨u, hu, hevents⟩ := exec_events c s (fun b e => hp ⟨b, e⟩) hb
      obtain rfl : t = u := by rw [he] at hu; injection hu
      exact (State.beginAll_passive hm).2.trans
        (State.cableKept_of_chain (fun _ _ hev => hev.cableKept) hevents)
    · cases c <;> simp only [isBeginning, Bool.false_eq_true] at hb <;> cases he
      · exact (State.Begun.passive (.transmission ..) hm).2
      · exact (State.Begun.passive (.headOrder _) hm).2
      · exact (State.Begun.passive (.notice _) hm).2

/-- Settles O60: beginnings in PASSIVE mode take no head order, and no event begins one. -/
theorem noHeadOrderInPassive : Obligations.NoHeadOrderInPassive := by
  intro s t i a x o hm he
  suffices h : s.CableKept t from h i a x o
  unfold Machine.step at he
  split at he
  · cases he
    unfold State.idle
    split
    · exact (State.beginAll_passive hm).2
    · split
      · exact .refl s
      · refine State.cableKept_of_eq ?_
        exact s.portM_mapLoops fun i l => l.countOpen (s.openState i)
  · rename_i c rest hpending
    exact exec_cableKept (s := { s with pending := rest }) hm he

end Sys2Proof.Machine
end

section
/-! PROOFS. What a write holds and what reads it back (R145, R159): `State.readTarget` is the value that the
target of a write holds, and `Reply.Holds` says what each write does with it. -/

namespace Sys2Proof.Machine

open Sys2Proof

/-! ## The value at a target -/

/-- The value held at what a write aims at. -/
def State.readTarget (s : State) (target : WriteTarget) (index : Nat) : Int :=
  match target with
  | .readOnly => absentCode
  | .general .cycleLength => s.readGeneral 1
  | .general .hmax => s.readGeneral 2
  | .general .fdef => s.readGeneral 3
  | .general .defrostShedLevel => s.readGeneral 4
  | .general .probeStaleTime => s.readGeneral 5
  | .general .faultStaleTime => s.readGeneral 6
  | .general .roomStaleTime => s.readGeneral 7
  | .general .supplyStaleTime => s.readGeneral 8
  | .general .supplySource => s.readGeneral 9
  | .general (.overflowPolicy .h) => s.readGeneral 10
  | .general (.overflowPolicy .m) => s.readGeneral 11
  | .general (.directionDefault .h) => s.readGeneral 12
  | .general (.directionDefault .m) => s.readGeneral 13
  | .general .noticeAddress => s.readGeneral 14
  | .general .manualShedLevel => s.readGeneral 15
  | .loopRoom => s.readLoop (Fin.ofNat 16 index) 1
  | .loopStatic .driverAddress => s.readLoop (Fin.ofNat 16 index) 2
  | .loopStatic .headChannel => s.readLoop (Fin.ofNat 16 index) 3
  | .loopStatic .profile => s.readLoop (Fin.ofNat 16 index) 4
  | .loopStatic .floorClass => s.readLoop (Fin.ofNat 16 index) 5
  | .loopStatic .weight => s.readLoop (Fin.ofNat 16 index) 6
  | .loopStatic .phase => s.readLoop (Fin.ofNat 16 index) 7
  | .share .smin => s.readLoop (Fin.ofNat 16 index) 8
  | .share .smax => s.readLoop (Fin.ofNat 16 index) 9
  | .loopStatic .fallbackDuty => s.readLoop (Fin.ofNat 16 index) 10
  | .priority .level => s.readLoop (Fin.ofNat 16 index) 11
  | .priority .group => s.readLoop (Fin.ofNat 16 index) 12
  | .share .share => s.readLoop (Fin.ofNat 16 index) 13
  | .unitAddress => s.readRoom (Fin.ofNat 12 index) 1
  | .room .demandSource => s.readRoom (Fin.ofNat 12 index) 2
  | .room .band => s.readRoom (Fin.ofNat 12 index) 3
  | .room .setback => s.readRoom (Fin.ofNat 12 index) 4
  | .room .setpointMin => s.readRoom (Fin.ofNat 12 index) 5
  | .room .setpointMax => s.readRoom (Fin.ofNat 12 index) 6
  | .room .fallbackDemand => s.readRoom (Fin.ofNat 12 index) 7
  | .probeValid => s.readProbe (Fin.ofNat 32 index) 1
  | .probe .moduleAddress => s.readProbe (Fin.ofNat 32 index) 2
  | .probe .channel => s.readProbe (Fin.ofNat 32 index) 3
  | .probe .role => s.readProbe (Fin.ofNat 32 index) 4
  | .probe .loop => s.readProbe (Fin.ofNat 32 index) 5
  | .probe .trim => s.readProbe (Fin.ofNat 32 index) 6
  | .probe .depth => s.readProbe (Fin.ofNat 32 index) 7
  | .rule .valid => s.readRule (Fin.ofNat 24 index) 1
  | .rule .direction => s.readRule (Fin.ofNat 24 index) 2
  | .rule .kind => s.readRule (Fin.ofNat 24 index) 3
  | .rule .source => s.readRule (Fin.ofNat 24 index) 4
  | .rule .destination => s.readRule (Fin.ofNat 24 index) 5
  | .rule .selector => s.readRule (Fin.ofNat 24 index) 6
  | .rule .action => s.readRule (Fin.ofNat 24 index) 7
  | .rule .count => s.readRule (Fin.ofNat 24 index) 8
  | .hits => s.readRule (Fin.ofNat 24 index) 9
  | .floorClass .target => s.readClass (Fin.ofNat 4 index) 1
  | .floorClass .gain => s.readClass (Fin.ofNat 4 index) 2
  | .floorClass .limit => s.readClass (Fin.ofNat 4 index) 3
  | .profile .polarity => s.readProfile (Fin.ofNat 4 index) 1
  | .profile .opening => s.readProfile (Fin.ofNat 4 index) 2
  | .profile .closing => s.readProfile (Fin.ofNat 4 index) 3
  | .counter .forwarded => s.readCounter index 1
  | .counter .damaged => s.readCounter index 2
  | .counter .consecutiveDamaged => s.readCounter index 3
  | .counter .overflow => s.readCounter index 4
  | .counter .malformed => s.readCounter index 5
  | .counter .strayEcho => s.readCounter index 6
  | .counter .unmatched => s.readCounter index 7
  | .counter (.rejected entry) => (s.probe (Fin.ofNat 32 entry)).rejected

/-- A field that can be written is read at its target. -/
theorem State.readValue_eq_readTarget (s : State) (t : TableId) (index field : Nat)
    (h : writeTarget t field ≠ .readOnly) :
    s.readValue t index field = s.readTarget (writeTarget t field) index := by
  cases t
  case sweepResults => exact absurd rfl h
  case counters =>
    simp only [writeTarget, counterField] at h ⊢
    split at h <;> simp only [State.readValue, State.readTarget]
    split at h
    · rename_i hw
      rw [if_pos hw]
      unfold State.readCounter
      split <;> simp_all
    · exact absurd rfl h
  case general =>
    simp only [writeTarget, generalField] at h ⊢
    split at h <;> simp at h ⊢ <;> rfl
  case loops =>
    simp only [writeTarget, loopField] at h ⊢
    split at h <;> simp at h ⊢ <;> rfl
  case rooms =>
    simp only [writeTarget, roomField] at h ⊢
    split at h <;> simp at h ⊢ <;> rfl
  case probes =>
    simp only [writeTarget, probeField] at h ⊢
    split at h <;> simp at h ⊢ <;> rfl
  case rules =>
    simp only [writeTarget, ruleField] at h ⊢
    split at h <;> simp at h ⊢ <;> rfl
  case classes =>
    simp only [writeTarget, classField] at h ⊢
    split at h <;> simp at h ⊢ <;> rfl
  case profiles =>
    simp only [writeTarget, profileField] at h ⊢
    split at h <;> simp at h ⊢ <;> rfl

/-! ## Replies that hold what is read -/

/-- A reply that refuses: neither DONE, nor CLAMPED, nor LOCKED. -/
def AnswerCode.refuses (o : AnswerCode) : Prop := o ≠ .done ∧ o ≠ .clamped ∧ o ≠ .locked

/-- The reply refuses on s, or it is DONE or CLAMPED with the value that is read of the part. -/
def Reply.Holds (r : Reply) (s : State) (read : State → Int) : Prop :=
  (∃ o, o.refuses ∧ r = Reply.plain s o) ∨
    ((r.outcome = .done ∨ r.outcome = .clamped) ∧ r.content = valueBytes (read r.part))

theorem Reply.holds_plain (s : State) (read : State → Int) {o : AnswerCode} (ho : o.refuses) :
    (Reply.plain s o).Holds s read := .inl ⟨o, ho, rfl⟩

theorem Reply.holds_held {s u : State} {read : State → Int} (c : Bool) {w : Int} (hw : read u = w) :
    (Reply.held u c w).Holds s read := by
  refine .inr ⟨?_, by rw [Reply.content_held, Reply.part_held, hw]⟩
  cases c
  · exact .inl rfl
  · exact .inr rfl

theorem AnswerCode.refuses_unknown : AnswerCode.unknown.refuses := by simp [AnswerCode.refuses]
theorem AnswerCode.refuses_range : AnswerCode.range.refuses := by simp [AnswerCode.refuses]
theorem AnswerCode.refuses_static : AnswerCode.static.refuses := by simp [AnswerCode.refuses]
theorem AnswerCode.refuses_state : AnswerCode.state.refuses := by simp [AnswerCode.refuses]
theorem AnswerCode.refuses_busy : AnswerCode.busy.refuses := by simp [AnswerCode.refuses]
theorem AnswerCode.refuses_conflict : AnswerCode.conflict.refuses := by simp [AnswerCode.refuses]

section writes

variable {read : State → Int}

theorem withIndex_holds {n index : Nat} {s : State} {body : Fin n → State → Reply}
    (h : ∀ i : Fin n, i.val = index → (body i s).Holds s read) : (withIndex n index s body).Holds s read := by
  rcases withIndex_cases index s body with ⟨-, e⟩ | ⟨i, hi, e⟩ <;> rw [e]
  · exact Reply.holds_plain s read AnswerCode.refuses_range
  · exact h i hi

/-! ### GENERAL -/

theorem State.tuneGeneral_holds {s : State} {w : Nat} {v : Int} {f : General → General}
    (h : read (s.updGeneral f) = w) : (s.tuneGeneral w v f).Holds s read := by
  unfold State.tuneGeneral
  split
  · exact Reply.holds_plain s read AnswerCode.refuses_static
  · exact Reply.holds_held _ h

theorem State.storeGeneral_holds {s : State} {hi v : Int} {f : General → General}
    (h : 0 ≤ v → v ≤ hi → read (s.updGeneral f) = v) : (s.storeGeneral hi v f).Holds s read := by
  unfold State.storeGeneral
  split
  · exact Reply.holds_plain s read AnswerCode.refuses_static
  · split
    · exact Reply.holds_plain s read AnswerCode.refuses_range
    · rename_i hv
      exact Reply.holds_held _ (h (by omega) (by omega))

/-- A reply whose part goes on, the value read kept. -/
theorem Reply.Holds.next {r : Reply} {s : State} (h : r.Holds s read) {t : State}
    (ht : read t = read r.part) (hne : r.outcome = .done ∨ r.outcome = .clamped) :
    Reply.Holds { r with part := t } s read := by
  rcases h with ⟨o, ⟨hdone, hclamped, -⟩, rfl⟩ | ⟨ho, hc⟩
  · exact absurd hne (not_or.mpr ⟨hdone, hclamped⟩)
  · exact .inr ⟨ho, by rw [ht]; exact hc⟩

theorem State.tuneGeneral_taken {s : State} (hm : s.mode = .passive) (w : Nat) (v : Int)
    (f : General → General) : (s.tuneGeneral w v f).outcome = .done ∨
      (s.tuneGeneral w v f).outcome = .clamped := by
  rw [State.tuneGeneral, if_neg (not_not.mpr hm), Reply.outcome_held]
  split
  · exact .inr rfl
  · exact .inl rfl

theorem State.general_staleProbes (s : State) : s.staleProbes.general = s.general := by
  have hstep (u : State) (e : Fin 32) :
      (if u.probeStaleDue e then u.probeStale e else u).general = u.general := by
    split
    · unfold State.probeStale
      dsimp only
      split <;> rfl
    · rfl
  unfold State.staleProbes
  induction probeIds generalizing s with
  | nil => rfl
  | cons e es ih => exact (ih _).trans (hstep s e)

theorem State.general_staleRooms (s : State) : s.staleRooms.general = s.general := by
  have hstep (u : State) (r : Fin 12) :
      (if u.roomStaleDue r then u.roomStale r else u).general = u.general := by
    split <;> rfl
  unfold State.staleRooms
  induction roomIds generalizing s with
  | nil => rfl
  | cons r rs ih => exact (ih _).trans (hstep s r)

theorem State.general_evaluateProbes (s : State) :
    (loopIds.foldl State.evaluateProbe s).general = s.general :=
  (State.foldl_driveStep State.evaluateProbe loopIds State.evaluateProbe_driveStep s).general

theorem State.general_supplyStale (s : State) : s.supplyStale.general = s.general := by
  unfold State.supplyStale
  exact (State.recompute_driveStep _).general

theorem OverflowPolicy.code_ofValue {v : Int} (hlo : 0 ≤ v) (hhi : v ≤ 1) :
    (((OverflowPolicy.ofValue v).getD .discardNew).code : Int) = v := by
  obtain rfl | rfl : v = 0 ∨ v = 1 := by omega
  all_goals rfl

theorem FilterAction.code_ofValue {v : Int} (hlo : 0 ≤ v) (hhi : v ≤ 3) :
    (((FilterAction.ofValue v).getD .pass).code : Int) = v := by
  obtain rfl | rfl | rfl | rfl : v = 0 ∨ v = 1 ∨ v = 2 ∨ v = 3 := by omega
  all_goals rfl

theorem State.writeGeneral_holds (s : State) (field : GeneralField) (v : Int) (index : Nat) :
    (s.writeGeneral field v).Holds s fun u => u.readTarget (.general field) index := by
  have htuned (w : Nat) (f : General → General)
      (h : (s.updGeneral f).readTarget (.general field) index = w) :
      (s.tuneGeneral w v f).Holds s fun u => u.readTarget (.general field) index :=
    State.tuneGeneral_holds h
  cases field
  case cycleLength | hmax | defrostShedLevel => exact htuned _ _ rfl
  case fdef =>
    simp only [State.writeGeneral, State.writeFdef]
    split
    · rename_i hm
      exact (htuned _ _ rfl).next rfl (State.tuneGeneral_taken hm.1 _ _ _)
    · exact htuned _ _ rfl
  case probeStaleTime =>
    simp only [State.writeGeneral, State.writeProbeStaleTime]
    split
    · rename_i hm
      refine Reply.Holds.next (htuned _ _ ?_) ?_ (State.tuneGeneral_taken hm _ _ _)
      · rfl
      simp only [State.readTarget, State.readGeneral, State.general_staleProbes]
    · exact htuned _ _ rfl
  case faultStaleTime =>
    simp only [State.writeGeneral, State.writeFaultStaleTime]
    split
    · rename_i hm
      refine Reply.Holds.next (htuned _ _ ?_) ?_ (State.tuneGeneral_taken hm _ _ _)
      · rfl
      simp only [State.readTarget, State.readGeneral, State.general_evaluateProbes]
      rfl
    · exact htuned _ _ rfl
  case roomStaleTime =>
    simp only [State.writeGeneral, State.writeRoomStaleTime]
    split
    · rename_i hm
      refine Reply.Holds.next (htuned _ _ ?_) ?_ (State.tuneGeneral_taken hm _ _ _)
      · rfl
      simp only [State.readTarget, State.readGeneral, State.general_staleRooms]
    · exact htuned _ _ rfl
  case supplyStaleTime =>
    simp only [State.writeGeneral, State.writeSupplyStaleTime]
    split
    · rename_i hm
      refine Reply.Holds.next (htuned _ _ ?_) ?_ (State.tuneGeneral_taken hm _ _ _)
      · rfl
      simp only [State.readTarget, State.readGeneral]
      split
      · rw [State.general_supplyStale]
        rfl
      · rfl
    · exact htuned _ _ rfl
  case manualShedLevel =>
    refine Reply.holds_held _ ?_
    simp only [State.readTarget, State.readGeneral, (State.recompute_driveStep _).general]
    rfl
  case supplySource | noticeAddress =>
    exact State.storeGeneral_holds fun hlo _ => Int.toNat_of_nonneg hlo
  case overflowPolicy p =>
    cases p <;> exact State.storeGeneral_holds fun hlo hhi => OverflowPolicy.code_ofValue hlo hhi
  case directionDefault p =>
    cases p <;> exact State.storeGeneral_holds fun hlo hhi => FilterAction.code_ofValue hlo hhi

/-! ### Loops -/

theorem State.storeLoop_holds {s : State} {i : Fin 16} {hi v : Int} {f : Loop → Nat → Loop}
    (h : 0 ≤ v → v ≤ hi → read (s.updLoop i fun l => f l v.toNat) = v) :
    (s.storeLoop i hi v f).Holds s read := by
  unfold State.storeLoop
  split
  · exact Reply.holds_plain s read AnswerCode.refuses_range
  · rename_i hv
    exact Reply.holds_held _ (h (by omega) (by omega))

theorem State.storeHeadBinding_holds {s : State} {i : Fin 16} {hi v : Int} {f : Loop → Nat → Loop}
    (h : 0 ≤ v → read (s.updLoop i fun l => f l v.toNat) = v) :
    (s.storeHeadBinding i hi v f).Holds s read := by
  unfold State.storeHeadBinding
  split
  · exact Reply.holds_plain s read AnswerCode.refuses_range
  · split
    · exact Reply.holds_plain s read AnswerCode.refuses_busy
    · exact Reply.holds_held _ (h (by omega))

theorem State.writeLoopStatic_holds (s : State) (field : LoopStaticField) (v : Int) (i : Fin 16) :
    (s.writeLoopStatic field v i).Holds s fun u => u.readTarget (.loopStatic field) i.val := by
  unfold State.writeLoopStatic
  split
  · exact Reply.holds_plain s _ AnswerCode.refuses_static
  · cases field
    case driverAddress | headChannel =>
      refine State.storeHeadBinding_holds fun hlo => ?_
      simp only [State.readTarget, Fin.ofNat_val_eq_self, State.readLoop, State.loop_updLoop_self]
      exact Int.toNat_of_nonneg hlo
    case profile | floorClass =>
      refine State.storeLoop_holds fun hlo hhi => ?_
      simp only [State.readTarget, Fin.ofNat_val_eq_self, State.readLoop, State.loop_updLoop_self, Fin.val_ofNat]
      omega
    all_goals
      refine Reply.holds_held _ ?_
      simp only [State.readTarget, Fin.ofNat_val_eq_self, State.readLoop, State.loop_updLoop_self]

theorem State.writeLoopRoom_holds (s : State) (v : Int) (i : Fin 16) :
    (s.writeLoopRoom v i).Holds s fun u => u.readTarget .loopRoom i.val := by
  unfold State.writeLoopRoom
  dsimp only
  split
  · exact Reply.holds_plain s _ AnswerCode.refuses_static
  · split
    · rename_i hv
      refine Reply.holds_held _ ?_
      simp only [State.readTarget, Fin.ofNat_val_eq_self, State.readLoop, State.loop_updLoop_self, hv]
      rfl
    · split
      · exact Reply.holds_plain s _ AnswerCode.refuses_range
      · split
        · exact Reply.holds_plain s _ AnswerCode.refuses_conflict
        · refine Reply.holds_held _ ?_
          simp only [State.readTarget, Fin.ofNat_val_eq_self, State.readLoop, State.loop_updLoop_self,
            indexOrNone, Fin.val_ofNat]
          omega

theorem State.writeShare_holds (s : State) (field : ShareField) (v : Int) (i : Fin 16) :
    (s.writeShare field v i).Holds s fun u => u.readTarget (.share field) i.val := by
  unfold State.writeShare
  cases field <;> dsimp only
  case share =>
    refine Reply.holds_held _ ?_
    simp only [State.readTarget, Fin.ofNat_val_eq_self, State.readLoop, State.loop_setLoop_self]
  all_goals
    split
    · exact Reply.holds_plain s _ AnswerCode.refuses_static
    · refine Reply.holds_held _ ?_
      simp only [State.readTarget, Fin.ofNat_val_eq_self, State.readLoop, State.loop_setLoop_self,
        Loop.clampShare]

theorem State.level_recompute (s : State) (i : Fin 16) : (s.recompute.loop i).level = (s.loop i).level := by
  obtain ⟨-, -, -, -, -, -, -, -, -, -, hlevel, -⟩ := s.recompute_driveStep.2 i
  exact hlevel

theorem State.writePriority_holds (s : State) (field : PriorityField) (v : Int) (i : Fin 16) :
    (s.writePriority field v i).Holds s fun u => u.readTarget (.priority field) i.val := by
  unfold State.writePriority
  cases field <;> dsimp only <;> refine Reply.holds_held _ ?_ <;>
    simp only [State.readTarget, Fin.ofNat_val_eq_self, State.readLoop]
  case level => split <;> simp only [State.level_recompute, State.loop_updLoop_self]
  case group => rw [State.loop_updLoop_self]

/-! ### Rooms -/

theorem State.writeUnitAddress_holds (s : State) (v : Int) (r : Fin 12) :
    (s.writeUnitAddress v r).Holds s fun u => u.readTarget .unitAddress r.val := by
  unfold State.writeUnitAddress
  split
  · exact Reply.holds_plain s _ AnswerCode.refuses_range
  · rename_i hv
    have hv : 0 ≤ v := by omega
    split
    · exact Reply.holds_plain s _ AnswerCode.refuses_conflict
    · split <;> refine Reply.holds_held _ ?_ <;>
        simp only [State.readTarget, Fin.ofNat_val_eq_self, State.readRoom]
      · rename_i he
        rw [he]
        exact Int.toNat_of_nonneg hv
      · rw [State.updRoom, State.room_setRoom_self]
        exact Int.toNat_of_nonneg hv

theorem DemandSource.code_of_ofValue {v : Int} {d : DemandSource} (h : DemandSource.ofValue v = some d) :
    (d.code : Int) = v := by
  unfold DemandSource.ofValue at h
  split_ifs at h <;> cases h <;> simp_all [DemandSource.code]

theorem State.writeRoom_holds (s : State) (field : RoomField) (v : Int) (r : Fin 12) :
    (s.writeRoom field v r).Holds s fun u => u.readTarget (.room field) r.val := by
  unfold State.writeRoom
  cases field <;> dsimp only
  case demandSource =>
    split
    · exact Reply.holds_plain s _ AnswerCode.refuses_range
    · rename_i d hd
      refine Reply.holds_held _ ?_
      simp only [State.readTarget, Fin.ofNat_val_eq_self, State.readRoom, State.updRoom, State.room_setRoom_self]
      exact DemandSource.code_of_ofValue hd
  all_goals
    refine Reply.holds_held _ ?_
    simp only [State.readTarget, Fin.ofNat_val_eq_self, State.readRoom, State.updRoom, State.room_setRoom_self]
    rfl

/-! ### Probes, rules, classes, profiles, counters -/

theorem Role.code_ofValue {v : Int} {r : Role} (h : (Role.ofValue v).isSome = true) :
    (((Role.ofValue v).getD r).code : Int) = v := by
  unfold Role.ofValue at h ⊢
  split_ifs at h ⊢ <;> simp_all [Role.code]

theorem flagCode_of_value {v : Int} {b : Bool} (h : flagOfValue v = some b) : flagCode b = v := by
  unfold flagOfValue at h
  split_ifs at h <;> cases h <;> simp_all [flagCode]

theorem State.writeIdentity_holds {s : State} {e : Fin 32} {v : Int} {b : Bool} {f : Probe → Probe}
    (h : b = true → read (s.setProbe e (f (s.probe e))) = v) : (s.writeIdentity e v b f).Holds s read := by
  unfold State.writeIdentity
  split
  · exact Reply.holds_plain s read AnswerCode.refuses_static
  · split
    · exact Reply.holds_held _ (h ‹_›)
    · exact Reply.holds_plain s read AnswerCode.refuses_range

theorem State.writeProbe_holds (s : State) (field : ProbeField) (v : Int) (e : Fin 32) :
    (s.writeProbe field v e).Holds s fun u => u.readTarget (.probe field) e.val := by
  unfold State.writeProbe
  cases field <;> dsimp only
  case moduleAddress | channel =>
    refine State.writeIdentity_holds fun hb => ?_
    simp only [Bool.and_eq_true, decide_eq_true_eq] at hb
    simp only [State.readTarget, Fin.ofNat_val_eq_self, State.readProbe, State.probe_setProbe_self]
    exact Int.toNat_of_nonneg hb.1
  case role =>
    refine State.writeIdentity_holds fun hb => ?_
    simp only [State.readTarget, Fin.ofNat_val_eq_self, State.readProbe, State.probe_setProbe_self]
    exact Role.code_ofValue hb
  case loop =>
    refine State.writeIdentity_holds fun hb => ?_
    simp only [Bool.and_eq_true, decide_eq_true_eq] at hb
    simp only [State.readTarget, Fin.ofNat_val_eq_self, State.readProbe, State.probe_setProbe_self,
      Fin.val_ofNat]
    omega
  case trim =>
    refine Reply.holds_held _ ?_
    simp only [State.readTarget, Fin.ofNat_val_eq_self, State.readProbe, State.probe_setProbe_self]
  case depth =>
    split
    · rename_i hv
      refine Reply.holds_held _ ?_
      simp only [State.readTarget, Fin.ofNat_val_eq_self, State.readProbe, State.probe_setProbe_self]
      rw [depthAllowed_iff] at hv
      omega
    · exact Reply.holds_plain s _ AnswerCode.refuses_range

theorem State.validationFails_refuses {s : State} {e : Fin 32} {o : AnswerCode}
    (h : s.validationFails e = some o) : o.refuses := by
  unfold State.validationFails at h
  dsimp only at h
  split at h
  · cases h
    exact AnswerCode.refuses_state
  · split at h
    · cases h
      exact AnswerCode.refuses_conflict
    · split at h <;> split at h <;> cases h <;> exact AnswerCode.refuses_conflict

theorem State.probe_mapChanged (s : State) (e d : Fin 32) : (s.mapChanged e).probe d = s.probe d := by
  rw [State.probe, (s.mapChanged_driveStep e).probes, State.probe]

theorem State.writeValid_holds (s : State) (v : Int) (e : Fin 32) :
    (s.writeValid v e).Holds s fun u => u.readTarget .probeValid e.val := by
  unfold State.writeValid
  split
  · exact Reply.holds_plain s _ AnswerCode.refuses_range
  · rename_i b hb
    split
    · rename_i hsame
      refine Reply.holds_held _ ?_
      simp only [State.readTarget, Fin.ofNat_val_eq_self, State.readProbe, ← hsame]
      exact flagCode_of_value hb
    · split
      · rename_i o ho
        split at ho
        · exact Reply.holds_plain s _ (State.validationFails_refuses ho)
        · cases ho
      · refine Reply.holds_held _ ?_
        simp only [State.readTarget, Fin.ofNat_val_eq_self, State.readProbe, State.probe_mapChanged,
          State.probe_setProbe_self]
        exact flagCode_of_value hb

theorem State.writeMatch_holds {s : State} {r : Fin 24} {hi v : Int} {f : Option Nat → Rule}
    (h : ∀ m, read (s.storeRule r (f m)) = natOrNone m) : (s.writeMatch r hi v f).Holds s read := by
  unfold State.writeMatch
  split
  · rename_i hv
    refine Reply.holds_held _ ?_
    rw [h, hv]
    rfl
  · split
    · exact Reply.holds_plain s read AnswerCode.refuses_range
    · refine Reply.holds_held _ ?_
      rw [h]
      exact Int.toNat_of_nonneg (by omega)

theorem Direction.code_of_ofValue {v : Int} {d : Machine.Direction} (h : Direction.ofValue v = some d) :
    (d.code : Int) = v := by
  unfold Direction.ofValue at h
  split_ifs at h <;> cases h <;> simp_all [Direction.code]

theorem FilterAction.code_of_ofValue {v : Int} {a : FilterAction} (h : FilterAction.ofValue v = some a) :
    (a.code : Int) = v := by
  unfold FilterAction.ofValue at h
  split_ifs at h <;> cases h <;> simp_all [FilterAction.code]

theorem State.rule_storeRule_self (s : State) (r : Fin 24) (k : Rule) :
    (s.storeRule r k).rule r = { k with hits := 0 } := s.rule_setRule_self r _

theorem State.writeRule_holds (s : State) (field : RuleField) (v : Int) (r : Fin 24) :
    (s.writeRule field v r).Holds s fun u => u.readTarget (.rule field) r.val := by
  unfold State.writeRule
  cases field <;> dsimp only
  case kind | source | destination | selector =>
    refine State.writeMatch_holds fun m => ?_
    simp only [State.readTarget, Fin.ofNat_val_eq_self, State.readRule, State.rule_storeRule_self]
  case count =>
    refine Reply.holds_held _ ?_
    simp only [State.readTarget, Fin.ofNat_val_eq_self, State.readRule, State.rule_storeRule_self]
  case valid =>
    split
    · exact Reply.holds_plain s _ AnswerCode.refuses_range
    · refine Reply.holds_held _ ?_
      simp only [State.readTarget, Fin.ofNat_val_eq_self, State.readRule, State.rule_storeRule_self]
      exact flagCode_of_value ‹_›
  case direction =>
    split
    · exact Reply.holds_plain s _ AnswerCode.refuses_range
    · refine Reply.holds_held _ ?_
      simp only [State.readTarget, Fin.ofNat_val_eq_self, State.readRule, State.rule_storeRule_self]
      exact Direction.code_of_ofValue ‹_›
  case action =>
    split
    · exact Reply.holds_plain s _ AnswerCode.refuses_range
    · refine Reply.holds_held _ ?_
      simp only [State.readTarget, Fin.ofNat_val_eq_self, State.readRule, State.rule_storeRule_self]
      exact FilterAction.code_of_ofValue ‹_›

theorem State.writeClass_holds (s : State) (field : ClassField) (v : Int) (c : Fin 4) :
    (s.writeClass field v c).Holds s fun u => u.readTarget (.floorClass field) c.val := by
  cases field <;> refine Reply.holds_held _ ?_ <;>
    simp only [State.readTarget, Fin.ofNat_val_eq_self, State.readClass, State.floorClass_setFloorClass_self]

theorem Polarity.code_of_ofValue {v : Int} {q : Polarity} (h : Polarity.ofValue v = some q) :
    (q.code : Int) = v := by
  unfold Polarity.ofValue at h
  split_ifs at h <;> cases h <;> simp_all [Polarity.code]

theorem State.writeProfile_holds (s : State) (field : ProfileField) (v : Int) (p : Fin 4) :
    (s.writeProfile field v p).Holds s fun u => u.readTarget (.profile field) p.val := by
  unfold State.writeProfile
  dsimp only
  split
  · exact Reply.holds_plain s _ AnswerCode.refuses_static
  · cases field <;> dsimp only
    case polarity =>
      split
      · exact Reply.holds_plain s _ AnswerCode.refuses_range
      · refine Reply.holds_held _ ?_
        simp only [State.readTarget, Fin.ofNat_val_eq_self, State.readProfile, State.profile_setProfile_self]
        exact Polarity.code_of_ofValue ‹_›
    all_goals
      refine Reply.holds_held _ ?_
      simp only [State.readTarget, Fin.ofNat_val_eq_self, State.readProfile, State.profile_setProfile_self]

theorem State.port_setPort_self (s : State) (p : PortId) (k : Port) : (s.setPort p k).port p = k := by
  cases p <;> rfl

theorem State.writeCounter_holds (s : State) (field : CounterField) (index : Nat) :
    (s.writeCounter field index).Holds s fun u => u.readTarget (.counter field) index := by
  cases field
  case rejected entry =>
    simp only [State.writeCounter, State.writeRejected]
    split
    · rename_i hlt
      split
      · exact Reply.holds_plain s _ AnswerCode.refuses_unknown
      · split
        · exact Reply.holds_plain s _ AnswerCode.refuses_range
        · refine Reply.holds_held _ ?_
          have hid : Fin.ofNat 32 entry = ⟨entry, hlt⟩ := Fin.ext (Nat.mod_eq_of_lt hlt)
          simp only [State.readTarget, hid, State.probe_setProbe_self]
          rfl
    · exact Reply.holds_plain s _ AnswerCode.refuses_unknown
  all_goals
    simp only [State.writeCounter]
    split
    · exact Reply.holds_plain s _ AnswerCode.refuses_range
    · refine Reply.holds_held _ ?_
      simp only [State.readTarget, State.readCounter, State.updCounters, State.port_setPort_self]
      rfl

/-- What a write answers is what its target then holds (R145). -/
theorem State.writeAt_holds (s : State) (target : WriteTarget) (index : Nat) (v : Int) :
    (s.writeAt target index v).Holds s fun u => u.readTarget target index := by
  cases target
  case readOnly => exact Reply.holds_plain s _ AnswerCode.refuses_unknown
  case general field => exact s.writeGeneral_holds field v index
  case loopRoom => exact withIndex_holds fun i hi => hi ▸ s.writeLoopRoom_holds v i
  case loopStatic field => exact withIndex_holds fun i hi => hi ▸ s.writeLoopStatic_holds field v i
  case share field => exact withIndex_holds fun i hi => hi ▸ s.writeShare_holds field v i
  case priority field => exact withIndex_holds fun i hi => hi ▸ s.writePriority_holds field v i
  case unitAddress => exact withIndex_holds fun r hr => hr ▸ s.writeUnitAddress_holds v r
  case room field => exact withIndex_holds fun r hr => hr ▸ s.writeRoom_holds field v r
  case probeValid => exact withIndex_holds fun e he => he ▸ s.writeValid_holds v e
  case probe field => exact withIndex_holds fun e he => he ▸ s.writeProbe_holds field v e
  case rule field => exact withIndex_holds fun r hr => hr ▸ s.writeRule_holds field v r
  case hits =>
    refine withIndex_holds fun r hr => Reply.holds_held _ ?_
    subst hr
    simp only [State.readTarget, Fin.ofNat_val_eq_self, State.readRule, State.rule_storeRule_self]
    rfl
  case floorClass field => exact withIndex_holds fun c hc => hc ▸ s.writeClass_holds field v c
  case profile field => exact withIndex_holds fun p hp => hp ▸ s.writeProfile_holds field v p
  case counter field => exact s.writeCounter_holds field index

end writes

end Sys2Proof.Machine
end

section
/-! PROOFS. The setup requests: how they are refused, what their bytes spell, which command is which WRITE
FIELD, and that a written value reads back (R143 to R145, R158, R159): the settling of O5 to O9. -/

namespace Sys2Proof.Machine

open Sys2Proof

/-! ## Refusals (R143, R144) -/

/-- The reply is DONE or CLAMPED, or it is a refusal that leaves s, and it is not LOCKED. -/
def Reply.Settled (r : Reply) (s : State) : Prop :=
  r.outcome = .done ∨ r.outcome = .clamped ∨ ∃ o, o ≠ .locked ∧ r = Reply.plain s o

theorem Reply.Holds.settled {r : Reply} {s : State} {read : State → Int} (h : r.Holds s read) :
    r.Settled s := by
  rcases h with ⟨o, ⟨-, -, hlocked⟩, e⟩ | ⟨hdone | hclamped, -⟩
  · exact .inr (.inr ⟨o, hlocked, e⟩)
  · exact .inl hdone
  · exact .inr (.inl hclamped)

theorem Reply.settled_done {r : Reply} {s : State} (h : r.outcome = .done) : r.Settled s := .inl h

theorem Reply.settled_plain (s : State) {o : AnswerCode} (h : o ≠ .locked) :
    (Reply.plain s o).Settled s := .inr (.inr ⟨o, h, rfl⟩)

theorem Reply.Settled.not_locked {r : Reply} {s : State} (h : r.Settled s) : r.outcome ≠ .locked := by
  rcases h with e | e | ⟨o, ho, rfl⟩
  · rw [e]; decide
  · rw [e]; decide
  · exact ho

theorem withIndex_settled {n index : Nat} {s : State} {body : Fin n → State → Reply}
    (h : ∀ i, (body i s).Settled s) : (withIndex n index s body).Settled s := by
  rcases withIndex_cases index s body with ⟨-, e⟩ | ⟨i, -, e⟩ <;> rw [e]
  · exact Reply.settled_plain s (by decide)
  · exact h i

theorem State.readField_settled (table index field : Nat) (s : State) :
    (s.readField table index field).Settled s := by
  unfold State.readField
  split
  · exact Reply.settled_plain s (by decide)
  · split
    · exact Reply.settled_plain s (by decide)
    · split
      · exact Reply.settled_plain s (by decide)
      · exact Reply.settled_done rfl

theorem State.writeField_settled (table index field : Nat) (v : Int) (s : State) :
    (s.writeField table index field v).Settled s := by
  unfold State.writeField
  split
  · exact Reply.settled_plain s (by decide)
  · split
    · exact Reply.settled_plain s (by decide)
    · split
      · exact Reply.settled_plain s (by decide)
      · exact (s.writeAt_holds _ index v).settled

theorem State.enableFails_not_locked {s : State} {i : Fin 16} {o : AnswerCode}
    (h : s.enableFails i = some o) : o ≠ .locked := by
  unfold State.enableFails at h
  rintro rfl
  split_ifs at h <;> cases h

theorem State.enableLoop_settled (i : Fin 16) (s : State) : (s.enableLoop i).Settled s := by
  unfold State.enableLoop
  split
  · exact Reply.settled_plain s (State.enableFails_not_locked ‹_›)
  · exact Reply.settled_done rfl

theorem State.disableLoop_settled (i : Fin 16) (s : State) : (s.disableLoop i).Settled s := by
  unfold State.disableLoop
  split
  · exact Reply.settled_plain s (by decide)
  · split <;> exact Reply.settled_done rfl

theorem State.setMode_settled (requested : Nat) (s : State) : (s.setMode requested).Settled s := by
  unfold State.setMode
  split
  · split
    · split
      · exact Reply.settled_plain s (by decide)
      · exact Reply.settled_done rfl
    all_goals exact Reply.settled_plain s (by decide)
  · split
    · split
      · exact Reply.settled_done rfl
      all_goals exact Reply.settled_plain s (by decide)
    · exact Reply.settled_plain s (by decide)

theorem State.patternFails_not_locked {s : State} {request : PatternRequest} {o : AnswerCode}
    (h : s.patternFails request = some o) : o ≠ .locked := by
  unfold State.patternFails at h
  rintro rfl
  split at h
  · cases h
  · split at h
    · cases h
    · split at h
      · split at h <;> cases h
      · cases h
    · split at h
      · cases h
      · split at h <;> cases h

theorem Reply.settled_altered {s u : State} (b : Bool) :
    (Reply.plain u (if b then .clamped else .done)).Settled s := by
  cases b
  · exact .inl rfl
  · exact .inr (.inl rfl)

theorem State.startPattern_settled (request : PatternRequest) (s : State) :
    (s.startPattern request).Settled s := by
  unfold State.startPattern
  split
  · exact Reply.settled_plain s (State.patternFails_not_locked ‹_›)
  · cases request
    · exact Reply.settled_altered _
    · exact Reply.settled_altered _
    · exact Reply.settled_plain s (by decide)

theorem State.stopPattern_settled (s : State) : s.stopPattern.Settled s := by
  unfold State.stopPattern
  split
  · split <;> exact Reply.settled_done rfl
  · exact Reply.settled_done rfl
  all_goals exact Reply.settled_plain s (by decide)

theorem State.setLock_settled (value : Nat) (s : State) : (s.setLock value).Settled s := by
  unfold State.setLock
  split
  · exact Reply.settled_done rfl
  · exact Reply.settled_done rfl
  · exact Reply.settled_plain s (by decide)

theorem State.takeNotice_settled (s : State) : s.takeNotice.Settled s := by
  unfold State.takeNotice
  split
  · exact Reply.settled_plain s (by decide)
  · split
    · exact Reply.settled_plain s (by decide)
    · exact Reply.settled_done rfl

/-- Every request is carried out, or refused with the part as it was, and none is answered LOCKED there. -/
theorem RequestBody.settled {body : State → Reply} (h : RequestBody body) (s : State) :
    (body s).Settled s := by
  cases h with
  | read => exact s.readField_settled _ _ _
  | write => exact (s.writeAt_holds _ _ _).settled
  | writeField => exact s.writeField_settled _ _ _ _
  | enable => exact withIndex_settled fun i => s.enableLoop_settled i
  | disable => exact withIndex_settled fun i => s.disableLoop_settled i
  | setMode => exact s.setMode_settled _
  | startPattern => exact s.startPattern_settled _
  | stopPattern => exact s.stopPattern_settled
  | setLock => exact s.setLock_settled _
  | takeNotice => exact s.takeNotice_settled
  | readStatus => exact Reply.settled_done rfl
  | restart => exact Reply.settled_done rfl

theorem openUnderLock_iff (code : Byte) :
    openUnderLock code = true ↔ code ∈ ([0x01, 0x08, 0x09, 0x0A, 0x0B] : List Byte) := by
  simp [openUnderLock, or_assoc]

theorem occupiedBufferDiscardsRequest : Parts.OccupiedBufferDiscardsRequest := by
  intro c src code s hc hnothing hanswer
  obtain ⟨body, -, hexec⟩ := exec_request hc
  rw [hexec, State.beginAll_of_nothing hnothing, State.takeRequest_occupied _ _ _ _ hanswer]
  rfl

theorem lockRefusesRequest : Parts.LockRefusesRequest := by
  intro c src code s hc hnothing hanswer hlock
  obtain ⟨body, hbody, hexec⟩ := exec_request hc
  refine ⟨fun hcode => ?_, fun hcode =>
    ⟨(body s).part, (body s).outcome, (body s).content, (hbody.settled s).not_locked, ?_⟩⟩
  · rw [← openUnderLock_iff, Bool.not_eq_true] at hcode
    rw [Answers, hexec, State.beginAll_of_nothing hnothing, hcode]
    exact congrArg Host.Outcome.next (State.takeRequest_locked src code body hanswer hlock)
  · rw [← openUnderLock_iff] at hcode
    rw [hexec, State.beginAll_of_nothing hnothing, hcode]
    exact congrArg Host.Outcome.next (State.takeRequest_open src code body hanswer)

theorem refusedRequestLeavesPart : Parts.RefusedRequestLeavesPart := by
  intro c src code s hc hnothing hanswer
  obtain ⟨body, hbody, hexec⟩ := exec_request hc
  rw [hexec, State.beginAll_of_nothing hnothing]
  rcases s.takeRequest_cases src code (!openUnderLock code) body with ⟨hne, -⟩ | ⟨-, -, -, e⟩ | ⟨-, -, e⟩
  · exact absurd hanswer hne
  · exact ⟨s, .locked, [], by rw [e], fun _ _ => ⟨rfl, rfl⟩⟩
  · refine ⟨_, _, _, by rw [e], fun hdone hclamped => ?_⟩
    rcases hbody.settled s with h | h | ⟨o, -, h⟩
    · exact absurd h hdone
    · exact absurd h hclamped
    · rw [h]
      exact ⟨rfl, rfl⟩

/-- Settles O5: each request has a body that is taken by the lock's rule, and settles. -/
theorem requestsRefused : Obligations.RequestsRefused :=
  ⟨occupiedBufferDiscardsRequest, lockRefusesRequest, refusedRequestLeavesPart⟩

/-! ## Telegrams (R107, R143, R158) -/

/-- The code under which a request is answered. -/
def setupCode : SetupRequest → Byte
  | .readField _ _ _ => 0x01
  | .writeField _ _ _ _ => 0x02
  | .enableLoop _ => 0x03
  | .disableLoop _ => 0x04
  | .setMode _ => 0x05
  | .startPattern _ => 0x06
  | .stopPattern => 0x07
  | .setLock _ => 0x08
  | .takeNotice => 0x09
  | .readStatus => 0x0A
  | .restart => 0x0B

theorem exec_command (request : SetupRequest) (src : Byte) (s : State) : exec (request.command src) s =
    .next (s.beginAll.takeRequest src (setupCode request) (lockable request) (State.carryOut request)) := by
  cases request <;> rfl

theorem code_of_requestOf {code : Byte} {data : List Byte} {request : SetupRequest}
    (h : requestOf code data = some request) : setupCode request = code := by
  unfold requestOf at h
  repeat' split at h
  case isFalse => exact absurd h nofun
  all_goals
    rename_i hcode
    rw [← Option.some.inj h, hcode]
    rfl

/-- What spells a request has data, the first byte its code. -/
theorem code_of_parseRequest {data : List Byte} {request : SetupRequest}
    (h : parseRequest data = some request) : data ≠ [] ∧ requestCode data = setupCode request := by
  unfold parseRequest at h
  split at h
  · cases h
  · split at h
    · cases h
    · split at h
      · cases h
      · exact ⟨by simp, (code_of_requestOf h).symm⟩

/-- A good telegram addressed to the part is consumed by the port that received it. -/
theorem exec_telegramReceived_consumed {s : State} {t : Telegram} (p : PortId)
    (hnothing : s.NothingToBegin) (hgood : ¬t.Damaged) (hdst : t.dst.toNat = s.address) :
    exec (.telegramReceived p t) s = .next ((s.afterGood p t).consume p t) := by
  rw [exec_telegramReceived, State.beginAll_of_nothing hnothing, State.receive,
    if_neg (mt (telegramDamaged_iff t).mp hgood), State.takeGood, State.updCounters_goodTelegram,
    if_pos (by rwa [State.address_afterGood])]

/-- Port H once it has judged a SETUP REQUEST good. -/
theorem State.afterGood_setup (s : State) {t : Telegram} (hkind : t.kind = 0x51) :
    s.afterGood .h t = { s with portH := { s.portH with counters :=
      { s.portH.counters with
        consecutiveDamaged := 0
        malformed := if t.data = [] then min 255 (s.portH.counters.malformed + 1)
          else s.portH.counters.malformed } } } := by
  have hshort : t.tooShort = true ↔ t.data = [] := by
    rw [Telegram.tooShort, hkind]
    cases t.data <;> simp
  simp only [State.afterGood, State.setPort, State.port, hshort]

theorem State.consume_setup (s : State) {t : Telegram} (hkind : t.kind = 0x51) :
    s.consume .h t = s.takeSetup t := if_pos hkind

theorem telegramCarriesRequest : Parts.TelegramCarriesRequest := by
  intro t s hnothing hgood hdst hkind
  have hexec := exec_telegramReceived_consumed .h hnothing hgood hdst
  rw [State.consume_setup _ hkind, State.afterGood_setup s hkind] at hexec
  refine ⟨fun request hparse => ?_, fun hparse hanswer => ?_⟩
  · obtain ⟨hne, hcode⟩ := code_of_parseRequest hparse
    rw [if_neg hne] at hexec
    rw [hexec, exec_command, State.takeSetup, hparse, hcode]
    exact congrArg Host.Outcome.next (congrArg (State.takeRequest · _ _ _ _)
      (State.beginAll_of_nothing (by exact hnothing)).symm)
  · rw [Answers, hexec, State.takeSetup, hparse]
    exact congrArg Host.Outcome.next (State.takeRequest_open _ _ _ hanswer)

theorem toNat_append_bytes (a b : Byte) : (a ++ b : BitVec 16).toNat = 256 * a.toNat + b.toNat := by
  rw [BitVec.toNat_append, ← Nat.shiftLeft_add_eq_or_of_lt b.isLt, Nat.shiftLeft_eq]
  omega

theorem valueAt_bytes (x y z w a b c d : Byte) (rest : List Byte) :
    valueAt (x :: y :: z :: w :: a :: b :: c :: d :: rest) 4 = (a ++ b ++ c ++ d : BitVec 32).toInt := by
  have hassoc : (a ++ b ++ (c ++ d) : BitVec 32) = a ++ b ++ c ++ d := by
    rw [BitVec.append_assoc' (x₁ := a ++ b)]
    rfl
  exact congrArg BitVec.toInt hassoc

theorem parseRequest_short {code : Byte} {n : Nat} (h : requestLength code = some n) {rest : List Byte}
    (hlen : rest.length + 1 < n) : parseRequest (code :: rest) = none := by
  simp [parseRequest, h, hlen]

theorem requestLength_unknown : ∀ code : Byte, code = 0x00 ∨ 0x0B < code.toNat →
    requestLength code = none := by decide

theorem parseRequest_pattern (p a b c d : Byte) (rest : List Byte) :
    parseRequest (0x06 :: p :: a :: b :: c :: d :: rest) =
      some (.startPattern (patternArguments (0x06 :: p :: a :: b :: c :: d :: rest))) := rfl

theorem requestLayout : Parts.RequestLayout := by
  refine ⟨fun t i f rest => rfl, fun t i f a b c d rest => ?_, fun l rest => ⟨rfl, rfl, rfl, rfl⟩,
    fun p a b c d rest => ⟨?_, ?_, fun h1 h2 => ?_⟩, fun rest => ⟨rfl, rfl, rfl, rfl⟩, rfl,
    fun code rest hcode => ?_, fun rest => ⟨fun h => ?_, fun h => ?_, fun h code hcode => ?_, fun h => ?_⟩⟩
  · rw [← valueAt_bytes 0x02 t i f]
    rfl
  · rw [parseRequest_pattern, ← toNat_append_bytes c d]
    rfl
  · rw [parseRequest_pattern, ← toNat_append_bytes c d, ← toNat_append_bytes a b]
    rfl
  · have hp (n : Byte) (h : p ≠ n) : byteAt (0x06 :: p :: a :: b :: c :: d :: rest) 1 ≠ n.toNat :=
      fun e => h (BitVec.eq_of_toNat_eq e)
    have hidentify : byteAt (0x06 :: p :: a :: b :: c :: d :: rest) 1 ≠ 1 := hp 1 h1
    have hsweep : byteAt (0x06 :: p :: a :: b :: c :: d :: rest) 1 ≠ 2 := hp 2 h2
    rw [parseRequest_pattern, patternArguments, if_neg hidentify, if_neg hsweep]
    rfl
  · simp [parseRequest, requestLength_unknown code hcode]
  · exact parseRequest_short (n := 4) rfl (by omega)
  · exact parseRequest_short (n := 8) rfl (by omega)
  · have hlen : requestLength code = some 2 := by
      revert hcode
      revert code
      decide
    exact parseRequest_short hlen (by omega)
  · exact parseRequest_short (n := 6) rfl (by omega)

/-- Settles O6: the taking of a SETUP REQUEST telegram, and its layout. -/
theorem telegramsSpellRequests : Obligations.TelegramsSpellRequests :=
  ⟨telegramCarriesRequest, requestLayout⟩

/-! ## WRITE FIELD (R145, R158, R159) -/

section field

variable {table index field : Nat} {t : TableId} {s : State} (v : Int)

theorem State.writeField_of_no_table (h : tableOf table = none) :
    s.writeField table index field v = Reply.plain s .unknown := by
  rw [State.writeField, h]

theorem State.readField_of_no_table (h : tableOf table = none) :
    s.readField table index field = Reply.plain s .unknown := by
  rw [State.readField, h]

theorem State.writeField_of_unknown (ht : tableOf table = some t) (h : fieldKnown t index field = false) :
    s.writeField table index field v = Reply.plain s .unknown := by
  simp [State.writeField, ht, h]

theorem State.readField_of_unknown (ht : tableOf table = some t) (h : fieldKnown t index field = false) :
    s.readField table index field = Reply.plain s .unknown := by
  simp [State.readField, ht, h]

theorem State.writeField_outside (ht : tableOf table = some t) (h : fieldKnown t index field = true)
    (hindex : tableSize t ≤ index) : s.writeField table index field v = Reply.plain s .range := by
  simp [State.writeField, ht, h, hindex]

theorem State.readField_outside (ht : tableOf table = some t) (h : fieldKnown t index field = true)
    (hindex : tableSize t ≤ index) : s.readField table index field = Reply.plain s .range := by
  simp [State.readField, ht, h, hindex]

theorem State.writeField_inside (ht : tableOf table = some t) (h : fieldKnown t index field = true)
    (hindex : index < tableSize t) :
    s.writeField table index field v = s.writeAt (writeTarget t field) index v := by
  simp [State.writeField, ht, h, Nat.not_le.mpr hindex]

theorem State.readField_inside (ht : tableOf table = some t) (h : fieldKnown t index field = true)
    (hindex : index < tableSize t) :
    s.readField table index field = Reply.held s false (s.readValue t index field) := by
  simp [State.readField, ht, h, Nat.not_le.mpr hindex]

/-- The write of a listed field, where the write itself refuses an index outside its table. -/
theorem State.writeField_eq_writeAt {target : WriteTarget} (ht : tableOf table = some t)
    (h : fieldKnown t index field = true) (htarget : writeTarget t field = target)
    (hout : tableSize t ≤ index → s.writeAt target index v = Reply.plain s .range) :
    s.writeField table index field v = s.writeAt target index v := by
  rcases Nat.lt_or_ge index (tableSize t) with hindex | hindex
  · rw [State.writeField_inside v ht h hindex, htarget]
  · rw [State.writeField_outside v ht h hindex, hout hindex]

end field

/-- A write command whose body is that of a WRITE FIELD is that WRITE FIELD. -/
theorem exec_eq_writeField {c : Instr} {src : Byte} {table index field : Nat} {v : Int}
    {body : State → Reply} {s : State} (hexec : exec c s = .next (s.beginAll.takeWrite src body))
    (hbody : ∀ u, State.writeField table index field v u = body u) :
    exec c s = exec (.writeField src table index field v) s := by
  rw [hexec, show body = State.writeField table index field v from funext fun u => (hbody u).symm]
  rfl

theorem counterField_rejected : ∀ e : Fin 32, counterField (20 + e.val) = .counter (.rejected e.val) := by
  decide

theorem fieldKnown_rejected (index e : Nat) : fieldKnown .counters index (20 + e) = true ↔
    index ≠ 0 ∧ e < 32 := by
  simp only [fieldKnown, within, Bool.or_eq_true, Bool.and_eq_true, decide_eq_true_eq]
  omega

theorem State.writeField_counter (s : State) (index : Nat) (f : CounterField) (v : Int) :
    s.writeField 9 index (match f with
      | .forwarded => 1
      | .damaged => 2
      | .consecutiveDamaged => 3
      | .overflow => 4
      | .malformed => 5
      | .strayEcho => 6
      | .unmatched => 7
      | .rejected e => 20 + e) v = s.writeAt (.counter f) index v := by
  cases f
  case rejected e =>
    have hknown := fieldKnown_rejected index e
    by_cases hin : index ≠ 0 ∧ e < 32
    · obtain ⟨hindex, he⟩ := hin
      have htarget : writeTarget .counters (20 + e) = .counter (.rejected e) := counterField_rejected ⟨e, he⟩
      refine State.writeField_eq_writeAt v rfl (hknown.mpr ⟨hindex, he⟩) htarget fun hout => ?_
      rw [State.writeAt, State.writeCounter, State.writeRejected, dif_pos he, if_neg hindex,
        if_pos (by exact hout)]
    · rw [State.writeField_of_unknown v rfl (Bool.eq_false_iff.mpr (mt hknown.mp hin))]
      simp only [State.writeAt, State.writeCounter, State.writeRejected]
      split
      · rename_i he
        rw [if_pos (by by_contra hindex; exact hin ⟨hindex, he⟩)]
      · rfl
  all_goals exact State.writeField_eq_writeAt v rfl rfl rfl fun h => if_pos h

/-- Settles O7: row by row, the write is that of the field's number. -/
theorem writeRowsAreWriteFields : Obligations.WriteRowsAreWriteFields := by
  intro c src table index field v s h
  cases c <;> simp only [Instr.writeNumbers, reduceCtorEq, Option.some.injEq, Prod.mk.injEq] at h <;>
    obtain ⟨rfl, rfl, rfl, rfl, rfl⟩ := h
  case counterWrite i f w =>
    exact exec_eq_writeField (body := State.writeAt (.counter f) i w) rfl fun u =>
      u.writeField_counter i f w
  case loopStaticFieldWrite i f w =>
    refine exec_eq_writeField (body := State.writeAt (.loopStatic f) i w) rfl fun u => ?_
    cases f <;> exact State.writeField_eq_writeAt w rfl rfl rfl fun h => withIndex_outside u _ h
  case loopRoomWrite i w =>
    exact exec_eq_writeField (body := State.writeAt .loopRoom i w) rfl fun u =>
      State.writeField_eq_writeAt w rfl rfl rfl fun h => withIndex_outside u _ h
  case shareWrite i f w =>
    refine exec_eq_writeField (body := State.writeAt (.share f) i w) rfl fun u => ?_
    cases f <;> exact State.writeField_eq_writeAt w rfl rfl rfl fun h => withIndex_outside u _ h
  case levelWrite i f w =>
    refine exec_eq_writeField (body := State.writeAt (.priority f) i w) rfl fun u => ?_
    cases f <;> exact State.writeField_eq_writeAt w rfl rfl rfl fun h => withIndex_outside u _ h
  case floorClassWrite c f w =>
    refine exec_eq_writeField (body := State.writeAt (.floorClass f) c w) rfl fun u => ?_
    cases f <;> exact State.writeField_eq_writeAt w rfl rfl rfl fun h => withIndex_outside u _ h
  case profileWrite p f w =>
    refine exec_eq_writeField (body := State.writeAt (.profile f) p w) rfl fun u => ?_
    cases f <;> exact State.writeField_eq_writeAt w rfl rfl rfl fun h => withIndex_outside u _ h
  case roomFieldWrite r f w =>
    refine exec_eq_writeField (body := State.writeAt (.room f) r w) rfl fun u => ?_
    cases f <;> exact State.writeField_eq_writeAt w rfl rfl rfl fun h => withIndex_outside u _ h
  case unitAddressWrite r w =>
    exact exec_eq_writeField (body := State.writeAt .unitAddress r w) rfl fun u =>
      State.writeField_eq_writeAt w rfl rfl rfl fun h => withIndex_outside u _ h
  case probeFieldWrite e f w =>
    refine exec_eq_writeField (body := State.writeAt (.probe f) e w) rfl fun u => ?_
    cases f <;> exact State.writeField_eq_writeAt w rfl rfl rfl fun h => withIndex_outside u _ h
  case probeValidWrite e w =>
    exact exec_eq_writeField (body := State.writeAt .probeValid e w) rfl fun u =>
      State.writeField_eq_writeAt w rfl rfl rfl fun h => withIndex_outside u _ h
  case ruleFieldWrite r f w =>
    refine exec_eq_writeField (body := State.writeAt (.rule f) r w) rfl fun u => ?_
    cases f <;> exact State.writeField_eq_writeAt w rfl rfl rfl fun h => withIndex_outside u _ h
  case hitsWrite r w =>
    exact exec_eq_writeField (body := State.writeAt .hits r w) rfl fun u =>
      State.writeField_eq_writeAt w rfl rfl rfl fun h => withIndex_outside u _ h
  case overflowPolicyWrite p w => cases p <;> rfl
  case directionDefaultWrite p w => cases p <;> rfl
  all_goals rfl

/-! ## Fields that are not listed (R143, R159) -/

theorem readField_answers {s : State} (hs : s.Takes) (src : Byte) {table index field : Nat} {o : AnswerCode}
    (h : s.readField table index field = Reply.plain s o) :
    Answers (.readField src table index field) src 0x01 s s o := by
  obtain ⟨hanswer, -, hnothing⟩ := hs
  have hexec : exec (.readField src table index field) s =
      .next (s.beginAll.takeRequest src codeReadField false (State.readField table index field)) := rfl
  rw [Answers, hexec, State.beginAll_of_nothing hnothing, State.takeRequest_open _ _ _ hanswer, h]
  rfl

theorem writeField_answers {s : State} (hs : s.Takes) (src : Byte) {table index field : Nat} {v : Int}
    {o : AnswerCode} (h : s.writeField table index field v = Reply.plain s o) :
    Answers (.writeField src table index field v) src 0x02 s s o :=
  answers_of_plain hs rfl h

/-- A field is listed where the statement's ranges hold its number. -/
theorem fieldKnown_iff {table size : Nat} {ranges : List (Nat × Nat)} {index : Nat}
    (h : (table, size, ranges) ∈ ([(1, 1, [(1, 15), (20, 43)]), (2, 16, [(1, 13), (20, 37)]),
        (3, 12, [(1, 7), (20, 31)]), (4, 32, [(1, 7), (20, 25)]), (5, 24, [(1, 9)]),
        (6, 4, [(1, 3)]), (7, 4, [(1, 3)]), (8, 16, [(1, 3)]),
        (9, 2, if index = 0 then [(1, 7)] else [(1, 7), (20, 51)])] :
          List (Nat × Nat × List (Nat × Nat)))) :
    ∃ t, tableOf table = some t ∧ tableSize t = size ∧
      (∀ field, fieldKnown t index field = true ↔ ∃ r ∈ ranges, r.1 ≤ field ∧ field ≤ r.2) ∧
      ∀ field, table = 8 ∨ (table ≠ 9 ∧ 20 ≤ field) → writeTarget t field = .readOnly := by
  simp only [List.mem_cons, Prod.mk.injEq, List.not_mem_nil, or_false] at h
  rcases h with h | h | h | h | h | h | h | h | h <;> obtain ⟨rfl, rfl, rfl⟩ := h
  case inr.inr.inr.inr.inr.inr.inr.inr =>
    refine ⟨.counters, rfl, rfl, fun field => ?_, by simp⟩
    by_cases hi : index = 0 <;> simp [fieldKnown, within, hi]
  all_goals
    refine ⟨_, rfl, rfl, fun field => by simp [fieldKnown, within], fun field hf => ?_⟩
    simp at hf
  case inl =>
    simp only [writeTarget, generalField]
    split <;> simp at hf ⊢
  case inr.inl =>
    simp only [writeTarget, loopField]
    split <;> simp at hf ⊢
  case inr.inr.inl =>
    simp only [writeTarget, roomField]
    split <;> simp at hf ⊢
  case inr.inr.inr.inl =>
    simp only [writeTarget, probeField]
    split <;> simp at hf ⊢
  case inr.inr.inr.inr.inl =>
    simp only [writeTarget, ruleField]
    split <;> simp at hf ⊢
  case inr.inr.inr.inr.inr.inl =>
    simp only [writeTarget, classField]
    split <;> simp at hf ⊢
  case inr.inr.inr.inr.inr.inr.inl =>
    simp only [writeTarget, profileField]
    split <;> simp at hf ⊢
  case inr.inr.inr.inr.inr.inr.inr.inl => rfl

/-- Settles O8: check by check of a READ FIELD and of a WRITE FIELD. -/
theorem unlistedFieldsRefused : Obligations.UnlistedFieldsRefused := by
  intro src table index field v s hs
  refine ⟨fun htable => ?_, fun size ranges hmem => ?_⟩
  · have hnone : tableOf table = none := by
      unfold tableOf
      split <;> simp at htable ⊢
    exact ⟨readField_answers hs src (State.readField_of_no_table hnone),
      writeField_answers hs src (State.writeField_of_no_table v hnone)⟩
  · obtain ⟨t, ht, hsize, hknown, hreadOnly⟩ := fieldKnown_iff hmem
    refine ⟨fun hout => ?_, fun hin hindex => ?_, fun hindex hro => ?_⟩
    · have hunknown : fieldKnown t index field = false := by
        rw [← Bool.not_eq_true, hknown]
        rintro ⟨r, hr, hrange⟩
        exact hout r hr hrange
      exact ⟨readField_answers hs src (State.readField_of_unknown ht hunknown),
        writeField_answers hs src (State.writeField_of_unknown v ht hunknown)⟩
    · have hlisted := (hknown field).mpr hin
      rw [← hsize] at hindex
      exact ⟨readField_answers hs src (State.readField_outside ht hlisted hindex),
        writeField_answers hs src (State.writeField_outside v ht hlisted hindex)⟩
    · rw [← hsize] at hindex
      refine writeField_answers hs src ?_
      cases hlisted : fieldKnown t index field
      · exact State.writeField_of_unknown v ht hlisted
      · rw [State.writeField_inside v ht hlisted hindex, hreadOnly field hro]
        rfl

/-! ## A written value reads back (R145) -/

/-- No beginning changes a field that can be written. -/
theorem State.BeginStep.readTarget {s t : State} (h : s.BeginStep t) (target : WriteTarget) (index : Nat) :
    t.readTarget target index = s.readTarget target index := by
  obtain ⟨-, -, -, -, -, -, hgeneral, hclasses, hprofiles, hrooms, hprobes, -, -, -, hrules, -, -, hH, hM⟩ :=
    h.unchanged
  obtain ⟨-, -, -, -, -, -, -, -, -, -, -, hloop⟩ := h
  obtain ⟨b, hloop⟩ := hloop (Fin.ofNat 16 index)
  have hcounters (p : PortId) : (t.port p).counters = (s.port p).counters := by
    cases p
    · exact hH
    · exact hM
  cases target
  case readOnly => rfl
  case general field =>
    cases field
    case overflowPolicy p => cases p <;> simp only [State.readTarget, State.readGeneral, hgeneral]
    case directionDefault p => cases p <;> simp only [State.readTarget, State.readGeneral, hgeneral]
    all_goals simp only [State.readTarget, State.readGeneral, hgeneral]
  case loopRoom => simp only [State.readTarget, State.readLoop, hloop]
  case loopStatic field => cases field <;> simp only [State.readTarget, State.readLoop, hloop]
  case share field => cases field <;> simp only [State.readTarget, State.readLoop, hloop]
  case priority field => cases field <;> simp only [State.readTarget, State.readLoop, hloop]
  case unitAddress => simp only [State.readTarget, State.readRoom, State.room, hrooms]
  case room field => cases field <;> simp only [State.readTarget, State.readRoom, State.room, hrooms]
  case probeValid => simp only [State.readTarget, State.readProbe, State.probe, hprobes]
  case probe field => cases field <;> simp only [State.readTarget, State.readProbe, State.probe, hprobes]
  case rule field => cases field <;> simp only [State.readTarget, State.readRule, State.rule, hrules]
  case hits => simp only [State.readTarget, State.readRule, State.rule, hrules]
  case floorClass field =>
    cases field <;> simp only [State.readTarget, State.readClass, State.floorClass, hclasses]
  case profile field =>
    cases field <;> simp only [State.readTarget, State.readProfile, State.profile, hprofiles]
  case counter field =>
    cases field
    case rejected => simp only [State.readTarget, State.probe, hprobes]
    all_goals simp only [State.readTarget, State.readCounter, hcounters]

theorem State.BeginStep.answer_none {s t : State} (h : s.BeginStep t) (hs : s.answer = none) :
    t.answer = none := by
  obtain ⟨_, _, _, _, _, _, _, _, _, rfl, hsome, _⟩ := h
  rw [hs] at hsome
  exact Option.not_isSome_iff_eq_none.mp (by simp [hsome])

/-- No target is read from the answer buffer. -/
theorem State.readTarget_answer (s : State) (a : Option Answer) (target : WriteTarget) (index : Nat) :
    State.readTarget { s with answer := a } target index = s.readTarget target index := by
  unfold State.readTarget
  split <;> rfl

/-- A taken WRITE FIELD names a listed field that can be written, and answers what it then holds. -/
theorem State.writeField_taken {s : State} {table index field : Nat} {v : Int}
    (h : (s.writeField table index field v).outcome = .done ∨
      (s.writeField table index field v).outcome = .clamped) :
    ∃ t, tableOf table = some t ∧ fieldKnown t index field = true ∧ index < tableSize t ∧
      writeTarget t field ≠ .readOnly ∧ (s.writeField table index field v).content =
        valueBytes ((s.writeField table index field v).part.readTarget (writeTarget t field) index) := by
  have hplain (o : AnswerCode) (ho : o ≠ .done ∧ o ≠ .clamped)
      (e : s.writeField table index field v = Reply.plain s o) : False := by
    rw [e] at h
    exact h.elim ho.1 ho.2
  cases ht : tableOf table with
  | none => exact (hplain _ (by simp) (State.writeField_of_no_table v ht)).elim
  | some t =>
    cases hknown : fieldKnown t index field with
    | false => exact (hplain _ (by simp) (State.writeField_of_unknown v ht hknown)).elim
    | true =>
      rcases Nat.lt_or_ge index (tableSize t) with hindex | hindex
      · have hwrite : s.writeField table index field v = s.writeAt (writeTarget t field) index v :=
          State.writeField_inside v ht hknown hindex
        have hholds := s.writeAt_holds (writeTarget t field) index v
        rw [← hwrite] at hholds
        rcases hholds with ⟨o, ⟨hdone, hclamped, -⟩, e⟩ | ⟨-, hcontent⟩
        · exact (hplain o ⟨hdone, hclamped⟩ e).elim
        · refine ⟨t, rfl, hknown, hindex, fun hro => ?_, hcontent⟩
          rw [hro] at hwrite
          exact hplain .unknown (by simp) hwrite
      · exact (hplain _ (by simp) (State.writeField_outside v ht hknown hindex)).elim

theorem putAnswer_inj {s t : State} {src code src' code' : Byte} {o o' : AnswerCode} {c c' : List Byte}
    (h : s.putAnswer src code o c = t.putAnswer src' code' o' c') :
    o = o' ∧ c = c' ∧ ({ s with answer := none } : State) = { t with answer := none } := by
  have hanswer := Option.some.inj (congrArg State.answer h)
  refine ⟨congrArg Answer.outcome hanswer, congrArg Answer.content hanswer, ?_⟩
  exact congrArg (fun u : State => { u with answer := none }) h

/-- Settles O9: the write holds what its target reads, and no beginning changes that. -/
theorem writtenValueReadsBack : Obligations.WrittenValueReadsBack := by
  intro src table index field v s t o content hanswer ho hexec
  have hempty := s.beginAll_step.answer_none hanswer
  have htaken : exec (.writeField src table index field v) s = .next (s.beginAll.takeRequest src
      codeWriteField true (State.writeField table index field v)) := rfl
  rw [htaken] at hexec
  have hexec := Host.Outcome.next.inj hexec
  generalize s.beginAll = u at *
  have hcarried : (u.writeField table index field v).part.putAnswer src codeWriteField
      (u.writeField table index field v).outcome (u.writeField table index field v).content =
        t.putAnswer src 0x02 o content := by
    rcases u.takeRequest_cases src codeWriteField true (State.writeField table index field v) with
      ⟨hne, -⟩ | ⟨-, -, -, e⟩ | ⟨-, -, e⟩
    · exact absurd hempty hne
    · obtain ⟨hlocked, -⟩ := putAnswer_inj (e.symm.trans hexec)
      rw [← hlocked] at ho
      simp at ho
    · exact e.symm.trans hexec
  obtain ⟨houtcome, hcontent, hpart⟩ := putAnswer_inj hcarried
  rw [← houtcome] at ho
  obtain ⟨table', ht, hknown, hindex, hwritable, hheld⟩ := State.writeField_taken ho
  rw [← hpart]
  generalize hp : (u.writeField table index field v).part = p at *
  have hread : exec (.readField src table index field) { p with answer := none } =
      .next (State.beginAll { p with answer := none } |>.takeRequest src codeReadField false
        (State.readField table index field)) := rfl
  have hempty' := (State.beginAll_step { p with answer := none }).answer_none rfl
  rw [hread, State.takeRequest_open _ _ _ hempty', State.readField_inside ht hknown hindex,
    State.readValue_eq_readTarget _ _ _ _ hwritable,
    (State.beginAll_step { p with answer := none }).readTarget, State.readTarget_answer, ← hcontent, hheld]
  rfl

end Sys2Proof.Machine
end

section
/-! PROOFS. The part as a machine, its power-on values and what READ FIELD and READ STATUS answer: the
settling of O1, O2, O4, O10 and O11. -/

namespace Sys2Proof.Machine

open Sys2Proof

/-! ## Steps -/

/-- Settles O1. -/
theorem stepRunsFrontCommand : Obligations.StepRunsFrontCommand := fun _ _ _ => rfl

theorem step_of_no_command {s : State} (h : s.pending = []) : step s = .next s.idle := by
  simp [step, h]

/-- The open-time count of a second, as a condition on the loop. -/
theorem Loop.countOpen_eq (l : Loop) (openState : HeadState) : l.countOpen openState =
    if l.inCycle = true ∧ l.head = openState then { l with openCount := min 3600 (l.openCount + 1) }
    else l := by
  simp only [Loop.countOpen, Bool.and_eq_true, beq_iff_eq, Config.openMax]

/-- Settles O2: the three branches of the idle part, in the order in which it tries them. -/
theorem stepIdlesOneSecond : Obligations.StepIdlesOneSecond := by
  intro s hpending
  rw [step_of_no_command hpending, ← State.beginDue_eq_false_iff, Bool.not_eq_false, State.idle]
  refine ⟨fun hdue => ?_, fun hdue hevent => ?_, fun hdue hevent => ?_⟩
  · rw [if_pos hdue]
  · rw [if_neg (by simp [hdue]), if_pos hevent]
  · rw [if_neg (by simp [hdue]), if_neg (by simp [hevent])]
    simp only [State.tick, State.mapLoops, Loop.countOpen_eq]

/-! ## Power-on (R148) -/

/-- Settles O4: POWER_ON is the reset record with the straps read; each table of it entry by entry. -/
theorem powerOnSetsEveryValue : Obligations.PowerOnSetsEveryValue := by
  intro straps s
  refine ⟨_, rfl, rfl, rfl, rfl, rfl, rfl, rfl, rfl, rfl, rfl, rfl, ?_, rfl, fun i => ?_, fun c => ?_,
    fun p => ?_, fun r => ?_, fun e => ?_, rfl, rfl, fun p => ?_, fun r => ?_, rfl, fun i => ?_, rfl⟩
  · rfl
  · fin_cases i <;> rfl
  · fin_cases c <;> rfl
  · fin_cases p <;> rfl
  · fin_cases r <;> rfl
  · fin_cases e <;> rfl
  · cases p <;> rfl
  · fin_cases r <;> rfl
  · fin_cases i <;> rfl

/-! ## Codes and encodings (R157, R158) -/

/-- The four bytes of a 32-bit value spell it in two's complement. -/
theorem toInt_valueBytes {v : Int} (hlo : -2147483648 ≤ v) (hhi : v ≤ 2147483647) :
    ∃ a b c d, valueBytes v = [a, b, c, d] ∧ (a ++ b ++ c ++ d : BitVec 32).toInt = v := by
  refine ⟨_, _, _, _, rfl, ?_⟩
  have hbytes : ∀ w : BitVec 32, w.extractLsb' 24 8 ++ w.extractLsb' 16 8 ++ w.extractLsb' 8 8 ++
      w.extractLsb' 0 8 = w := by
    intro w
    iterate 3 rw [BitVec.extractLsb'_append_extractLsb'_eq_extractLsb' (by rfl)]
    exact BitVec.extractLsb'_eq_self
  rw [hbytes, BitVec.toInt_ofInt, Int.bmod_eq_of_le] <;> omega

/-- Settles O11: the codes by evaluation, the bytes through `toInt_valueBytes`. -/
theorem codesAndEncodings : Obligations.CodesAndEncodings := by
  refine ⟨rfl, rfl, rfl, rfl, rfl, rfl, rfl, rfl, rfl, rfl, rfl, rfl, rfl, rfl, rfl, rfl, rfl, by decide,
    rfl, rfl, rfl, rfl, rfl, rfl, fun _ => rfl, rfl, fun _ => rfl, rfl, fun _ => rfl,
    fun _ => ⟨rfl, fun _ => rfl⟩, fun v => toInt_valueBytes⟩

/-! ## READ FIELD (R145, R159) -/

section reads
variable {s : State} (hn : s.NothingToBegin) (ha : s.answer = none) (src : Byte) {field : Nat} {v : Int}
include hn ha

/-- A field that exists, at an index of its table, is answered with its value. -/
theorem reads_of_readValue {table index : Nat} {t : TableId} (ht : tableOf table = some t)
    (hknown : fieldKnown t index field = true) (hindex : index < tableSize t)
    (hv : s.readValue t index field = v) : Reads src table index s field v := by
  show Host.Outcome.next (s.beginAll.takeRequest src codeReadField false _) = _
  rw [State.beginAll_of_nothing hn, State.takeRequest_open _ _ _ ha, State.readField_inside ht hknown hindex,
    hv]
  rfl

theorem reads_general (hknown : fieldKnown .general 0 field = true) (hv : s.readGeneral field = v) :
    Reads src 1 0 s field v :=
  reads_of_readValue hn ha src rfl hknown Nat.one_pos hv

theorem reads_loop (i : Fin 16) (hknown : fieldKnown .loops 0 field = true) (hv : s.readLoop i field = v) :
    Reads src 2 i s field v :=
  reads_of_readValue hn ha src rfl hknown i.isLt (by rw [State.readValue, Fin.ofNat_val_eq_self, hv])

theorem reads_room (r : Fin 12) (hknown : fieldKnown .rooms 0 field = true) (hv : s.readRoom r field = v) :
    Reads src 3 r s field v :=
  reads_of_readValue hn ha src rfl hknown r.isLt (by rw [State.readValue, Fin.ofNat_val_eq_self, hv])

theorem reads_probe (e : Fin 32) (hknown : fieldKnown .probes 0 field = true)
    (hv : s.readProbe e field = v) : Reads src 4 e s field v :=
  reads_of_readValue hn ha src rfl hknown e.isLt (by rw [State.readValue, Fin.ofNat_val_eq_self, hv])

theorem reads_rule (r : Fin 24) (hknown : fieldKnown .rules 0 field = true) (hv : s.readRule r field = v) :
    Reads src 5 r s field v :=
  reads_of_readValue hn ha src rfl hknown r.isLt (by rw [State.readValue, Fin.ofNat_val_eq_self, hv])

theorem reads_class (c : Fin 4) (hknown : fieldKnown .classes 0 field = true)
    (hv : s.readClass c field = v) : Reads src 6 c s field v :=
  reads_of_readValue hn ha src rfl hknown c.isLt (by rw [State.readValue, Fin.ofNat_val_eq_self, hv])

theorem reads_profile (p : Fin 4) (hknown : fieldKnown .profiles 0 field = true)
    (hv : s.readProfile p field = v) : Reads src 7 p s field v :=
  reads_of_readValue hn ha src rfl hknown p.isLt (by rw [State.readValue, Fin.ofNat_val_eq_self, hv])

theorem reads_sweep (i : Fin 16) (hknown : fieldKnown .sweepResults 0 field = true)
    (hv : s.readSweep i field = v) : Reads src 8 i s field v :=
  reads_of_readValue hn ha src rfl hknown i.isLt (by rw [State.readValue, Fin.ofNat_val_eq_self, hv])

/-- The counters 1 to 7 of a port. -/
theorem reads_counter (p : PortId) (hknown : fieldKnown .counters 0 field = true)
    (hv : s.readCounter (portCode p) field = v) : Reads src 9 (portCode p) s field v := by
  have hk : fieldKnown .counters (portCode p) field = true := by
    simp only [fieldKnown, Bool.or_eq_true, Bool.and_eq_true] at hknown ⊢
    exact .inl (hknown.resolve_right (by simp))
  exact reads_of_readValue hn ha src rfl hk (by cases p <;> decide) hv

/-- Field 20 and those after it read the rejected counts of the probe entries. -/
theorem reads_rejected (e : Fin 32) : Reads src 9 1 s (20 + e) (s.probe e).rejected := by
  refine reads_of_readValue hn ha src (t := .counters) rfl ((fieldKnown_rejected 1 e).mpr ⟨by decide, e.isLt⟩)
    (by decide) ?_
  fin_cases e <;> rfl

end reads

/-! ## Ages -/

theorem State.cast_ageSince (s : State) (start : Nat) :
    ((s.ageSince start : Nat) : Int) = min 65535 ((s.now - start : Nat) : Int) := Nat.cast_min ..

theorem State.cast_roomAge (s : State) (r : Fin 12) : ((s.roomAge r : Nat) : Int) =
    if (s.room r).unitAddress = 0 then 0 else min 65535 ((s.now - (s.room r).ageStart : Nat) : Int) := by
  unfold State.roomAge
  split
  · rfl
  · exact s.cast_ageSince _

theorem State.cast_probeAge (s : State) (e : Fin 32) : ((s.probeAge e : Nat) : Int) =
    if (s.probe e).valid = true then min 65535 ((s.now - (s.probe e).ageStart : Nat) : Int) else 0 := by
  unfold State.probeAge
  split
  · exact s.cast_ageSince _
  · rfl

/-! ## The fields -/

theorem generalAndLoopFieldsRead : Parts.GeneralAndLoopFieldsRead := by
  intro src s hn ha
  refine ⟨?_, fun i => ?_⟩
  · have haddress : Reads src 1 0 s 20 (112 + s.strap.toNat) :=
      reads_general hn ha src rfl (Int.natCast_add 112 _)
    have hsupply : Reads src 1 0 s 23 (min 65535 (s.now - s.supply.ageStart : Nat)) :=
      reads_general hn ha src rfl (s.cast_ageSince _)
    have hreport : Reads src 1 0 s 26 (min 65535 (s.now - s.supply.tempStart : Nat)) :=
      reads_general hn ha src rfl (s.cast_ageSince _)
    refine ⟨?_, ?_, ?_, ?_, ?_, ?_, ?_, ?_, ?_, ?_, ?_, ?_, ?_, ?_, ?_, haddress, ?_, ?_, hsupply, ?_, ?_,
      hreport, ?_⟩
    all_goals and_intros
    all_goals exact reads_general hn ha src rfl rfl
  · and_intros
    all_goals exact reads_loop hn ha src i rfl rfl

theorem otherFieldsRead : Parts.OtherFieldsRead := by
  intro src s hn ha
  refine ⟨fun r => ?_, fun e => ?_, fun r => ?_, fun c => ?_, fun q => ?_, fun i => ?_, fun p => ?_,
    reads_rejected hn ha src⟩
  · have hage := reads_room hn ha src r (field := 24) rfl (s.cast_roomAge r)
    refine ⟨?_, ?_, ?_, ?_, ?_, ?_, ?_, ?_, ?_, ?_, ?_, hage, ?_⟩
    all_goals and_intros
    all_goals exact reads_room hn ha src r rfl rfl
  · have hage := reads_probe hn ha src e (field := 23) rfl (s.cast_probeAge e)
    refine ⟨?_, ?_, ?_, ?_, ?_, ?_, ?_, ?_, ?_, ?_, hage, ?_⟩
    all_goals and_intros
    all_goals exact reads_probe hn ha src e rfl rfl
  · and_intros
    all_goals exact reads_rule hn ha src r rfl rfl
  · and_intros
    all_goals exact reads_class hn ha src c rfl rfl
  · and_intros
    all_goals exact reads_profile hn ha src q rfl rfl
  · and_intros
    all_goals exact reads_sweep hn ha src i rfl rfl
  · cases p
    all_goals and_intros
    all_goals exact reads_counter hn ha src _ rfl rfl

theorem HeadState.holdsSlot_eq (h : HeadState) : h.holdsSlot =
    decide (h ∈ [HeadState.energisePending, .energiseSent, .energised, .silentEnergise, .releasePending]) := by
  cases h <;> decide

theorem statusRead : Parts.StatusRead := by
  intro src s hn ha
  have hbody : exec (.readStatus src) s = .next (s.putAnswer src 0x0A .done
      [byteOf s.mode.code, byteOf (if s.lock then 1 else 0), byteOf s.shedLevel,
        byteOf (if s.alloc.short then 1 else 0), byteOf s.holders]) := by
    change Host.Outcome.next (s.beginAll.takeRequest src codeReadStatus false State.readStatus) = _
    rw [State.beginAll_of_nothing hn, State.takeRequest_open _ _ _ ha]
    rfl
  have hholders : s.holders = loopIds.countP fun i => decide ((s.loop i).head ∈
      [HeadState.energisePending, .energiseSent, .energised, .silentEnergise, .releasePending]) := by
    simp only [State.holders, HeadState.holdsSlot_eq]
  rw [hbody, hholders]
  refine congrArg Host.Outcome.next (congrArg (s.putAnswer src 0x0A .done) ?_)
  refine congrArg₂ List.cons ?mode (congrArg₂ List.cons ?lock (congrArg₂ List.cons ?shed
    (congrArg₂ List.cons ?short rfl)))
  case mode => cases s.mode <;> rfl
  case lock => cases s.lock <;> rfl
  case shed =>
    refine congrArg (fun n => BitVec.ofNat 8 (max s.general.manualShedLevel n)) ?_
    unfold State.sourceShedLevel
    cases s.supply.source <;> rfl
  case short => cases s.alloc.short <;> rfl

/-- Settles O10. -/
theorem fieldsRead : Obligations.FieldsRead := ⟨generalAndLoopFieldsRead, otherFieldsRead, statusRead⟩

end Sys2Proof.Machine
end

section
/-! PROOFS. The writes of a loop, of a profile and of a counter (R2 to R5, R8, R9, R115): the settling of
O12, O13, O15 and O21. -/

namespace Sys2Proof.Machine

open Sys2Proof

/-! ## Orders under way (R2, R10) -/

theorem State.orderInTransmission_eq_true (s : State) (i : Fin 16) :
    s.orderInTransmission i = true ↔ ∃ a t, s.portM.tx = some (.headOrder i a t false) := by
  unfold State.orderInTransmission
  split
  next j a t orphan htx =>
    simp only [htx, Bool.and_eq_true, beq_iff_eq, Bool.not_eq_true', Option.some.injEq,
      Transmission.headOrder.injEq]
    exact ⟨fun ⟨hj, ho⟩ => ⟨a, t, hj, rfl, rfl, ho⟩, fun ⟨_, _, hj, _, _, ho⟩ => ⟨hj, ho⟩⟩
  all_goals simp_all

theorem State.orderOutstanding_eq_true (s : State) (i : Fin 16) :
    s.orderOutstanding i = true ↔ s.OrderUnderWay i := by
  rw [State.orderOutstanding, Bool.or_eq_true, Bool.or_eq_true, State.orderInTransmission_eq_true,
    or_assoc]
  simp only [State.OrderUnderWay, State.orderQueued, Loop.awaitsEcho, List.any_eq_true, beq_iff_eq,
    Bool.or_eq_true]

theorem State.orderOutstanding_eq_false (s : State) (i : Fin 16) :
    s.orderOutstanding i = false ↔ ¬s.OrderUnderWay i := by
  rw [← State.orderOutstanding_eq_true, Bool.not_eq_true]

/-! ## The static fields of a loop (R2) -/

section loops
variable {s t : State} {i : Fin 16} {v w : Int} {o : AnswerCode} {b : Bool}

theorem State.writeLoopStatic_enabled (field : LoopStaticField) (h : (s.loop i).state ≠ .disabled) :
    s.writeLoopStatic field v i = Reply.plain s .static := if_pos h

theorem State.storeLoop_outside {hi : Int} (f : Loop → Nat → Loop) (h : ¬(0 ≤ v ∧ v ≤ hi)) :
    s.storeLoop i hi v f = Reply.plain s .range := if_pos (by omega)

theorem State.storeLoop_inside {hi : Int} (f : Loop → Nat → Loop) (n : Nat) (h : (n : Int) ≤ hi) :
    s.storeLoop i hi n f = Reply.held (s.setLoop i (f (s.loop i) n)) false n := if_neg (by omega)

theorem State.storeHeadBinding_outside {hi : Int} (f : Loop → Nat → Loop) (h : ¬(0 ≤ v ∧ v ≤ hi)) :
    s.storeHeadBinding i hi v f = Reply.plain s .range := if_pos (by omega)

theorem State.storeHeadBinding_busy {hi : Int} (f : Loop → Nat → Loop) (hlo : 0 ≤ v) (hhi : v ≤ hi)
    (h : s.OrderUnderWay i) : s.storeHeadBinding i hi v f = Reply.plain s .busy := by
  rw [State.storeHeadBinding, if_neg (by omega), if_pos (s.orderOutstanding_eq_true i |>.mpr h)]

theorem State.storeHeadBinding_inside {hi : Int} (f : Loop → Nat → Loop) (n : Nat) (hn : (n : Int) ≤ hi)
    (h : ¬s.OrderUnderWay i) :
    s.storeHeadBinding i hi n f = Reply.held (s.setLoop i (f (s.loop i) n)) false n := by
  rw [State.storeHeadBinding, if_neg (by omega),
    if_neg (by rw [s.orderOutstanding_eq_true]; exact h)]
  rfl

theorem State.tuneLoop_eq {lo hi n : Nat} (f : Loop → Nat → Loop) (h : lo ≤ hi)
    (hn : (n : Int) = max (lo : Int) (min v hi)) :
    s.tuneLoop i lo hi v f = Reply.held (s.setLoop i (f (s.loop i) n)) (decide ((n : Int) ≠ v)) n := by
  obtain rfl := clampNat_eq h hn
  rfl

theorem loopStaticFieldWrite_answers {field : LoopStaticField} (hs : s.Takes) (src : Byte)
    (hwrite : s.writeLoopStatic field v i = Reply.plain s o) :
    Answers (.loopStaticFieldWrite src i field v) src 0x02 s s o :=
  answers_of_plain hs rfl ((withIndex_val i s _).trans hwrite)

theorem loopStaticFieldWrite_stores {field : LoopStaticField} (hs : s.Takes) (src : Byte)
    (hwrite : s.writeLoopStatic field v i = Reply.held t b w) (hb : b = decide (w ≠ v)) :
    Stores (.loopStaticFieldWrite src i field v) src s t v w :=
  stores_of_held hs rfl ((withIndex_val i s _).trans hwrite) hb

end loops

theorem loopStaticFieldWritten : Parts.LoopStaticFieldWritten := by
  intro src i v s hs
  refine ⟨fun h field => ?_, fun hd => ?_⟩
  · exact loopStaticFieldWrite_answers hs src (State.writeLoopStatic_enabled field h)
  have hstatic : ∀ field, s.writeLoopStatic field v i = _ := fun field => if_neg (not_not.mpr hd)
  refine ⟨fun hv => ?_, fun hv => ?_, fun hbusy => ⟨fun hlo hhi => ?_, fun hlo hhi => ?_⟩, ?_, fun hv => ?_, ?_,
    fun w hw => ?_, fun w hw => ?_, fun w hw => ?_⟩
  · exact loopStaticFieldWrite_answers hs src
      ((hstatic .driverAddress).trans (State.storeHeadBinding_outside _ hv))
  · exact loopStaticFieldWrite_answers hs src
      ((hstatic .headChannel).trans (State.storeHeadBinding_outside _ hv))
  · exact loopStaticFieldWrite_answers hs src
      ((hstatic .driverAddress).trans (State.storeHeadBinding_busy _ hlo hhi hbusy))
  · exact loopStaticFieldWrite_answers hs src
      ((hstatic .headChannel).trans (State.storeHeadBinding_busy _ hlo hhi hbusy))
  · rintro hfree n rfl
    refine ⟨fun hn => ?_, fun hn => ?_⟩
    · exact loopStaticFieldWrite_stores hs src ((hstatic .driverAddress).trans
        (State.storeHeadBinding_inside _ n (Int.ofNat_le.mpr hn) hfree)) (by simp)
    · exact loopStaticFieldWrite_stores hs src ((hstatic .headChannel).trans
        (State.storeHeadBinding_inside _ n (Int.ofNat_le.mpr hn) hfree)) (by simp)
  · refine ⟨?_, ?_⟩
    · exact loopStaticFieldWrite_answers hs src
        ((hstatic .profile).trans (State.storeLoop_outside _ hv))
    · exact loopStaticFieldWrite_answers hs src
        ((hstatic .floorClass).trans (State.storeLoop_outside _ hv))
  · rintro n rfl
    have hn : ((n.val : Nat) : Int) ≤ 3 := by omega
    have hfin : Fin.ofNat 4 n.val = n := Fin.ofNat_val_eq_self n
    refine ⟨?_, ?_⟩
    · have h := (hstatic .profile).trans (State.storeLoop_inside _ n.val hn)
      rw [hfin] at h
      exact loopStaticFieldWrite_stores hs src h (by simp)
    · have h := (hstatic .floorClass).trans (State.storeLoop_inside _ n.val hn)
      rw [hfin] at h
      exact loopStaticFieldWrite_stores hs src h (by simp)
  · exact loopStaticFieldWrite_stores hs src
      ((hstatic .weight).trans (State.tuneLoop_eq _ (by decide) hw)) rfl
  · exact loopStaticFieldWrite_stores hs src
      ((hstatic .phase).trans (State.tuneLoop_eq _ (by decide) hw)) rfl
  · exact loopStaticFieldWrite_stores hs src
      ((hstatic .fallbackDuty).trans (State.tuneLoop_eq _ (by decide) hw)) rfl

/-! ## The room of a loop (R4) -/

/-- The other loops of a room, as the check of R4 counts them. -/
theorem State.others_in_room (s : State) (i : Fin 16) (r : Fin 12) :
    ((s.loopList r).countP fun j => j != i) =
      (loopIds.filter fun j => j ≠ i ∧ (s.loop j).room = some r).length := by
  rw [State.loopList, List.countP_filter, List.countP_eq_length_filter]
  congr 2
  funext j
  rw [Bool.eq_iff_iff]
  simp

theorem loopRoomWritten : Parts.LoopRoomWritten := by
  intro src i v s hs
  refine ⟨fun h => ?_, fun hd => ⟨?_, fun hv => ?_, ?_⟩⟩
  · exact answers_of_plain hs rfl ((withIndex_val i s _).trans (if_pos h))
  · rintro rfl
    exact stores_of_held hs rfl ((withIndex_val i s _).trans ((if_neg (not_not.mpr hd)).trans (if_pos rfl)))
      (by simp)
  · refine answers_of_plain hs rfl ((withIndex_val i s _).trans ?_)
    rw [State.writeLoopRoom, if_neg (not_not.mpr hd), if_neg (by omega), if_pos (by omega)]
  · rintro r rfl
    have hwrite : s.writeLoopRoom r.val i =
        if 3 ≤ (loopIds.filter fun j => j ≠ i ∧ (s.loop j).room = some r).length then
          Reply.plain s .conflict
        else Reply.held (s.setLoop i { s.loop i with room := some r }) false r.val := by
      rw [State.writeLoopRoom, if_neg (not_not.mpr hd), if_neg (by omega), if_neg (by omega),
        Int.toNat_natCast, Fin.ofNat_val_eq_self, ← State.others_in_room]
      rfl
    refine ⟨fun h => ?_, fun h => ?_⟩
    · exact answers_of_plain hs rfl ((withIndex_val i s _).trans (hwrite.trans (if_pos h)))
    · exact stores_of_held hs rfl
        ((withIndex_val i s _).trans (hwrite.trans (if_neg (Nat.not_le.mpr h)))) (by simp)

/-- Settles O12. -/
theorem loopStaticFieldsWritten : Obligations.LoopStaticFieldsWritten :=
  ⟨loopStaticFieldWritten, loopRoomWritten⟩

/-! ## Share, level and group (R3, R5) -/

section priorities
variable {s : State} {i : Fin 16} {v : Int} {w : Nat}

/-- The clamp of the share, as the statements write it. -/
theorem clampNat_share {lo hi share : Nat} (h : lo ≤ hi) :
    clampNat lo hi share = max lo (min share hi) :=
  clampNat_eq h (by omega)

theorem State.writeShare_smin (hd : (s.loop i).state = .disabled)
    (hw : (w : Int) = min (max 64 (min v 4096)) (s.loop i).smax) :
    s.writeShare .smin v i = Reply.held (s.setLoop i { s.loop i with
        smin := w, share := max w (min (s.loop i).share (s.loop i).smax) })
      (decide ((w : Int) ≠ v) || max w (min (s.loop i).share (s.loop i).smax) != (s.loop i).share) w := by
  have hcast := clampNat_cast 64 4096 v (by decide)
  obtain rfl : min (clampNat 64 4096 v) (s.loop i).smax = w := by omega
  have hshare : clampNat (min (clampNat 64 4096 v) (s.loop i).smax) (s.loop i).smax (s.loop i).share = _ :=
    clampNat_share (Nat.min_le_right ..)
  rw [← hshare]
  exact if_neg (not_not.mpr hd)

theorem State.writeShare_smax (hd : (s.loop i).state = .disabled)
    (hw : (w : Int) = max (max 64 (min v 4096)) (s.loop i).smin) :
    s.writeShare .smax v i = Reply.held (s.setLoop i { s.loop i with
        smax := w, share := max (s.loop i).smin (min (s.loop i).share w) })
      (decide ((w : Int) ≠ v) || max (s.loop i).smin (min (s.loop i).share w) != (s.loop i).share) w := by
  have hcast := clampNat_cast 64 4096 v (by decide)
  obtain rfl : max (clampNat 64 4096 v) (s.loop i).smin = w := by omega
  have hshare : clampNat (s.loop i).smin (max (clampNat 64 4096 v) (s.loop i).smin) (s.loop i).share = _ :=
    clampNat_share (Nat.le_max_right ..)
  rw [← hshare]
  exact if_neg (not_not.mpr hd)

/-- The outcome of a write that may move the share: DONE where nothing was altered. -/
theorem altered_outcome (w v : Int) (share held : Nat) :
    (if (decide (w ≠ v) || share != held) = true then AnswerCode.clamped else .done) =
      if w = v ∧ share = held then .done else .clamped := by
  by_cases hw : w = v <;> by_cases hs : share = held <;> simp [hw, hs]

/-- The command, where the part takes it, is answered with the reply of the write. -/
theorem exec_shareWrite (hs : s.Takes) (src : Byte) (field : ShareField) :
    exec (.shareWrite src i field v) s = .next ((s.writeShare field v i).part.putAnswer src 0x02
      (s.writeShare field v i).outcome (s.writeShare field v i).content) := by
  have ⟨_, _, hnothing⟩ := hs
  show Host.Outcome.next (s.beginAll.takeWrite src _) = _
  rw [State.beginAll_of_nothing hnothing, State.takeWrite, State.takeRequest_taken _ _ _ _ hs,
    show State.writeAt (.share field) i v s = s.writeShare field v i from withIndex_val i s _]
  rfl

end priorities

theorem shareWritten : Parts.ShareWritten := by
  intro src i v s hs hlimits
  refine ⟨fun h => ⟨?_, ?_⟩, fun hd => ⟨fun w hw => ?_, fun w hw => ?_⟩, fun w hw => ?_⟩
  · exact answers_of_plain hs rfl ((withIndex_val i s _).trans (if_pos h))
  · exact answers_of_plain hs rfl ((withIndex_val i s _).trans (if_pos h))
  · rw [exec_shareWrite hs, State.writeShare_smin hd hw, ← altered_outcome]
    rfl
  · rw [exec_shareWrite hs, State.writeShare_smax hd hw, ← altered_outcome]
    rfl
  · obtain rfl := clampNat_eq hlimits hw
    exact stores_of_held hs rfl (withIndex_val i s _) rfl

/-- The states that take part in balancing, allocation and drive. -/
theorem Loop.engaged_iff (l : Loop) : l.engaged = true ↔ l.state ∈ [.running, .shed, .fault] := by
  simp [Loop.engaged, or_assoc]

theorem State.writePriority_level {s : State} {i : Fin 16} {v : Int} {w : Nat} (hw : (w : Int) = max 0 (min v 7)) :
    s.writePriority .level v i = Reply.held
      (if (s.loop i).engaged = true then (s.setLoop i { s.loop i with level := w }).recompute
        else s.setLoop i { s.loop i with level := w }) (decide ((w : Int) ≠ v)) w := by
  obtain rfl := clampNat_eq (lo := 0) (hi := 7) (by decide) hw
  rfl

theorem levelAndGroupWritten : Parts.LevelAndGroupWritten := by
  intro src i v s hs
  refine ⟨fun w hw => ⟨?_, fun h => ?_⟩, fun w hw => ?_⟩
  · rintro ⟨hstate, -⟩
    exact stores_of_held hs rfl ((withIndex_val i s _).trans ((State.writePriority_level hw).trans
      (by rw [if_pos ((Loop.engaged_iff _).mpr hstate)]))) rfl
  · refine stores_of_held hs rfl ((withIndex_val i s _).trans ((State.writePriority_level hw).trans ?_)) rfl
    split
    next he =>
      exact congrArg (Reply.held · _ _)
        (State.recompute_of_not_driving fun hm => h ⟨(Loop.engaged_iff _).mp he, hm⟩)
    next => rfl
  · obtain rfl := clampNat_eq (lo := 0) (hi := 3) (by decide) hw
    exact stores_of_held hs rfl (withIndex_val i s _) rfl

/-- Settles O13. -/
theorem dynamicFieldsWritten : Obligations.DynamicFieldsWritten :=
  ⟨shareWritten, levelAndGroupWritten⟩

/-! ## Profiles (R8, R9) -/

section profiles
variable {s : State} {p : Fin 4} {v : Int} {w : Nat}

theorem Polarity.ofValue_outside (h0 : v ≠ 0) (h1 : v ≠ 1) : Polarity.ofValue v = none := by
  rw [Polarity.ofValue, if_neg h0, if_neg h1]

theorem State.writeProfile_outside_passive (h : s.mode ≠ .passive) (field : ProfileField) :
    s.writeProfile field v p = Reply.plain s .static := if_pos h

theorem State.writeProfile_polarity_outside (h : s.mode = .passive) (h0 : v ≠ 0) (h1 : v ≠ 1) :
    s.writeProfile .polarity v p = Reply.plain s .range := by
  rw [State.writeProfile, if_neg (not_not.mpr h)]
  simp only [Polarity.ofValue_outside h0 h1]

theorem State.writeProfile_polarity (h : s.mode = .passive) (q : Polarity) :
    s.writeProfile .polarity q.code p =
      Reply.held (s.setProfile p { s.profile p with polarity := q }) false q.code := by
  rw [State.writeProfile, if_neg (not_not.mpr h)]
  cases q <;> rfl

theorem State.writeProfile_opening (h : s.mode = .passive)
    (hw : (w : Int) = min (max 30 (min v 600)) (s.general.cycleLength / 2 : Nat)) :
    s.writeProfile .opening v p = Reply.held (s.setProfile p { s.profile p with opening := w })
      (decide ((w : Int) ≠ v)) w := by
  have hcast := clampNat_cast 30 600 v (by decide)
  obtain rfl : min (clampNat 30 600 v) (s.general.cycleLength / 2) = w := by omega
  exact if_neg (not_not.mpr h)

theorem State.writeProfile_closing (h : s.mode = .passive) (hw : (w : Int) = max 30 (min v 600)) :
    s.writeProfile .closing v p = Reply.held (s.setProfile p { s.profile p with closing := w })
      (decide ((w : Int) ≠ v)) w := by
  obtain rfl := clampNat_eq (lo := 30) (hi := 600) (by decide) hw
  exact if_neg (not_not.mpr h)

end profiles

/-- Settles O15. -/
theorem profileWritten : Obligations.ProfileWritten := by
  refine ⟨fun s i => ⟨rfl, fun h => ?_, fun h => ?_⟩, fun src p v s hs => ⟨fun hm field => ?_, fun hm => ?_⟩,
    fun s => rfl⟩
  · simp [State.openingAction, State.closingAction, State.openState, State.profileOf, h, Polarity.opening,
      Polarity.closing, Action.target]
  · simp [State.openingAction, State.closingAction, State.openState, State.profileOf, h, Polarity.opening,
      Polarity.closing, Action.target]
  · exact answers_of_plain hs rfl ((withIndex_val p s _).trans (State.writeProfile_outside_passive hm field))
  refine ⟨fun h0 h1 => ?_, ?_, ?_, fun w hw => ?_, fun w hw => ?_⟩
  · exact answers_of_plain hs rfl ((withIndex_val p s _).trans (State.writeProfile_polarity_outside hm h0 h1))
  · rintro rfl
    exact stores_of_held hs rfl ((withIndex_val p s _).trans (State.writeProfile_polarity hm .nc)) (by simp)
  · rintro rfl
    exact stores_of_held hs rfl ((withIndex_val p s _).trans (State.writeProfile_polarity hm .no)) (by simp)
  · exact stores_of_held hs rfl ((withIndex_val p s _).trans (State.writeProfile_opening hm hw)) rfl
  · exact stores_of_held hs rfl ((withIndex_val p s _).trans (State.writeProfile_closing hm hw)) rfl

/-! ## Counters (R115) -/

theorem portOfIndex_portCode (p : PortId) : portOfIndex (portCode p) = p := by cases p <;> rfl

theorem portCode_lt (p : PortId) : portCode p < 2 := by cases p <;> decide

/-- The write of a port counter, whatever the value. -/
theorem State.writeCounter_port (s : State) (p : PortId) {field : CounterField}
    (h : ∀ e, field ≠ .rejected e) : s.writeCounter field (portCode p) =
      Reply.held (s.setPort p { s.port p with counters := (s.port p).counters.reset field }) false 0 := by
  have hindex : ¬2 ≤ portCode p := Nat.not_le.mpr (portCode_lt p)
  cases field
  case rejected e => exact absurd rfl (h e)
  all_goals
    simp only [State.writeCounter, if_neg hindex, portOfIndex_portCode]
    rfl

theorem counterWrite_stores {s : State} (hs : s.Takes) (src : Byte) (p : PortId) (v : Int) {field : CounterField}
    (h : ∀ e, field ≠ .rejected e) : Stores (.counterWrite src (portCode p) field v) src s
      (s.setPort p { s.port p with counters := (s.port p).counters.reset field }) 0 0 :=
  stores_of_held hs rfl (s.writeCounter_port p h) (by simp)

/-- Settles O21. -/
theorem counterWritten : Obligations.CounterWritten := by
  intro src p v s hs
  refine ⟨?_, ?_, ?_, ?_, ?_, ?_, ?_, fun e => ?_⟩
  · exact counterWrite_stores hs src p v (field := .forwarded) nofun
  · exact counterWrite_stores hs src p v (field := .damaged) nofun
  · exact counterWrite_stores hs src p v (field := .consecutiveDamaged) nofun
  · exact counterWrite_stores hs src p v (field := .overflow) nofun
  · exact counterWrite_stores hs src p v (field := .malformed) nofun
  · exact counterWrite_stores hs src p v (field := .strayEcho) nofun
  · exact counterWrite_stores hs src p v (field := .unmatched) nofun
  · refine stores_of_held hs rfl (b := false) ?_ (by simp)
    show s.writeRejected e.val 1 = _
    rw [State.writeRejected, dif_pos e.isLt, if_neg (by decide), if_neg (by decide)]

end Sys2Proof.Machine
end

section
/-! PROOFS. The writes of a probe entry and of GENERAL (R33, R38, R39, R45, R74, R75, R111, R125, R146): the
settling of O17, O18, O19 and O26. -/

namespace Sys2Proof.Machine

open Sys2Proof

/-! ## The fields of a probe entry (R38) -/

section probes
variable {s : State} {e : Fin 32} {v : Int}

theorem State.writeIdentity_valid {inRange : Bool} (f : Probe → Probe) (h : (s.probe e).valid = true) :
    s.writeIdentity e v inRange f = Reply.plain s .static := if_pos h

theorem State.writeIdentity_outside {inRange : Bool} (f : Probe → Probe) (h : (s.probe e).valid = false)
    (hr : inRange = false) : s.writeIdentity e v inRange f = Reply.plain s .range := by
  simp [State.writeIdentity, h, hr]

theorem State.writeIdentity_inside {inRange : Bool} (f : Probe → Probe) (h : (s.probe e).valid = false)
    (hr : inRange = true) :
    s.writeIdentity e v inRange f = Reply.held (s.setProbe e (f (s.probe e))) false v := by
  simp [State.writeIdentity, h, hr]

theorem State.writeProbe_moduleAddress : s.writeProbe .moduleAddress v e =
    s.writeIdentity e v (decide (0 ≤ v) && decide (v ≤ 126)) fun p => { p with moduleAddress := v.toNat } := rfl

theorem State.writeProbe_channel : s.writeProbe .channel v e =
    s.writeIdentity e v (decide (0 ≤ v) && decide (v ≤ 3)) fun p => { p with channel := v.toNat } := rfl

theorem State.writeProbe_role : s.writeProbe .role v e =
    s.writeIdentity e v (Role.ofValue v).isSome fun p => { p with role := (Role.ofValue v).getD p.role } := rfl

theorem State.writeProbe_loop : s.writeProbe .loop v e =
    s.writeIdentity e v (decide (0 ≤ v) && decide (v ≤ 15)) fun p => { p with loop := Fin.ofNat 16 v.toNat } :=
  rfl

theorem probeFieldWrite_answers {field : ProbeField} {o : AnswerCode} (hs : s.Takes) (src : Byte)
    (hwrite : s.writeProbe field v e = Reply.plain s o) :
    Answers (.probeFieldWrite src e field v) src 0x02 s s o :=
  answers_of_plain hs rfl ((withIndex_val e s _).trans hwrite)

theorem probeFieldWrite_stores {t : State} {field : ProbeField} {w : Int} {b : Bool} (hs : s.Takes) (src : Byte)
    (hwrite : s.writeProbe field v e = Reply.held t b w) (hb : b = decide (w ≠ v)) :
    Stores (.probeFieldWrite src e field v) src s t v w :=
  stores_of_held hs rfl ((withIndex_val e s _).trans hwrite) hb

theorem State.writeProbe_valid (h : (s.probe e).valid = true) {field : ProbeField}
    (hfield : field ∈ [ProbeField.moduleAddress, .channel, .role, .loop]) :
    s.writeProbe field v e = Reply.plain s .static := by
  cases field
  case moduleAddress => exact State.writeProbe_moduleAddress.trans (State.writeIdentity_valid _ h)
  case channel => exact State.writeProbe_channel.trans (State.writeIdentity_valid _ h)
  case role => exact State.writeProbe_role.trans (State.writeIdentity_valid _ h)
  case loop => exact State.writeProbe_loop.trans (State.writeIdentity_valid _ h)
  case trim | depth => simp at hfield

theorem Role.ofValue_code (k : Role) : Role.ofValue (k.code : Int) = some k := by cases k <;> rfl

theorem Role.ofValue_outside (h : ¬(0 ≤ v ∧ v ≤ 1)) : Role.ofValue v = none := by
  rw [Role.ofValue, if_neg (by omega), if_neg (by omega)]

theorem depthAllowed_eq_false (h : v ∉ ([1, 2, 4, 8] : List Int)) : depthAllowed v = false := by
  simpa [depthAllowed, and_assoc] using h

end probes

theorem probeFieldWritten : Parts.ProbeFieldWritten := by
  intro src e v s hs
  refine ⟨fun h field hfield => ?_, fun h => ⟨fun hv => ?_, fun hv => ?_, fun hv => ?_, fun hv => ?_, ?_, ?_, ?_⟩,
    ?_, fun hv => ?_, ?_⟩
  · exact probeFieldWrite_answers hs src (State.writeProbe_valid h hfield)
  · exact probeFieldWrite_answers hs src
      (State.writeProbe_moduleAddress.trans (State.writeIdentity_outside _ h (by simp; omega)))
  · exact probeFieldWrite_answers hs src
      (State.writeProbe_channel.trans (State.writeIdentity_outside _ h (by simp; omega)))
  · exact probeFieldWrite_answers hs src
      (State.writeProbe_role.trans (State.writeIdentity_outside _ h (by rw [Role.ofValue_outside hv]; rfl)))
  · exact probeFieldWrite_answers hs src
      (State.writeProbe_loop.trans (State.writeIdentity_outside _ h (by simp; omega)))
  · rintro n rfl
    refine ⟨fun hn => ?_, fun hn => ?_⟩
    · exact probeFieldWrite_stores hs src
        (State.writeProbe_moduleAddress.trans (State.writeIdentity_inside _ h (by simp; omega))) (by simp)
    · exact probeFieldWrite_stores hs src
        (State.writeProbe_channel.trans (State.writeIdentity_inside _ h (by simp; omega))) (by simp)
  · rintro k rfl
    have hwrite := State.writeProbe_role.trans
      (State.writeIdentity_inside (v := k.code) _ h (by rw [Role.ofValue_code]; rfl))
    rw [Role.ofValue_code] at hwrite
    exact probeFieldWrite_stores hs src hwrite (by simp)
  · rintro i rfl
    have hwrite := State.writeProbe_loop.trans (State.writeIdentity_inside (v := i.val) _ h (by simp; omega))
    rw [Int.toNat_natCast, Fin.ofNat_val_eq_self] at hwrite
    exact probeFieldWrite_stores hs src hwrite (by simp)
  · rw [← clampInt_eq (-128) 127 v (by decide)]
    exact probeFieldWrite_stores (field := .trim) hs src rfl rfl
  · exact probeFieldWrite_answers (field := .depth) hs src (if_neg (by simp [depthAllowed_eq_false hv]))
  · rintro n hn rfl
    have hallowed : depthAllowed n = true := by
      simp only [List.mem_cons, List.not_mem_nil, or_false] at hn
      obtain rfl | rfl | rfl | rfl := hn <;> rfl
    exact probeFieldWrite_stores (field := .depth) hs src (if_pos hallowed) (by simp)

/-! ## The valid field (R39) -/

/-- The other valid entries of the role of entry e, and of its loop where it is a RETURN entry. -/
def State.peers (s : State) (e : Fin 32) : List (Fin 32) :=
  probeIds.filter fun q => q ≠ e ∧ (s.probe q).valid = true ∧ (s.probe q).role = (s.probe e).role ∧
    ((s.probe e).role = .returnWater → (s.probe q).loop = (s.probe e).loop)

section valid
variable {s : State} {e : Fin 32}

theorem State.othersValid_pos_iff (test : Probe → Bool) : 0 < s.othersValid e test ↔
    ∃ q, q ≠ e ∧ (s.probe q).valid = true ∧ test (s.probe q) = true := by
  simp [State.othersValid, List.countP_pos_iff, probeIds, and_assoc]

theorem State.length_peers_return (h : (s.probe e).role = .returnWater) : (s.peers e).length =
    s.othersValid e fun q => q.role == .returnWater && q.loop == (s.probe e).loop := by
  simp only [State.othersValid, List.countP_eq_length_filter, State.peers, h]
  congr 2
  funext q
  rw [Bool.eq_iff_iff]
  simp [and_assoc]

theorem State.length_peers_supply (h : (s.probe e).role = .supplyWater) :
    (s.peers e).length = s.othersValid e fun q => q.role == .supplyWater := by
  simp only [State.othersValid, List.countP_eq_length_filter, State.peers, h]
  congr 2
  funext q
  rw [Bool.eq_iff_iff]
  simp [and_assoc]

/-- The map checks of R39 on an entry with a module address. -/
theorem State.validationFails_eq (h : (s.probe e).moduleAddress ≠ 0) : s.validationFails e =
    if (∃ q, q ≠ e ∧ (s.probe q).valid = true ∧ (s.probe q).moduleAddress = (s.probe e).moduleAddress ∧
        (s.probe q).channel = (s.probe e).channel) ∨ 2 ≤ (s.peers e).length
    then some .conflict else none := by
  have hcount : s.validationFails e = if ∃ q, q ≠ e ∧ (s.probe q).valid = true ∧
      (s.probe q).moduleAddress = (s.probe e).moduleAddress ∧ (s.probe q).channel = (s.probe e).channel
      then some .conflict else if 2 ≤ (s.peers e).length then some .conflict else none := by
    cases hrole : (s.probe e).role
    · simp only [State.validationFails, if_neg h, State.othersValid_pos_iff, Config.maxPaired,
        Bool.and_eq_true, beq_iff_eq, hrole, State.length_peers_return hrole]
    · simp only [State.validationFails, if_neg h, State.othersValid_pos_iff, Config.maxPaired,
        Bool.and_eq_true, beq_iff_eq, hrole, State.length_peers_supply hrole]
  rw [hcount]
  split
  next hsame => rw [if_pos (.inl hsame)]
  next hsame => simp only [hsame, false_or]

theorem State.writeValid_held (b : Bool) (h : (s.probe e).valid = b) :
    s.writeValid b.toNat e = Reply.held s false b.toNat := by
  simp only [State.writeValid, flagOfValue_toNat, h, if_true]

theorem State.writeValid_refused {o : AnswerCode} (h : (s.probe e).valid ≠ true)
    (hfails : s.validationFails e = some o) : s.writeValid (true.toNat) e = Reply.plain s o := by
  simp only [State.writeValid, flagOfValue_toNat, if_neg h.symm, if_true, hfails]

theorem State.writeValid_taken {b : Bool} (h : (s.probe e).valid ≠ b)
    (hpasses : b = true → s.validationFails e = none) : s.writeValid b.toNat e =
      Reply.held ((s.setProbe e ((s.probe e).cleared b s.now)).mapChanged e) false b.toNat := by
  have hnone : (if b = true then s.validationFails e else none) = none := by
    split
    next hb => exact hpasses hb
    next => rfl
  simp only [State.writeValid, flagOfValue_toNat, if_neg h.symm, hnone]

theorem State.mapChanged_supply (h : (s.probe e).role = .supplyWater) : s.mapChanged e = s := by
  simp only [State.mapChanged, h]

theorem State.mapChanged_return (h : (s.probe e).role = .returnWater) :
    s.mapChanged e = (s.evaluateHeld (s.probe e).loop).evaluateProbe (s.probe e).loop := by
  simp only [State.mapChanged, h]

end valid

theorem probeValidWritten : Parts.ProbeValidWritten := by
  intro src e v s hs
  refine ⟨fun h0 h1 => ?_, ?_⟩
  · refine answers_of_plain hs rfl ((withIndex_val e s _).trans ?_)
    simp only [State.writeValid, flagOfValue_outside (show ¬(0 ≤ v ∧ v ≤ 1) by omega)]
  rintro b rfl
  refine ⟨fun h => ?_, fun h => ⟨?_, ?_, fun hpasses => ?_⟩⟩
  · exact stores_of_held hs rfl ((withIndex_val e s _).trans (State.writeValid_held b h)) (by simp)
  · rintro rfl hmodule
    exact answers_of_plain hs rfl ((withIndex_val e s _).trans
      (State.writeValid_refused h (if_pos hmodule)))
  · rintro rfl hmodule hconflict
    exact answers_of_plain hs rfl ((withIndex_val e s _).trans (State.writeValid_refused h
      ((State.validationFails_eq hmodule).trans (if_pos hconflict))))
  · have hnone : b = true → s.validationFails e = none := by
      rintro rfl
      obtain ⟨hmodule, hfree, hpeers⟩ := hpasses.resolve_left Bool.noConfusion
      rw [State.validationFails_eq hmodule, if_neg]
      rintro (⟨q, hq, hvalid, hsame⟩ | hmany)
      · exact hfree q hq hvalid hsame
      · exact absurd hmany (Nat.not_le.mpr hpeers)
    have hwrite := (withIndex_val e s (State.writeValid b.toNat)).trans (State.writeValid_taken h hnone)
    intro changed
    have hprobe : (s.setProbe e ((s.probe e).cleared b s.now)).probe e = (s.probe e).cleared b s.now :=
      State.probe_setProbe_self ..
    refine ⟨fun hrole => ?_, fun hrole => ?_⟩
    · rw [State.mapChanged_supply (by rw [hprobe]; exact hrole)] at hwrite
      exact stores_of_held hs rfl hwrite (by simp)
    · rw [State.mapChanged_return (by rw [hprobe]; exact hrole), hprobe] at hwrite
      exact stores_of_held hs rfl hwrite (by simp)

/-- Settles O17. -/
theorem probeEntryWritten : Obligations.ProbeEntryWritten :=
  ⟨probeFieldWritten, probeValidWritten⟩

/-! ## GENERAL (R146) -/

section general
variable {s : State} {v : Int}

theorem State.tuneGeneral_passive (h : s.mode = .passive) (w : Nat) (f : General → General) :
    s.tuneGeneral w v f = Reply.held (s.updGeneral f) (decide ((w : Int) ≠ v)) w := if_neg (not_not.mpr h)

theorem State.storeGeneral_outside (h : s.mode = .passive) {hi : Int} (f : General → General)
    (hv : ¬(0 ≤ v ∧ v ≤ hi)) : s.storeGeneral hi v f = Reply.plain s .range := by
  rw [State.storeGeneral, if_neg (not_not.mpr h), if_pos (by omega)]

theorem State.storeGeneral_inside (h : s.mode = .passive) {hi : Int} (f : General → General) (h0 : 0 ≤ v)
    (hv : v ≤ hi) : s.storeGeneral hi v f = Reply.held (s.updGeneral f) false v := by
  rw [State.storeGeneral, if_neg (not_not.mpr h), if_neg (by omega)]

/-- Outside PASSIVE mode every field but the manual shed level is static. -/
theorem State.writeGeneral_static (h : s.mode ≠ .passive) {field : GeneralField}
    (hfield : field ≠ .manualShedLevel) : s.writeGeneral field v = Reply.plain s .static := by
  cases field
  case manualShedLevel => exact absurd rfl hfield
  case fdef | probeStaleTime | faultStaleTime | roomStaleTime | supplyStaleTime =>
    simp [State.writeGeneral, State.writeFdef, State.writeProbeStaleTime, State.writeFaultStaleTime,
      State.writeRoomStaleTime, State.writeSupplyStaleTime, State.tuneGeneral, h]
  all_goals exact if_pos h

/-- The largest opening time of the four profiles. -/
theorem State.largestOpening_eq (s : State) : profileIds.foldl (fun m p => max m (s.profile p).opening) 0 =
    max (max (max (max 0 (s.profile 0).opening) (s.profile 1).opening) (s.profile 2).opening)
      (s.profile 3).opening := rfl

theorem State.writeCycleLength_eq (h : s.mode = .passive) {w : Nat}
    (hw : (w : Int) = max (max 600 (min v 3600)) (max
      (max (2 * (s.profile 0).opening) (2 * (s.profile 1).opening))
      (max (2 * (s.profile 2).opening) (2 * (s.profile 3).opening)) : Nat)) :
    s.writeCycleLength v = Reply.held (s.updGeneral fun g => { g with cycleLength := w })
      (decide ((w : Int) ≠ v)) w := by
  have hcast := clampNat_cast 600 3600 v (by decide)
  have hlargest := s.largestOpening_eq
  obtain rfl : max (clampNat 600 3600 v)
      (2 * profileIds.foldl (fun m p => max m (s.profile p).opening) 0) = w := by omega
  exact State.tuneGeneral_passive h ..

end general

theorem generalStaticOutsidePassive : Parts.GeneralStaticOutsidePassive := by
  intro src v s hs hm
  simp only [List.forall_mem_cons]
  refine ⟨?_, ?_, ?_, ?_, ?_, ?_, ?_, ?_, ?_, ?_, ?_, ?_, ?_, ?_, nofun⟩
  · exact answers_of_plain hs rfl (State.writeGeneral_static hm (field := .cycleLength) nofun)
  · exact answers_of_plain hs rfl (State.writeGeneral_static hm (field := .hmax) nofun)
  · exact answers_of_plain hs rfl (State.writeGeneral_static hm (field := .fdef) nofun)
  · exact answers_of_plain hs rfl (State.writeGeneral_static hm (field := .defrostShedLevel) nofun)
  · exact answers_of_plain hs rfl (State.writeGeneral_static hm (field := .probeStaleTime) nofun)
  · exact answers_of_plain hs rfl (State.writeGeneral_static hm (field := .faultStaleTime) nofun)
  · exact answers_of_plain hs rfl (State.writeGeneral_static hm (field := .roomStaleTime) nofun)
  · exact answers_of_plain hs rfl (State.writeGeneral_static hm (field := .supplyStaleTime) nofun)
  · exact answers_of_plain hs rfl (State.writeGeneral_static hm (field := .supplySource) nofun)
  · exact answers_of_plain hs rfl (State.writeGeneral_static hm (field := .overflowPolicy .h) nofun)
  · exact answers_of_plain hs rfl (State.writeGeneral_static hm (field := .overflowPolicy .m) nofun)
  · exact answers_of_plain hs rfl (State.writeGeneral_static hm (field := .directionDefault .h) nofun)
  · exact answers_of_plain hs rfl (State.writeGeneral_static hm (field := .directionDefault .m) nofun)
  · exact answers_of_plain hs rfl (State.writeGeneral_static hm (field := .noticeAddress) nofun)

theorem OverflowPolicy.ofValue_code (o : OverflowPolicy) : OverflowPolicy.ofValue (o.code : Int) = some o := by
  cases o <;> rfl

theorem FilterAction.code_le (a : FilterAction) : a.code ≤ 3 := by cases a <;> decide

theorem OverflowPolicy.code_le (o : OverflowPolicy) : o.code ≤ 1 := by cases o <;> decide

theorem State.writeOverflowPolicy_code {s : State} (h : s.mode = .passive) (p : PortId) (o : OverflowPolicy) :
    s.writeOverflowPolicy p o.code = Reply.held (s.updGeneral fun g =>
      match p with
      | .h => { g with overflowPolicyH := o }
      | .m => { g with overflowPolicyM := o }) false o.code := by
  have hcode := o.code_le
  rw [State.writeOverflowPolicy, State.storeGeneral_inside h _ (by omega) (by omega), OverflowPolicy.ofValue_code]
  rfl

theorem State.writeDirectionDefault_code {s : State} (h : s.mode = .passive) (p : PortId) (a : FilterAction) :
    s.writeDirectionDefault p a.code = Reply.held (s.updGeneral fun g =>
      match p with
      | .h => { g with directionDefaultH := a }
      | .m => { g with directionDefaultM := a }) false a.code := by
  have hcode := a.code_le
  rw [State.writeDirectionDefault, State.storeGeneral_inside h _ (by omega) (by omega), FilterAction.ofValue_code]
  rfl

theorem generalFieldsWritten : Parts.GeneralFieldsWritten := by
  intro src v s hs hm
  refine ⟨fun w hw => ?_, fun w hw => ?_, fun w hw => ?_, fun hv => ?_, ?_, fun hv => ?_, ?_, fun hv p => ?_, ?_,
    fun hv p => ?_, ?_⟩
  · exact stores_of_held hs rfl (State.writeCycleLength_eq hm hw) rfl
  · obtain rfl := clampNat_eq (lo := 1) (hi := 16) (by decide) hw
    exact stores_of_held hs rfl (State.tuneGeneral_passive hm _ _) rfl
  · obtain rfl := clampNat_eq (lo := 0) (hi := 7) (by decide) hw
    exact stores_of_held hs rfl (State.tuneGeneral_passive hm _ _) rfl
  · exact answers_of_plain hs rfl (State.storeGeneral_outside hm _ hv)
  · rintro n rfl hn
    exact stores_of_held hs rfl (State.storeGeneral_inside hm _ (by omega) (by omega)) (by simp)
  · exact answers_of_plain hs rfl (State.storeGeneral_outside hm _ hv)
  · rintro n rfl hn
    exact stores_of_held hs rfl (State.storeGeneral_inside hm _ (by omega) (by omega)) (by simp)
  · exact answers_of_plain hs rfl (State.storeGeneral_outside hm _ hv)
  · rintro o rfl
    exact ⟨stores_of_held hs rfl (State.writeOverflowPolicy_code hm .h o) (by simp),
      stores_of_held hs rfl (State.writeOverflowPolicy_code hm .m o) (by simp)⟩
  · exact answers_of_plain hs rfl (State.storeGeneral_outside hm _ hv)
  · rintro a rfl
    exact ⟨stores_of_held hs rfl (State.writeDirectionDefault_code hm .h a) (by simp),
      stores_of_held hs rfl (State.writeDirectionDefault_code hm .m a) (by simp)⟩

theorem State.writeManualShedLevel_eq {s : State} {v : Int} {w : Nat} (hw : (w : Int) = max 0 (min v 7)) :
    s.writeManualShedLevel v = Reply.held (s.updGeneral fun g => { g with manualShedLevel := w }).recompute
      (decide ((w : Int) ≠ v)) w := by
  obtain rfl := clampNat_eq (lo := 0) (hi := 7) (by decide) hw
  rfl

theorem manualShedLevelWritten : Parts.ManualShedLevelWritten := by
  intro src v w s hs hw
  have hwrite := State.writeManualShedLevel_eq (s := s) hw
  refine ⟨fun _ => stores_of_held hs rfl hwrite rfl, fun hm => ?_⟩
  rw [State.recompute_of_not_driving (s := s.updGeneral _) (by rcases hm with h | h <;> simp [State.updGeneral, h])]
    at hwrite
  exact stores_of_held hs rfl hwrite rfl

/-- Settles O18. -/
theorem generalFieldsWrittenInMode : Obligations.GeneralFieldsWrittenInMode :=
  ⟨generalStaticOutsidePassive, generalFieldsWritten, manualShedLevelWritten⟩

/-! ## The stale times (R33, R45, R51, R74) -/

/-- Two folds whose steps agree wherever a law holds that the first keeps. -/
theorem foldl_congr_keep {α : Type} {P : State → Prop} {f g : State → α → State}
    (hkeep : ∀ s a, P s → P (f s a)) (hstep : ∀ s a, P s → f s a = g s a) (l : List α) {s : State} (hs : P s) :
    l.foldl f s = l.foldl g s := by
  induction l generalizing s with
  | nil => rfl
  | cons a l ih =>
    rw [List.foldl_cons, List.foldl_cons, ← hstep s a hs]
    exact ih (hkeep s a hs)

@[simp] theorem State.general_probeStale (s : State) (e : Fin 32) : (s.probeStale e).general = s.general := by
  unfold State.probeStale
  dsimp only
  split <;> rfl

@[simp] theorem State.general_roomStale (s : State) (r : Fin 12) : (s.roomStale r).general = s.general := rfl

theorem State.probeStaleDue_iff (s : State) (e : Fin 32) : s.probeStaleDue e = true ↔
    (s.probe e).valid = true ∧ (s.probe e).stale = false ∧ s.general.probeStaleTime ≤ s.probeAge e := by
  simp [State.probeStaleDue, and_assoc]

theorem State.roomStaleDue_iff (s : State) (r : Fin 12) : s.roomStaleDue r = true ↔
    (s.room r).unitAddress ≠ 0 ∧ (s.room r).stale = false ∧ s.general.roomStaleTime ≤ s.roomAge r := by
  simp [State.roomStaleDue, and_assoc]

/-- The stale time does not change while the entries are gone through. -/
theorem State.staleProbes_eq (s : State) : s.staleProbes = probeIds.foldl (fun u e =>
    if (u.probe e).valid = true ∧ (u.probe e).stale = false ∧ s.general.probeStaleTime ≤ u.probeAge e then
      u.probeStale e else u) s := by
  refine foldl_congr_keep (P := fun u => u.general = s.general) (fun u e hu => ?_) (fun u e hu => ?_) _ rfl
  · split
    · exact (u.general_probeStale e).trans hu
    · exact hu
  · simp only [State.probeStaleDue_iff, hu]

theorem State.staleRooms_eq (s : State) : s.staleRooms = roomIds.foldl (fun u r =>
    if (u.room r).unitAddress ≠ 0 ∧ (u.room r).stale = false ∧ s.general.roomStaleTime ≤ u.roomAge r then
      u.roomStale r else u) s := by
  refine foldl_congr_keep (P := fun u => u.general = s.general) (fun u r hu => ?_) (fun u r hu => ?_) _ rfl
  · split
    · exact (u.general_roomStale r).trans hu
    · exact hu
  · simp only [State.roomStaleDue_iff, hu]

/-- The moved fault expiries, entry by entry. -/
theorem State.moveFaultExpiries_eq (s : State) : s.moveFaultExpiries = { s with
    probes := Vector.ofFn fun e => { s.probe e with
      faultRunning := (s.probe e).valid &&
        (decide (s.probeAge e < s.general.faultStaleTime) || !(s.probe e).stale) } } := by
  have hrunning (e : Fin 32) : (!s.probeFaulted e) =
      (decide (s.probeAge e < s.general.faultStaleTime) || !(s.probe e).stale) := by
    rw [State.probeFaulted, Bool.not_and, Bool.or_comm, ← decide_not]
    simp only [Nat.not_le]
  simp only [State.moveFaultExpiries, hrunning]

section stale
variable {s : State} {v : Int} {w : Nat} (hm : s.mode = .passive)
include hm

theorem State.writeProbeStaleTime_eq (hw : (w : Int) = min (max 60 (min v 1800)) s.general.faultStaleTime) :
    s.writeProbeStaleTime v = Reply.held (s.updGeneral fun g => { g with probeStaleTime := w }).staleProbes
      (decide ((w : Int) ≠ v)) w := by
  have hcast := clampNat_cast 60 1800 v (by decide)
  obtain rfl : min (clampNat 60 1800 v) s.general.faultStaleTime = w := by omega
  rw [State.writeProbeStaleTime, if_pos hm, State.tuneGeneral_passive hm]
  rfl

theorem State.writeFaultStaleTime_eq (hw : (w : Int) = max (max 600 (min v 7200)) s.general.probeStaleTime) :
    s.writeFaultStaleTime v = Reply.held (loopIds.foldl State.evaluateProbe
      (s.updGeneral fun g => { g with faultStaleTime := w }).moveFaultExpiries) (decide ((w : Int) ≠ v)) w := by
  have hcast := clampNat_cast 600 7200 v (by decide)
  obtain rfl : max (clampNat 600 7200 v) s.general.probeStaleTime = w := by omega
  rw [State.writeFaultStaleTime, if_pos hm, State.tuneGeneral_passive hm]
  rfl

theorem State.writeRoomStaleTime_eq (hw : (w : Int) = max 300 (min v 7200)) :
    s.writeRoomStaleTime v = Reply.held (s.updGeneral fun g => { g with roomStaleTime := w }).staleRooms
      (decide ((w : Int) ≠ v)) w := by
  obtain rfl := clampNat_eq (lo := 300) (hi := 7200) (by decide) hw
  rw [State.writeRoomStaleTime, if_pos hm, State.tuneGeneral_passive hm]
  rfl

theorem State.writeFdef_eq (hw : (w : Int) = max 0 (min v 2000)) : s.writeFdef v = Reply.held
    (if s.supply.stale = true then { s with
        general := { s.general with fdef := w }, supply := { s.supply with allowance := w } }
      else { s with general := { s.general with fdef := w } }) (decide ((w : Int) ≠ v)) w := by
  obtain rfl := clampNat_eq (lo := 0) (hi := 2000) (by decide) hw
  rw [State.writeFdef, State.tuneGeneral_passive hm]
  by_cases hstale : s.supply.stale = true
  · rw [if_pos ⟨hm, hstale⟩, if_pos hstale]
    rfl
  · rw [if_neg fun h => hstale h.2, if_neg hstale]
    rfl

theorem State.writeSupplyStaleTime_eq (hw : (w : Int) = max 120 (min v 3600)) : s.writeSupplyStaleTime v =
    Reply.held (let moved := (s.updGeneral fun g => { g with supplyStaleTime := w }).moveTempExpiry
      if moved.supplyStaleDue = true then moved.supplyStale else moved) (decide ((w : Int) ≠ v)) w := by
  obtain rfl := clampNat_eq (lo := 120) (hi := 3600) (by decide) hw
  rw [State.writeSupplyStaleTime, if_pos hm, State.tuneGeneral_passive hm]
  rfl

end stale

theorem State.supplyStaleDue_iff (s : State) : s.supplyStaleDue = true ↔
    s.supply.stale = false ∧ s.general.supplyStaleTime ≤ min 65535 (s.now - s.supply.ageStart) := by
  simp only [State.supplyStaleDue, Bool.and_eq_true, Bool.not_eq_true', decide_eq_true_eq]
  rfl

theorem probeAndRoomStaleTimesWritten : Parts.ProbeAndRoomStaleTimesWritten := by
  intro src v s hs hm
  refine ⟨fun w hw => ?_, fun w hw => ?_, fun w hw => ?_⟩
  · have hwrite := State.writeProbeStaleTime_eq hm hw
    rw [State.staleProbes_eq] at hwrite
    exact stores_of_held hs rfl hwrite rfl
  · have hwrite := State.writeFaultStaleTime_eq hm hw
    rw [State.moveFaultExpiries_eq] at hwrite
    exact stores_of_held hs rfl hwrite rfl
  · have hwrite := State.writeRoomStaleTime_eq hm hw
    rw [State.staleRooms_eq] at hwrite
    exact stores_of_held hs rfl hwrite rfl

theorem supplyWritesTaken : Parts.SupplyWritesTaken := by
  intro src v s hs hm
  refine ⟨fun w hw => ⟨fun hstale => ?_, fun hfresh => ?_⟩, fun w hw => ⟨fun hyoung => ?_, fun hold => ?_⟩⟩
  · exact stores_of_held hs rfl ((State.writeFdef_eq hm hw).trans (by rw [if_pos hstale])) rfl
  · exact stores_of_held hs rfl ((State.writeFdef_eq hm hw).trans (by rw [if_neg (by simp [hfresh])])) rfl
  · refine stores_of_held hs rfl ((State.writeSupplyStaleTime_eq hm hw).trans ?_) rfl
    dsimp only
    rw [if_neg]
    · rfl
    · rw [State.supplyStaleDue_iff]
      rintro ⟨hfresh, hage⟩
      exact hyoung.elim (fun h => Bool.noConfusion (h.symm.trans hfresh)) (Nat.not_lt.mpr hage)
  · refine stores_of_held hs rfl ((State.writeSupplyStaleTime_eq hm hw).trans ?_) rfl
    dsimp only
    rw [if_pos ((State.supplyStaleDue_iff _).mpr hold), State.supplyStale, State.recompute_of_not_driving]
    · rfl
    · show ¬(s.mode = .active ∨ s.mode = .halting)
      simp [hm]

/-- Settles O19. -/
theorem staleTimesWritten : Obligations.StaleTimesWritten :=
  ⟨probeAndRoomStaleTimesWritten, supplyWritesTaken⟩

/-! ## SET LOCK and RESTART (R144, R147) -/

/-- A request that the lock leaves open, refused or answered without content. -/
theorem answers_of_open {c : Instr} {src code : Byte} {s t : State} {o : AnswerCode} {body : State → Reply}
    (hn : s.NothingToBegin) (ha : s.answer = none)
    (hexec : exec c s = .next (s.beginAll.takeRequest src code false body))
    (hbody : body s = Reply.plain t o) : Answers c src code s t o := by
  unfold Answers
  rw [hexec, State.beginAll_of_nothing hn, State.takeRequest_open src code body ha, hbody]
  rfl

/-- Settles O26. -/
theorem lockSetAndRestartAnswered : Obligations.LockSetAndRestartAnswered := by
  intro src n s hn ha
  refine ⟨answers_of_open hn ha rfl rfl, answers_of_open hn ha rfl rfl, fun h0 h1 => ?_,
    answers_of_open hn ha rfl rfl⟩
  refine answers_of_open hn ha rfl ?_
  match n, h0, h1 with
  | n + 2, _, _ => rfl

end Sys2Proof.Machine
end

section
/-! PROOFS. ENABLE LOOP, DISABLE LOOP, SET MODE and TAKE NOTICE (R10 to R12, R140, R141, R153): the settling
of O22, O23, O24 and O27. -/

namespace Sys2Proof.Machine

open Sys2Proof

/-- A request that the part takes, refused or answered without content. -/
theorem answers_of_taken {c : Instr} {src code : Byte} {s t : State} {o : AnswerCode} {lockable : Bool}
    {body : State → Reply} (hs : s.Takes)
    (hexec : exec c s = .next (s.beginAll.takeRequest src code lockable body))
    (hbody : body s = Reply.plain t o) : Answers c src code s t o := by
  have ⟨_, _, hnothing⟩ := hs
  unfold Answers
  rw [hexec, State.beginAll_of_nothing hnothing, State.takeRequest_taken _ _ _ _ hs, hbody]
  rfl

theorem Loop.enabled_iff (l : Loop) : l.enabled = true ↔ l.state ≠ .disabled := by simp [Loop.enabled]

/-! ## ENABLE LOOP (R10, R11) -/

section enable
variable {s : State} {i : Fin 16}

theorem State.headInUse_iff : s.headInUse i = true ↔
    ∃ j, j ≠ i ∧ (s.loop j).driverAddress = (s.loop i).driverAddress ∧
      (s.loop j).headChannel = (s.loop i).headChannel ∧ ((s.loop j).state ≠ .disabled ∨ s.OrderUnderWay j) := by
  simp [State.headInUse, Loop.sameHead, Loop.enabled_iff, State.orderOutstanding_eq_true, and_assoc, loopIds]

theorem State.enableFails_of_busy_mode (h : s.mode = .halting ∨ s.mode = .test) :
    s.enableFails i = some .busy := if_pos h

theorem not_halting_or_test {m : Mode} (h : m = .passive ∨ m = .active) : ¬(m = .halting ∨ m = .test) := by
  rcases h with rfl | rfl <;> simp

theorem State.enableFails_of_enabled (hm : s.mode = .passive ∨ s.mode = .active)
    (h : (s.loop i).state ≠ .disabled) : s.enableFails i = some .done := by
  rw [State.enableFails, if_neg (not_halting_or_test hm), if_pos ((Loop.enabled_iff _).mpr h)]

/-- The checks of R10 on a DISABLED loop, after those of the mode. -/
theorem State.enableFails_of_disabled (hm : s.mode = .passive ∨ s.mode = .active)
    (h : (s.loop i).state = .disabled) : s.enableFails i =
      if s.orderOutstanding i then some .busy
      else if (s.loop i).room.isNone ∨ (s.loop i).driverAddress = 0 ∨ 126 < (s.loop i).driverAddress then
        some .state
      else if s.headInUse i then some .conflict
      else none := by
  rw [State.enableFails, if_neg (not_halting_or_test hm), if_neg (by simp [Loop.enabled, h])]

theorem enableLoop_answers {src : Byte} {t : State} {o : AnswerCode} (hs : s.Takes)
    (h : s.enableLoop i = Reply.plain t o) : Answers (.enableLoop src i) src 0x03 s t o :=
  answers_of_taken hs rfl ((withIndex_val i s State.enableLoop).trans h)

theorem State.enableLoop_fails {o : AnswerCode} (h : s.enableFails i = some o) :
    s.enableLoop i = Reply.plain s o := by
  simp only [State.enableLoop, h]

theorem State.enableLoop_passes (h : s.enableFails i = none) :
    s.enableLoop i = Reply.plain (s.enable i) .done := by
  simp only [State.enableLoop, h]

end enable

theorem enableChecked : Parts.EnableChecked := by
  intro src i s hs
  refine ⟨fun hm => ?_, fun hm => ⟨fun h => ?_, fun h => ⟨fun hbusy => ?_, fun hfree => ⟨fun hbound => ?_,
    fun hroom hlo hhi hsame => ?_⟩⟩⟩⟩
  · exact enableLoop_answers hs (State.enableLoop_fails (State.enableFails_of_busy_mode hm))
  · exact enableLoop_answers hs (State.enableLoop_fails (State.enableFails_of_enabled hm h))
  · refine enableLoop_answers hs (State.enableLoop_fails ?_)
    rw [State.enableFails_of_disabled hm h, if_pos ((s.orderOutstanding_eq_true i).mpr hbusy)]
  · refine enableLoop_answers hs (State.enableLoop_fails ?_)
    rw [State.enableFails_of_disabled hm h, if_neg (by rwa [s.orderOutstanding_eq_true]), if_pos]
    rw [Option.isNone_iff_eq_none]
    exact hbound.imp_right fun h => by omega
  · refine enableLoop_answers hs (State.enableLoop_fails ?_)
    rw [State.enableFails_of_disabled hm h, if_neg (by rwa [s.orderOutstanding_eq_true]), if_neg,
      if_pos (State.headInUse_iff.mpr hsame)]
    rw [Option.isNone_iff_eq_none]
    rintro (hnone | hout)
    · exact hroom hnone
    · omega

/-- The status fields that ENABLE and a restart share, written out (R6). -/
theorem Loop.clearStatus_eq (l : Loop) : l.clearStatus = { l with
    causes := ⟨false, false, false⟩, activeDuty := 0, bufferedDuty := 0, pendingFlag := false
    request := 0, grant := 0, head := .idleUnknown, lastAction := none, accSum := 0, accCount := 0
    misses := 0, goodRun := 0, starvedRun := 0, achieved := 0, wanted := none, onTime := 0
    openPhase := false, openCount := 0, inCycle := false, nextBoundary := none, settle := .stopped
    echoDue := none } := rfl

/-- The record that ENABLE leaves, but for the state and the first boundary. -/
def Loop.fresh (l : Loop) (held : Bool) : Loop :=
  { l with
    causes := ⟨false, false, false⟩, activeDuty := 0, bufferedDuty := 0, pendingFlag := false
    request := 0, grant := 0, head := .idleUnknown, lastAction := none, cooling := none
    accSum := 0, accCount := 0, misses := 0, goodRun := 0, starvedRun := 0, achieved := 0
    probeHeld := held, wanted := none, onTime := 0, openPhase := false, openCount := 0
    inCycle := false, nextBoundary := none, settle := .stopped, echoDue := none }

theorem Loop.clearStatus_fresh (l : Loop) (held : Bool) :
    { l.clearStatus with cooling := none, probeHeld := held } = l.fresh held := by
  rw [Loop.clearStatus_eq]
  rfl

theorem State.enabledLoop_passive {s : State} (i : Fin 16) (h : s.mode = .passive) :
    s.enabledLoop i = { (s.loop i).fresh (s.probeHeldNow i) with state := .standby } := by
  rw [State.enabledLoop, if_neg (by simp [h]), ← Loop.clearStatus_fresh]

theorem State.enabledLoop_active {s : State} (i : Fin 16) (h : s.mode = .active) :
    s.enabledLoop i = { (s.loop i).fresh (s.probeHeldNow i) with
      state := if s.inShedRange i = true then .shed else .running, nextBoundary := s.firstBoundary i } := by
  rw [State.enabledLoop, if_pos h, ← Loop.clearStatus_fresh]

theorem enableTaken : Parts.EnableTaken := by
  intro src i s hs hm hdisabled hfree hroom hlo hhi hunused
  have hpasses : s.enableFails i = none := by
    rw [State.enableFails_of_disabled hm hdisabled, if_neg (by rwa [s.orderOutstanding_eq_true]), if_neg, if_neg]
    · rw [State.headInUse_iff]
      rintro ⟨j, hj, haddress, hchannel, hused⟩
      obtain ⟨hstate, horder⟩ := hunused j hj haddress hchannel
      exact hused.elim (absurd hstate) horder
    · rw [Option.isNone_iff_eq_none]
      rintro (hnone | hout)
      · exact hroom hnone
      · omega
  have henable := enableLoop_answers (src := src) hs (State.enableLoop_passes hpasses)
  intro fresh left
  refine ⟨fun hpassive => ?_, fun hactive => ?_⟩
  · rw [State.enable, State.enabledLoop_passive i hpassive, State.recompute_of_not_driving (by simp [hpassive])]
      at henable
    exact henable
  · rw [State.enable, State.enabledLoop_active i hactive] at henable
    exact henable

/-- Settles O22. -/
theorem loopEnabled : Obligations.LoopEnabled := ⟨enableChecked, enableTaken⟩

/-! ## DISABLE LOOP (R12) -/

theorem Loop.disabled_eq (l : Loop) : l.disabled = { l with
    state := .disabled, request := 0, grant := 0, activeDuty := 0, bufferedDuty := 0
    pendingFlag := false, accSum := 0, accCount := 0, onTime := 0, openPhase := false
    inCycle := false, nextBoundary := none } := rfl

section disable
variable {s : State} {i : Fin 16}

theorem disableLoop_answers {src : Byte} {t : State} {o : AnswerCode} (hs : s.Takes)
    (h : s.disableLoop i = Reply.plain t o) : Answers (.disableLoop src i) src 0x04 s t o :=
  answers_of_taken hs rfl ((withIndex_val i s State.disableLoop).trans h)

theorem State.disableLoop_of_disabled (hm : s.mode = .passive ∨ s.mode = .active)
    (h : (s.loop i).state = .disabled) : s.disableLoop i = Reply.plain s .done := by
  rw [State.disableLoop, if_neg (not_halting_or_test hm), if_neg (by simp [Loop.enabled, h])]

theorem State.disableLoop_of_enabled (hm : s.mode = .passive ∨ s.mode = .active)
    (h : (s.loop i).state ≠ .disabled) : s.disableLoop i = Reply.plain (s.disable i) .done := by
  rw [State.disableLoop, if_neg (not_halting_or_test hm), if_pos ((Loop.enabled_iff _).mpr h)]

/-- In PASSIVE mode no recompute runs and no RELEASE is wanted. -/
theorem State.disable_passive (hm : s.mode = .passive) :
    s.disable i = (s.leaveWaits i).setLoop i (s.loop i).disabled := by
  have hcleared : s.cleared i = (s.leaveWaits i).updLoop i Loop.disabled := by
    rw [State.cleared, State.leaveWaitsAtDisable, if_neg (by simp [hm])]
  have hrecompute : ((s.leaveWaits i).updLoop i Loop.disabled).recompute = _ :=
    State.recompute_of_not_driving (by simp [hm])
  rw [State.disable_eq, if_neg (by simp [hm]), hcleared, hrecompute, ite_self]
  rfl

/-- In ACTIVE mode a head in ENERGISE-WAIT keeps its entry until the RELEASE is placed. -/
theorem State.cleared_active (hm : s.mode = .active) : s.cleared i =
    (if (s.loop i).head = .energiseWait then s else s.leaveWaits i).setLoop i (s.loop i).disabled := by
  rw [State.cleared, State.leaveWaitsAtDisable]
  by_cases h : (s.loop i).head = .energiseWait
  · rw [if_pos ⟨hm, h⟩, if_pos h]
    rfl
  · rw [if_neg fun hc => h hc.2, if_neg h]
    rfl

end disable

/-- Settles O23. -/
theorem loopDisabled : Obligations.LoopDisabled := by
  intro src i s hs
  refine ⟨fun hm => ?_, fun hm => ⟨fun h => ?_, fun h => ⟨fun hpassive => ?_, fun hactive => ?_⟩⟩⟩
  · exact disableLoop_answers hs (if_pos hm)
  · exact disableLoop_answers hs (State.disableLoop_of_disabled hm h)
  · have hdisable := disableLoop_answers (src := src) hs (State.disableLoop_of_enabled hm h)
    rw [State.disable_passive hpassive, Loop.disabled_eq] at hdisable
    exact hdisable
  · have hdisable := disableLoop_answers (src := src) hs (State.disableLoop_of_enabled hm h)
    rw [State.disable_eq, if_pos hactive, State.cleared_active hactive, Loop.disabled_eq] at hdisable
    refine ⟨fun hengaged => ?_, fun hout => ?_⟩
    · rw [if_pos ((Loop.engaged_iff _).mpr hengaged)] at hdisable
      exact hdisable
    · rw [if_neg (by rwa [Loop.engaged_iff])] at hdisable
      exact hdisable

/-! ## SET MODE (R140, R141) -/

section modes
variable {s : State}

theorem State.enabledLoops_isEmpty : s.enabledLoops.isEmpty = true ↔ ∀ i, (s.loop i).state = .disabled := by
  simp [State.enabledLoops, List.filter_eq_nil_iff, Loop.enabled, loopIds]

theorem State.setMode_other {n : Nat} (h0 : n ≠ 0) (h1 : n ≠ 1) : s.setMode n = Reply.plain s .range := by
  rw [State.setMode, if_neg h1, if_neg h0]

/-- A request for ACTIVE in PASSIVE mode. -/
theorem State.setMode_one_passive (hm : s.mode = .passive) : s.setMode 1 =
    if s.enabledLoops.isEmpty then Reply.plain s .state else Reply.plain s.start .done := by
  rw [State.setMode, if_pos rfl, hm]

theorem State.setMode_one_active (hm : s.mode = .active) : s.setMode 1 = Reply.plain s .done := by
  rw [State.setMode, if_pos rfl, hm]

theorem State.setMode_one_busy (hm : s.mode = .halting ∨ s.mode = .test) :
    s.setMode 1 = Reply.plain s .busy := by
  rw [State.setMode, if_pos rfl]
  rcases hm with hm | hm <;> rw [hm]

theorem State.setMode_zero_done (hm : s.mode = .passive ∨ s.mode = .halting) :
    s.setMode 0 = Reply.plain s .done := by
  rw [State.setMode, if_neg Nat.zero_ne_one, if_pos rfl]
  rcases hm with hm | hm <;> rw [hm]

theorem State.setMode_zero_test (hm : s.mode = .test) : s.setMode 0 = Reply.plain s .busy := by
  rw [State.setMode, if_neg Nat.zero_ne_one, if_pos rfl, hm]

theorem State.setMode_zero_active (hm : s.mode = .active) : s.setMode 0 = Reply.plain s.beginHalting .done := by
  rw [State.setMode, if_neg Nat.zero_ne_one, if_pos rfl, hm]

/-- Every enabled loop is STANDBY. -/
theorem State.allStandby_iff : (loopIds.all fun i => !(s.loop i).enabled || (s.loop i).state == .standby) = true ↔
    ∀ i, (s.loop i).state = .disabled ∨ (s.loop i).state = .standby := by
  simp [Loop.enabled, loopIds]

theorem State.checkHalting_eq : s.checkHalting =
    if s.mode = .halting ∧ s.headsQuiet = true ∧
        ∀ i, (s.loop i).state = .disabled ∨ (s.loop i).state = .standby then
      { s with mode := .passive, t0 := none }
    else s := by
  simp only [State.checkHalting, State.allStandby_iff]

/-- The check of R141 at once: HALTING passes to PASSIVE where nothing is left to do. -/
theorem State.beginHalting_eq : s.beginHalting =
    if s.headsQuiet = true ∧ ∀ i, (s.loop i).state = .disabled ∨ (s.loop i).state = .standby then
      { s with mode := .passive, t0 := none }
    else { s with mode := .halting } := by
  rw [State.beginHalting, State.checkHalting_eq]
  by_cases h : s.headsQuiet = true ∧ ∀ i, (s.loop i).state = .disabled ∨ (s.loop i).state = .standby
  · rw [if_pos h]
    exact if_pos ⟨rfl, h⟩
  · rw [if_neg h]
    exact if_neg fun hc => h hc.2

end modes

/-- Settles O24. -/
theorem modeSet : Obligations.ModeSet := by
  intro src n s hs
  have hset {t : State} {o : AnswerCode} (h : s.setMode n = Reply.plain t o) :
      Answers (.setMode src n) src 0x05 s t o := answers_of_taken hs rfl h
  refine ⟨fun h0 h1 => hset (State.setMode_other h0 h1), ?_, ?_⟩
  · rintro rfl
    refine ⟨fun hm hall => hset ?_, fun hm hsome => hset ?_, fun hm => hset (State.setMode_one_active hm),
      fun hm => hset (State.setMode_one_busy hm)⟩
    · rw [State.setMode_one_passive hm, if_pos (State.enabledLoops_isEmpty.mpr hall)]
    · rw [State.setMode_one_passive hm, if_neg]
      rw [State.enabledLoops_isEmpty]
      exact not_forall.mpr hsome
  · rintro rfl
    refine ⟨fun hm => hset (State.setMode_zero_done hm), fun hm => hset (State.setMode_zero_test hm),
      fun hm => ⟨fun hquiet => hset ?_, fun hloud => hset ?_⟩⟩
    · rw [State.setMode_zero_active hm, State.beginHalting_eq, if_pos hquiet]
    · rw [State.setMode_zero_active hm, State.beginHalting_eq, if_neg hloud]

/-! ## TAKE NOTICE (R153) -/

section notices
variable {s : State}

theorem State.takeNotice_empty (h : s.general.noticeAddress ≠ 0 ∨
    ∀ e ∈ s.notices.entries, e.inTransmission = true) : s.takeNotice = Reply.plain s .empty := by
  rw [State.takeNotice]
  split
  next => rfl
  next haddress =>
    have hnone : (s.notices.entries.find? fun e => !e.inTransmission) = none :=
      List.find?_eq_none.mpr fun e he => by simp [h.resolve_left haddress e he]
    simp only [hnone]

/-- The oldest entry that is not in transmission is taken out and handed over. -/
theorem State.takeNotice_taken {before after : List NoticeEntry} {e : NoticeEntry}
    (haddress : s.general.noticeAddress = 0) (hentries : s.notices.entries = before ++ e :: after)
    (hbefore : ∀ x ∈ before, x.inTransmission = true) (he : e.inTransmission = false) :
    s.takeNotice = ⟨{ s with notices := { s.notices with entries := before ++ after, overflow := false } }, .done,
      noticeBytes e s.notices.overflow⟩ := by
  have hbefore' : ∀ x ∈ before, ¬(!x.inTransmission) = true := fun x hx => by simp [hbefore x hx]
  have hfind : (s.notices.entries.find? fun e => !e.inTransmission) = some e := by
    rw [hentries, List.find?_append, List.find?_eq_none.mpr hbefore', List.find?_cons_of_pos (by simp [he])]
    rfl
  have herase : (s.notices.entries.eraseP fun e => !e.inTransmission) = before ++ after := by
    rw [hentries, List.eraseP_append_right _ hbefore', List.eraseP_cons_of_pos (by simp [he])]
  rw [State.takeNotice, if_neg (not_not.mpr haddress)]
  simp only [hfind, herase]

end notices

/-- Settles O27. -/
theorem noticeTaken : Obligations.NoticeTaken := by
  intro src s hn ha
  refine ⟨fun h => answers_of_open hn ha rfl (State.takeNotice_empty h), fun before after e h0 hentries hb he => ?_,
    fun kind subject count value sending overflow => ?_⟩
  · show Host.Outcome.next (s.beginAll.takeRequest src codeTakeNotice false State.takeNotice) = _
    rw [State.beginAll_of_nothing hn, State.takeRequest_open _ _ _ ha, State.takeNotice_taken h0 hentries hb he]
    rfl
  · cases overflow <;> rfl

end Sys2Proof.Machine
end

section
/-! PROOFS. START PATTERN and STOP PATTERN, and what the start and the ending of a pattern leave (R129 to R133,
R136, R137): the settling of O28 and O29. -/

namespace Sys2Proof.Machine

open Sys2Proof

/-! ## The checks of START PATTERN (R129) -/

section checks
variable {s : State}

theorem startPattern_answers {src : Byte} {request : PatternRequest} {t : State} {o : AnswerCode} (hs : s.Takes)
    (h : s.startPattern request = Reply.plain t o) : Answers (.startPattern src request) src 0x06 s t o :=
  answers_of_taken hs rfl h

theorem State.startPattern_fails {request : PatternRequest} {o : AnswerCode} (h : s.patternFails request = some o) :
    s.startPattern request = Reply.plain s o := by
  simp only [State.startPattern, h]

theorem State.patternFails_outside_passive (h : s.mode ≠ .passive) (request : PatternRequest) :
    s.patternFails request = some .state := if_pos h

theorem State.patternFails_other (h : s.mode = .passive) (code : Nat) :
    s.patternFails (.other code) = some .range := if_neg (not_not.mpr h)

theorem State.patternFails_identify_refused (h : s.mode = .passive) {loop : Nat} (toggles interval : Nat)
    (hloop : ∀ i : Fin 16, i.val = loop → (s.loop i).state = .disabled) :
    s.patternFails (.identify loop toggles interval) = some .range := by
  rw [State.patternFails, if_neg (not_not.mpr h)]
  split
  next hlt => rw [if_neg (by simp [Loop.enabled, hloop ⟨loop, hlt⟩ rfl])]
  next => rfl

theorem State.patternFails_identify_passes (h : s.mode = .passive) {i : Fin 16} (toggles interval : Nat)
    (hi : (s.loop i).state ≠ .disabled) : s.patternFails (.identify i toggles interval) = none := by
  rw [State.patternFails, if_neg (not_not.mpr h)]
  rw [dif_pos i.isLt, if_pos ((Loop.enabled_iff _).mpr hi)]

/-- The enabled NO loops, which a SWEEP energises all at once (R129). -/
theorem State.countP_no (s : State) : s.enabledLoops.countP (fun i => (s.profileOf i).polarity == .no) =
    (loopIds.filter fun i => (s.loop i).state ≠ .disabled ∧ (s.profileOf i).polarity = .no).length := by
  rw [State.enabledLoops, List.countP_filter, List.countP_eq_length_filter]
  congr 2
  funext i
  rw [Bool.eq_iff_iff]
  simp [Loop.enabled, and_comm]

theorem State.patternFails_sweep_refused (h : s.mode = .passive) (dwell threshold : Nat)
    (hloops : (∀ i, (s.loop i).state = .disabled) ∨ s.general.hmax ≤ (loopIds.filter fun i =>
      (s.loop i).state ≠ .disabled ∧ (s.profileOf i).polarity = .no).length) :
    s.patternFails (.sweep dwell threshold) = some .state := by
  rw [← State.enabledLoops_isEmpty, ← State.countP_no] at hloops
  rw [State.patternFails, if_neg (not_not.mpr h)]
  split
  next => rfl
  next hsome => rw [if_pos (hloops.resolve_left hsome)]

theorem State.patternFails_sweep_passes (h : s.mode = .passive) (dwell threshold : Nat)
    (hsome : ∃ i, (s.loop i).state ≠ .disabled) (hno : (loopIds.filter fun i =>
      (s.loop i).state ≠ .disabled ∧ (s.profileOf i).polarity = .no).length < s.general.hmax) :
    s.patternFails (.sweep dwell threshold) = none := by
  rw [← State.countP_no] at hno
  rw [State.patternFails, if_neg (not_not.mpr h)]
  rw [if_neg, if_neg (Nat.not_le.mpr hno)]
  rw [State.enabledLoops_isEmpty]
  exact not_forall.mpr hsome

/-- Two arguments clamped: CLAMPED where one was altered. -/
theorem clamped_outcome (a x b y : Nat) : (if (a != x || b != y) = true then AnswerCode.clamped else .done) =
    if a = x ∧ b = y then .done else .clamped := by
  by_cases ha : a = x <;> by_cases hb : b = y <;> simp [ha, hb]

theorem clampNat_natCast {lo hi : Nat} (n : Nat) (h : lo ≤ hi) : clampNat lo hi n = max lo (min n hi) :=
  clampNat_eq h (by omega)

theorem State.startPattern_identify {i : Fin 16} {toggles interval : Nat}
    (h : s.patternFails (.identify i toggles interval) = none) :
    s.startPattern (.identify i toggles interval) = Reply.plain
      (s.startIdentify i (max 1 (min toggles 20)) (max 30 (min interval 600)))
      (if max 1 (min toggles 20) = toggles ∧ max 30 (min interval 600) = interval then .done else .clamped) := by
  simp only [State.startPattern, h, clampNat_natCast _ (show 1 ≤ 20 by decide),
    clampNat_natCast _ (show 30 ≤ 600 by decide), clamped_outcome, Fin.ofNat_val_eq_self]

theorem State.startPattern_sweep {dwell threshold : Nat} (h : s.patternFails (.sweep dwell threshold) = none) :
    s.startPattern (.sweep dwell threshold) = Reply.plain
      (s.startSweep (max 300 (min dwell 3600)) (max 32 (min threshold 320)))
      (if max 300 (min dwell 3600) = dwell ∧ max 32 (min threshold 320) = threshold then .done else .clamped) := by
  simp only [State.startPattern, h, clampNat_natCast _ (show 300 ≤ 3600 by decide),
    clampNat_natCast _ (show 32 ≤ 320 by decide), clamped_outcome]

end checks

theorem patternChecked : Parts.PatternChecked := by
  intro src s hs
  refine ⟨fun hm request => ?_, fun hm => ⟨fun code => ?_, fun loop toggles interval hloop => ?_,
    fun i toggles interval hi => ?_, fun dwell threshold => ⟨fun hloops => ?_, fun hsome hno => ?_⟩⟩⟩
  · exact startPattern_answers hs (State.startPattern_fails (State.patternFails_outside_passive hm request))
  · exact startPattern_answers hs (State.startPattern_fails (State.patternFails_other hm code))
  · exact startPattern_answers hs
      (State.startPattern_fails (State.patternFails_identify_refused hm toggles interval hloop))
  · exact startPattern_answers hs
      (State.startPattern_identify (State.patternFails_identify_passes hm toggles interval hi))
  · exact startPattern_answers hs
      (State.startPattern_fails (State.patternFails_sweep_refused hm dwell threshold hloops))
  · exact startPattern_answers hs
      (State.startPattern_sweep (State.patternFails_sweep_passes hm dwell threshold hsome hno))

/-! ## The loops at a start (R129) -/

theorem Loop.tested_eq (l : Loop) :
    l.tested = { l with state := if l.state = .standby then .testing else l.state } := by
  unfold Loop.tested
  split <;> rfl

theorem State.loop_enterTest (s : State) (i : Fin 16) : s.enterTest.loop i = (s.loop i).tested := by
  rw [State.enterTest_eq]
  exact s.loop_mapLoops _ i

theorem Loop.tested_testing_iff (l : Loop) : l.tested.state = .testing ↔ l.state = .standby ∨ l.state = .testing := by
  rw [Loop.tested_eq]
  dsimp only
  split <;> simp_all

/-- TEST mode with a pattern record: where each start of a pattern begins. -/
def State.tested (s : State) (p : Pattern) : State := { s.enterTest with pattern := p }

section tested
variable (s : State) (p : Pattern) (i : Fin 16)

theorem State.loop_setPattern (u : State) : State.loop { u with pattern := p } i = u.loop i := rfl

theorem State.loop_tested : (s.tested p).loop i = (s.loop i).tested :=
  (s.enterTest.loop_setPattern p i).trans (s.loop_enterTest i)

/-- The start of a pattern reaches the loops, the mode and the pattern record. -/
theorem State.others_tested : (s.tested p).rules = s.rules ∧ (s.tested p).rooms = s.rooms ∧
    (s.tested p).probes = s.probes ∧ (s.tested p).supply = s.supply ∧ (s.tested p).alloc = s.alloc ∧
    (s.tested p).notices = s.notices ∧ (s.tested p).profiles = s.profiles ∧ (s.tested p).sweep = s.sweep := by
  simp [State.tested, State.enterTest_eq]

theorem State.profileOf_tested : (s.tested p).profileOf i = s.profileOf i := by
  have hprofile : (s.loop i).tested.profile = (s.loop i).profile := by rw [Loop.tested_eq]
  obtain ⟨-, -, -, -, -, -, hprofiles, -⟩ := s.others_tested p
  rw [State.profileOf, State.loop_tested, hprofile, State.profile, hprofiles]
  rfl

theorem State.openingAction_tested : (s.tested p).openingAction i = s.openingAction i := by
  rw [State.openingAction, State.profileOf_tested, State.openingAction]

theorem State.closingAction_tested : (s.tested p).closingAction i = s.closingAction i := by
  rw [State.closingAction, State.profileOf_tested, State.closingAction]

/-- TEST mode entered, as the statement writes it. -/
theorem State.tested_eq : s.tested p = { s with
    mode := .test, pattern := p
    loops := Vector.ofFn fun i => { s.loop i with
      state := if (s.loop i).state = .standby then .testing else (s.loop i).state } } := by
  simp only [State.tested, State.enterTest_eq, State.mapLoops, Loop.tested_eq]

end tested

/-! ## Settling (R131) -/

/-- A settlement writes the stage and its interval, and nothing else. -/
theorem State.patternSettle_eq (s : State) : ∃ stage due,
    s.patternSettle = { s with pattern := { s.pattern with stage := stage, intervalDue := due } } := by
  rcases s.patternSettle_stage with e | ⟨-, stage, n, -, e⟩
  · exact ⟨s.pattern.stage, s.pattern.intervalDue, e⟩
  · exact ⟨stage, some (s.now + n), e⟩

/-- t is s after placings, with the stage of the pattern and its interval aside. -/
def State.SettledStep (s t : State) : Prop :=
  ∃ u stage due, s.PlaceStep u ∧ t = { u with pattern := { u.pattern with stage := stage, intervalDue := due } }

theorem State.PlaceStep.settled {s u : State} (h : s.PlaceStep u) : s.SettledStep u.patternSettle := by
  obtain ⟨stage, due, e⟩ := u.patternSettle_eq
  exact ⟨u, stage, due, h, e⟩

theorem State.loop_patternSettle (s : State) (i : Fin 16) : s.patternSettle.loop i = s.loop i := by
  obtain ⟨stage, due, e⟩ := s.patternSettle_eq
  rw [e]
  rfl

section fields
variable {s t : State} (h : s.SettledStep t)
include h

theorem State.SettledStep.others : t.mode = s.mode ∧ t.rules = s.rules ∧ t.rooms = s.rooms ∧ t.probes = s.probes ∧
    t.supply = s.supply ∧ t.alloc = s.alloc ∧ t.notices = s.notices ∧ t.sweep = s.sweep := by
  obtain ⟨u, stage, due, hu, rfl⟩ := h
  have hu := hu.1
  rw [hu]
  exact ⟨rfl, rfl, rfl, rfl, rfl, rfl, rfl, rfl⟩

theorem State.SettledStep.pattern : t.pattern =
    { s.pattern with stage := t.pattern.stage, intervalDue := t.pattern.intervalDue } := by
  obtain ⟨u, stage, due, hu, rfl⟩ := h
  dsimp only
  rw [hu.pattern]

theorem State.SettledStep.loop (i : Fin 16) : t.loop i = { s.loop i with
    wanted := (t.loop i).wanted, head := (t.loop i).head, settle := (t.loop i).settle } := by
  obtain ⟨u, stage, due, hu, rfl⟩ := h
  exact hu.2 i

end fields

theorem State.driveStage_settledStep (s : State) (stage : Stage) (k : Fin 16) (a : Action) :
    (s.setStage stage (some k)).SettledStep (s.driveStage stage k a) :=
  (State.want_placeStep _ k a false).settled

theorem State.loop_driveStage_ne {s : State} {i k : Fin 16} (h : i ≠ k) (stage : Stage) (a : Action) :
    (s.driveStage stage k a).loop i = s.loop i := by
  rw [State.driveStage, State.loop_patternSettle, State.loop_want_ne h]
  rfl

theorem State.wanted_driveStage (s : State) (stage : Stage) (k : Fin 16) (a : Action) :
    ((s.driveStage stage k a).loop k).wanted = some a := by
  rw [State.driveStage, State.loop_patternSettle, State.wanted_want]

/-! ## IDENTIFY and SWEEP begin (R132, R133) -/

theorem State.PlaceStep.profileOf {s t : State} (h : s.PlaceStep t) (i : Fin 16) :
    t.profileOf i = s.profileOf i := by
  have hprofile : (t.loop i).profile = (s.loop i).profile := by rw [h.2 i]
  rw [State.profileOf, State.profileOf, hprofile, State.profile, State.profile, h.profiles]

theorem State.PlaceStep.closingAction {s t : State} (h : s.PlaceStep t) (i : Fin 16) :
    t.closingAction i = s.closingAction i := by
  rw [State.closingAction, h.profileOf, State.closingAction]

/-- The record with which IDENTIFY starts. -/
def Pattern.identifying (p : Pattern) (k a b : Nat) : Pattern :=
  { p with kind := .identify, arg1 := k, arg2 := a, arg3 := b, togglesDone := 0 }

/-- The record with which SWEEP starts. -/
def Pattern.sweeping (p : Pattern) (a b : Nat) : Pattern :=
  { p with
    kind := .sweep, arg1 := a, arg2 := b, arg3 := 0, togglesDone := 0
    stage := .closingAll, subject := none, intervalDue := none }

theorem State.startIdentify_eq (s : State) (k : Fin 16) (a b : Nat) : s.startIdentify k a b =
    (s.tested (s.pattern.identifying k a b)).driveStage .opening k (s.openingAction k) := by
  rw [← s.openingAction_tested (s.pattern.identifying k a b)]
  rfl

/-- Every closing of a SWEEP's start is that of the loop as the part stood. -/
theorem State.closeAll_eq (s u : State) (hu : ∀ i, u.closingAction i = s.closingAction i) (is : List (Fin 16)) :
    is.foldl (fun v i => v.want i (v.closingAction i) false) u =
      is.foldl (fun v i => v.want i (s.closingAction i) false) u := by
  refine foldl_congr_keep (P := fun v => ∀ i, v.closingAction i = s.closingAction i) (fun v i hv j => ?_)
    (fun v i hv => ?_) is hu
  · exact ((v.want_placeStep i _ false).closingAction j).trans (hv j)
  · rw [hv]

/-- The part when a SWEEP has cleared its table, and closes every TESTING loop. -/
def State.sweeping (s : State) (a b : Nat) : State :=
  { s.tested (s.pattern.sweeping a b) with sweep := Vector.replicate 16 {} }

theorem State.closingAction_setSweep (u : State) (x : Vector SweepResult 16) (i : Fin 16) :
    State.closingAction { u with sweep := x } i = u.closingAction i := rfl

theorem State.loop_sweeping (s : State) (a b : Nat) (i : Fin 16) :
    (s.sweeping a b).loop i = (s.loop i).tested := s.loop_tested (s.pattern.sweeping a b) i

theorem State.startSweep_eq (s : State) (a b : Nat) : s.startSweep a b =
    ((s.sweeping a b).testingLoops.foldl (fun u i => u.want i (s.closingAction i) false)
      (s.sweeping a b)).patternSettle := by
  rw [← State.closeAll_eq s (s.sweeping a b) fun i =>
    (State.closingAction_setSweep _ _ i).trans (s.closingAction_tested _ i)]
  rfl

theorem State.startSweep_settledStep (s : State) (a b : Nat) : (s.sweeping a b).SettledStep (s.startSweep a b) := by
  rw [State.startSweep_eq]
  exact (State.wantAll_placeStep _ (fun _ i => s.closingAction i) _).settled

theorem State.testingLoops_sweeping (s : State) (a b : Nat) : (s.sweeping a b).testingLoops =
    loopIds.filter fun i => (s.loop i).state = .standby ∨ (s.loop i).state = .testing := by
  refine List.filter_congr fun i _ => ?_
  rw [Bool.eq_iff_iff, beq_iff_eq, decide_eq_true_eq, ← Loop.tested_testing_iff, State.loop_sweeping]

/-- A wanted action placed for a list of loops is wanted of each of them. -/
theorem State.wanted_wantAll {s : State} (f : Fin 16 → Action) {is : List (Fin 16)} (his : is.Nodup)
    {i : Fin 16} (hi : i ∈ is) :
    ((is.foldl (fun u j => u.want j (f j) false) s).loop i).wanted = some (f i) := by
  induction is generalizing s with
  | nil => cases hi
  | cons j is ih =>
    obtain ⟨hj, hnodup⟩ := List.nodup_cons.mp his
    rw [List.foldl_cons]
    rcases List.mem_cons.mp hi with rfl | hi
    · have hout := (State.foldl_loop (R := fun _ _ => True) (f := fun u j => u.want j (f j) false)
        (fun _ _ => trivial) (fun _ _ _ h => State.loop_want_ne h _ _) hnodup (s.want i (f i) false) i).2 hj
      rw [hout, State.wanted_want]
    · exact ih hnodup hi

theorem State.nodup_testingLoops (s : State) : s.testingLoops.Nodup := nodup_loopIds.filter _

/-- A stage that is entered, or a sweep table written, leaves the other records. -/
theorem State.others_setStage (u : State) (stage : Stage) (k : Option (Fin 16)) :
    (u.setStage stage k).rules = u.rules ∧ (u.setStage stage k).rooms = u.rooms ∧
    (u.setStage stage k).probes = u.probes ∧ (u.setStage stage k).supply = u.supply ∧
    (u.setStage stage k).alloc = u.alloc ∧ (u.setStage stage k).notices = u.notices ∧
    (u.setStage stage k).mode = u.mode ∧ (u.setStage stage k).sweep = u.sweep ∧
    (∀ i, (u.setStage stage k).loop i = u.loop i) ∧
    (u.setStage stage k).pattern = { u.pattern with stage := stage, subject := k, intervalDue := none } :=
  ⟨rfl, rfl, rfl, rfl, rfl, rfl, rfl, rfl, fun _ => rfl, rfl⟩

theorem State.others_setSweep (u : State) (x : Vector SweepResult 16) :
    State.rules { u with sweep := x } = u.rules ∧ State.rooms { u with sweep := x } = u.rooms ∧
    State.probes { u with sweep := x } = u.probes ∧ State.supply { u with sweep := x } = u.supply ∧
    State.alloc { u with sweep := x } = u.alloc ∧ State.notices { u with sweep := x } = u.notices :=
  ⟨rfl, rfl, rfl, rfl, rfl, rfl⟩

theorem State.mode_tested (s : State) (p : Pattern) : (s.tested p).mode = .test := rfl

theorem State.pattern_tested (s : State) (p : Pattern) : (s.tested p).pattern = p := rfl

/-- What the start of either pattern leaves, from the part t after the placings. -/
theorem State.SettledStep.start {s u t : State} (h : u.SettledStep t) (hmode : u.mode = .test)
    (hdone : u.pattern.togglesDone = 0)
    (hothers : u.rules = s.rules ∧ u.rooms = s.rooms ∧ u.probes = s.probes ∧ u.supply = s.supply ∧
      u.alloc = s.alloc ∧ u.notices = s.notices) (hloop : ∀ i, u.loop i = (s.loop i).tested) :
    t.mode = .test ∧ t.pattern.togglesDone = 0 ∧ t.rules = s.rules ∧ t.rooms = s.rooms ∧
      t.probes = s.probes ∧ t.supply = s.supply ∧ t.alloc = s.alloc ∧ t.notices = s.notices ∧
      ∀ i, (t.loop i).state = (if (s.loop i).state = .standby then .testing else (s.loop i).state) ∧
        (t.loop i).causes = (s.loop i).causes := by
  obtain ⟨h1, h2, h3, h4, h5, h6, h7, -⟩ := h.others
  obtain ⟨g2, g3, g4, g5, g6, g7⟩ := hothers
  refine ⟨h1.trans hmode, ?_, h2.trans g2, h3.trans g3, h4.trans g4, h5.trans g5, h6.trans g6, h7.trans g7,
    fun i => ?_⟩
  · rw [h.pattern]
    exact hdone
  · rw [h.loop i, hloop, Loop.tested_eq]
    exact ⟨rfl, rfl⟩

theorem patternStartLeaves : Parts.PatternStartLeaves := by
  intro s k a b hm
  have hidentify : (State.setStage (s.tested (s.pattern.identifying k a b)) .opening (some k)).SettledStep
      (s.startIdentify k a b) := by
    rw [State.startIdentify_eq]
    exact State.driveStage_settledStep ..
  have hsweep := s.startSweep_settledStep a b
  have hipattern := hidentify.pattern
  have hspattern := hsweep.pattern
  obtain ⟨e1, e2, e3, e4, e5, e6, emode, esweep, eloop, epattern⟩ :=
    State.others_setStage (s.tested (s.pattern.identifying k a b)) .opening (some k)
  obtain ⟨f1, f2, f3, f4, f5, f6, -, fsweep⟩ := s.others_tested (s.pattern.identifying k a b)
  obtain ⟨g1, g2, g3, g4, g5, g6⟩ := State.others_setSweep (s.tested (s.pattern.sweeping a b)) (.replicate 16 {})
  obtain ⟨h1, h2, h3, h4, h5, h6, -⟩ := s.others_tested (s.pattern.sweeping a b)
  rw [epattern, State.pattern_tested] at hipattern
  have hsweeping : (s.sweeping a b).pattern = s.pattern.sweeping a b := rfl
  rw [hsweeping] at hspattern
  refine ⟨?_, ?_, ?_, ?_, ?_, ?_, fun i hi => ?_, ?_, ?_, ?_, fun i => ?_, fun i hi => ?_, ?_, ?_⟩
  · rintro t (ht | ht)
    · rw [ht]
      exact hidentify.start (emode.trans (s.mode_tested _)) (by rw [epattern]; rfl)
        ⟨e1.trans f1, e2.trans f2, e3.trans f3, e4.trans f4, e5.trans f5, e6.trans f6⟩
        fun i => (eloop i).trans (s.loop_tested _ i)
    · rw [ht]
      exact hsweep.start (s.mode_tested (s.pattern.sweeping a b)) (by rw [hsweeping]; rfl)
        ⟨g1.trans h1, g2.trans h2, g3.trans h3, g4.trans h4, g5.trans h5, g6.trans h6⟩
        fun i => s.loop_sweeping a b i
  · rw [hipattern]; rfl
  · rw [hipattern]
  · rw [hipattern]; rfl
  · rw [State.startIdentify_eq, State.wanted_driveStage]
  · obtain ⟨-, -, -, -, -, -, -, h⟩ := hidentify.others
    exact h.trans (esweep.trans fsweep)
  · rw [State.startIdentify_eq, State.loop_driveStage_ne hi, State.loop_tested, Loop.tested_eq]
  · rw [hspattern]; rfl
  · rw [hspattern]; rfl
  · rw [hspattern]; rfl
  · obtain ⟨-, -, -, -, -, -, -, h⟩ := hsweep.others
    rw [State.sweepResult, h]
    exact Vector.getElem_replicate _
  · rw [State.startSweep_eq, State.loop_patternSettle]
    refine State.wanted_wantAll _ (State.nodup_testingLoops _) ?_
    rw [State.testingLoops_sweeping]
    simpa [loopIds] using hi
  · rw [State.startIdentify_eq, State.tested_eq]
    rfl
  · have hclear : Vector.replicate 16 ({} : SweepResult) = Vector.ofFn fun _ => ⟨.none, none, none⟩ := rfl
    rw [State.startSweep_eq, State.testingLoops_sweeping, State.sweeping, State.tested_eq, hclear]
    rfl

/-- Settles O28. -/
theorem patternStarted : Obligations.PatternStarted := ⟨patternChecked, patternStartLeaves⟩

end Sys2Proof.Machine
end

section
/-! PROOFS. STOP PATTERN, and what any ending of a pattern leaves (R137): the settling of O29. -/

namespace Sys2Proof.Machine

open Sys2Proof

/-! ## STOP PATTERN (R137) -/

section stop
variable {s : State}

theorem State.stopPattern_driving (h : s.mode = .active ∨ s.mode = .halting) :
    s.stopPattern = Reply.plain s .state := by
  rcases h with h | h <;> simp only [State.stopPattern, h]

theorem State.stopPattern_passive (h : s.mode = .passive) : s.stopPattern = Reply.plain s .done := by
  simp only [State.stopPattern, h]

theorem State.stopPattern_winding (h : s.mode = .test) (hstage : s.pattern.stage = .windingDown) :
    s.stopPattern = Reply.plain s .done := by
  simp only [State.stopPattern, h, hstage, or_true, if_true]

theorem State.stopPattern_running (h : s.mode = .test) (hidle : s.pattern.stage ≠ .idle)
    (hwinding : s.pattern.stage ≠ .windingDown) :
    s.stopPattern = Reply.plain (s.endPattern .stopped) .done := by
  simp only [State.stopPattern, h, hidle, hwinding, or_self, if_false]

end stop

theorem stopAnswered : Parts.StopAnswered := by
  intro src s hs
  refine ⟨fun hm => ?_, fun hm => ?_, fun hm hidle hwinding => ?_⟩
  · exact answers_of_taken hs rfl (State.stopPattern_driving hm)
  · rcases hm with hm | ⟨hm, hstage⟩
    · exact answers_of_taken hs rfl (State.stopPattern_passive hm)
    · exact answers_of_taken hs rfl (State.stopPattern_winding hm hstage)
  · exact answers_of_taken hs rfl (State.stopPattern_running hm hidle hwinding)

/-! ## The releases of an ending (R137, R138) -/

/-- A head that awaits the echo of a RELEASE waits on, whatever is wanted of it (R96). -/
theorem State.head_want_releaseSent {s : State} {i : Fin 16} (h : (s.loop i).head = .releaseSent) (a : Action)
    (r : Bool) : ((s.want i a r).loop i).head = .releaseSent := by
  have hset : ((s.updLoop i fun l => { l with wanted := some a }).loop i).head = .releaseSent := by
    rw [State.loop_updLoop_self]
    exact h
  unfold State.want State.place
  split
  · exact hset
  · cases a <;> simp only [State.placeRelease, State.placeEnergise, hset]

/-- RELEASE wanted of every TESTING loop. -/
def State.released (s : State) : State :=
  s.testingLoops.foldl (fun s i => s.want i .release false)
    { s with pattern := { s.pattern with intervalDue := none } }

/-- The part in the wind-down of a pattern, before it is checked. -/
def State.winding (s : State) (ending : Ending) : State :=
  { s.released.mapLoops (fun _ => Loop.stoodDown) with pattern := { s.pattern with
      intervalDue := none, lastEnding := ending, subject := none, stage := .windingDown
      heldBy := s.heldAtEnding } }

theorem State.released_placeStep (s : State) :
    State.PlaceStep { s with pattern := { s.pattern with intervalDue := none } } s.released :=
  State.wantAll_placeStep _ (fun _ _ => .release) _

theorem State.endPattern_eq_checkWindDown (s : State) (ending : Ending) :
    s.endPattern ending = (s.winding ending).checkWindDown := by
  have hpattern : (s.released.mapLoops fun _ => Loop.stoodDown).pattern =
      { s.pattern with intervalDue := none } := by
    rw [State.pattern_mapLoops, s.released_placeStep.pattern]
  rw [State.winding, State.endPattern_eq]
  simp only [State.released] at hpattern ⊢
  simp only [hpattern]

section released
variable {s : State} {i : Fin 16}

theorem State.loop_released_of_out (h : (s.loop i).state ≠ .testing) : s.released.loop i = s.loop i :=
  (State.foldl_loop (R := fun _ _ => True) (f := fun u j => u.want j .release false) (fun _ _ => trivial)
    (fun _ _ _ hne => State.loop_want_ne hne _ _) s.nodup_testingLoops _ i).2
    (fun hi => h (s.mem_testingLoops.mp hi))

theorem State.wanted_released (h : (s.loop i).state = .testing) : (s.released.loop i).wanted = some .release :=
  State.wanted_wantAll (fun _ => .release) s.nodup_testingLoops (s.mem_testingLoops.mpr h)

theorem State.head_released (h : (s.loop i).head = .releaseSent) : (s.released.loop i).head = .releaseSent := by
  by_cases ht : (s.loop i).state = .testing
  · exact (State.foldl_loop (R := fun l k => l.head = .releaseSent → k.head = .releaseSent)
      (f := fun u j => u.want j .release false) (fun _ _ hl => State.head_want_releaseSent hl _ _)
      (fun _ _ _ hne => State.loop_want_ne hne _ _) s.nodup_testingLoops
      { s with pattern := { s.pattern with intervalDue := none } } i).1 (s.mem_testingLoops.mpr ht) h
  · rw [State.loop_released_of_out ht, h]

theorem State.loop_winding (ending : Ending) : (s.winding ending).loop i = (s.released.loop i).stoodDown :=
  (State.loop_setPattern _ _ _).trans (s.released.loop_mapLoops _ i)

theorem State.loop_winding_of_testing (h : (s.loop i).state = .testing) (ending : Ending) :
    (s.winding ending).loop i = { s.released.loop i with state := .standby } := by
  have hstate : (s.released.loop i).state = .testing := by
    rw [s.released_placeStep.2 i]
    exact h
  rw [State.loop_winding, Loop.stoodDown, if_pos hstate]

theorem State.loop_winding_of_out (h : (s.loop i).state ≠ .testing) (ending : Ending) :
    (s.winding ending).loop i = s.loop i := by
  rw [State.loop_winding, State.loop_released_of_out h, Loop.stoodDown, if_neg h]

theorem State.heldAtEnding_iff : s.heldAtEnding.get i = true ↔
    (s.loop i).state = .testing ∧ (s.loop i).head = .releaseSent := by
  simp [State.heldAtEnding, Vector.get_eq_getElem]

/-- Exactly the TESTING loops that awaited the echo of a RELEASE hold up the wind-down (assumption 29). -/
theorem State.windDownHeld_winding (ending : Ending) : (s.winding ending).windDownHeld i = true ↔
    (s.loop i).state = .testing ∧ (s.loop i).head = .releaseSent := by
  rw [State.windDownHeld, Bool.and_eq_true, beq_iff_eq]
  refine ⟨fun ⟨hheld, _⟩ => State.heldAtEnding_iff.mp hheld, fun h => ⟨State.heldAtEnding_iff.mpr h, ?_⟩⟩
  rw [State.loop_winding_of_testing h.1]
  exact State.head_released h.2

end released

/-- The records that an ending leaves. -/
theorem State.others_winding (s : State) (ending : Ending) : (s.winding ending).mode = s.mode ∧
    (s.winding ending).sweep = s.sweep ∧ (s.winding ending).notices = s.notices := by
  have hplace := s.released_placeStep
  have hsweep : s.released.sweep = s.sweep := by rw [hplace.1]
  simp only [State.winding, State.mode_mapLoops, State.sweep_mapLoops, State.notices_mapLoops, hplace.mode,
    hsweep, hplace.notices, and_self]

/-! ## The end of a wind-down (R137) -/

/-- The part after a wind-down that has nothing left to do. -/
def State.windDownDone (s : State) : State :=
  { s with
      mode := .passive
      pattern := { s.pattern with kind := .none, stage := .idle, heldBy := Vector.replicate 16 false } }.raise
    .patternDone none (some (if s.pattern.lastEnding = Ending.stopped then 1 else 0))

theorem State.checkWindDown_eq (s : State) : s.checkWindDown =
    if s.mode = .test ∧ s.pattern.stage = .windingDown ∧ s.windDownQuiet = true then s.windDownDone else s := rfl

theorem State.headsQuiet_windDownDone (s : State) : s.windDownDone.headsQuiet = s.headsQuiet := rfl

theorem State.headsQuiet_checkWindDown (s : State) : s.checkWindDown.headsQuiet = s.headsQuiet := by
  rw [State.checkWindDown_eq]
  split
  · exact s.headsQuiet_windDownDone
  · rfl

theorem State.loop_windDownDone (s : State) (i : Fin 16) : s.windDownDone.loop i = s.loop i := rfl

theorem State.loop_checkWindDown (s : State) (i : Fin 16) : s.checkWindDown.loop i = s.loop i := by
  rw [State.checkWindDown_eq]
  split
  · exact s.loop_windDownDone i
  · rfl

/-- The wind-down keeps the arguments, the toggles done, the subject and the last ending (assumption 32). -/
theorem State.pattern_checkWindDown (s : State) : ∃ kind stage heldBy, s.checkWindDown.pattern =
    { s.pattern with kind := kind, stage := stage, heldBy := heldBy } := by
  rw [State.checkWindDown_eq]
  split
  · exact ⟨.none, .idle, .replicate 16 false, rfl⟩
  · exact ⟨s.pattern.kind, s.pattern.stage, s.pattern.heldBy, rfl⟩

theorem State.sweep_checkWindDown (s : State) : s.checkWindDown.sweep = s.sweep := by
  rw [State.checkWindDown_eq]
  split <;> rfl

theorem State.windDownQuiet_winding (s : State) (ending : Ending) : (s.winding ending).windDownQuiet = true ↔
    (s.winding ending).headsQuiet = true ∧
      ∀ i, ¬((s.loop i).state = .testing ∧ (s.loop i).head = .releaseSent) := by
  simp only [State.windDownQuiet_iff, ← Bool.not_eq_true, State.windDownHeld_winding]

theorem patternEnded : Parts.PatternEnded := by
  intro s ending hm hending
  rw [State.endPattern_eq_checkWindDown]
  intro t held
  obtain ⟨hmode, hsweep, hnotices⟩ := s.others_winding ending
  have hpattern : (s.winding ending).pattern = { s.pattern with
      intervalDue := none, lastEnding := ending, subject := none, stage := .windingDown
      heldBy := s.heldAtEnding } := rfl
  have hquiet : t.headsQuiet = (s.winding ending).headsQuiet := State.headsQuiet_checkWindDown _
  have hloop (i : Fin 16) : t.loop i = (s.winding ending).loop i := State.loop_checkWindDown _ i
  obtain ⟨kind, stage, heldBy, ht⟩ := (s.winding ending).pattern_checkWindDown
  have ht : t.pattern = _ := ht
  rw [hpattern] at ht
  refine ⟨?_, ?_, ?_, ?_, ?_, ?_, ?_, (State.sweep_checkWindDown _).trans hsweep, fun i hi => ?_, fun i hi => ?_,
    fun hleft => ?_, fun ⟨hall, hnone⟩ => ?_⟩
  · rw [ht]
  · rw [ht]
  · rw [ht]
  · rw [ht]
  · rw [ht]
  · rw [ht]
  · rw [ht]
  · rw [hloop, State.loop_winding_of_testing hi]
    refine ⟨rfl, State.wanted_released hi, ?_⟩
    dsimp only
    rw [s.released_placeStep.2 i]
    rfl
  · rw [hloop, State.loop_winding_of_out hi]
  · have hstays : t = s.winding ending := by
      refine (State.checkWindDown_eq _).trans (if_neg ?_)
      rw [State.windDownQuiet_winding, ← hquiet]
      rintro ⟨-, -, hall, hnone⟩
      rcases hleft with h | ⟨i, hi⟩
      · exact Bool.noConfusion (h.symm.trans hall)
      · exact hnone i hi
    rw [hstays, hpattern]
    exact ⟨hmode.trans hm, rfl, rfl, hnotices, fun i => State.heldAtEnding_iff⟩
  · have hdone : t = (s.winding ending).windDownDone := by
      refine (State.checkWindDown_eq _).trans (if_pos ⟨hmode.trans hm, by rw [hpattern], ?_⟩)
      rw [State.windDownQuiet_winding, ← hquiet]
      exact ⟨hall, hnone⟩
    rw [hdone]
    refine ⟨rfl, rfl, rfl, ?_⟩
    rw [← hnotices]
    rfl

/-- Settles O29. -/
theorem patternStopped : Obligations.PatternStopped := ⟨stopAnswered, patternEnded⟩

end Sys2Proof.Machine
end

section
/-! PROOFS. Shedding, causes and the FLT pin (R14 to R18, R47, R49, R50, R77, R94), and the expiries outside
the patterns (R32, R44, R51, R57, R74, R93, R152): the settling of O47 and O48. -/

namespace Sys2Proof.Machine

open Sys2Proof

/-! ## One record stored twice, or as it was -/

section store
variable (s : State) (i : Fin 16)

theorem State.setLoop_setLoop (l k : Loop) : (s.setLoop i l).setLoop i k = s.setLoop i k := by
  simp [State.setLoop]

theorem State.setLoop_loop : s.setLoop i (s.loop i) = s := by
  have hset : s.loops.set i (s.loop i) = s.loops := Vector.set_getElem_self i.isLt
  rw [State.setLoop, hset]

theorem State.updLoop_eq (f : Loop → Loop) : s.updLoop i f = s.setLoop i (f (s.loop i)) := rfl

theorem State.updLoop_setLoop (l : Loop) (f : Loop → Loop) : (s.setLoop i l).updLoop i f = s.setLoop i (f l) := by
  rw [State.updLoop, State.loop_setLoop_self, State.setLoop_setLoop]

theorem State.updLoop_updLoop (f g : Loop → Loop) :
    (s.updLoop i f).updLoop i g = s.setLoop i (g (f (s.loop i))) := s.updLoop_setLoop i _ g

/-- The closing action goes by the profile that the loop names. -/
theorem State.closingAction_setLoop {l : Loop} (h : l.profile = (s.loop i).profile) :
    (s.setLoop i l).closingAction i = s.closingAction i := by
  simp [State.closingAction, State.profileOf, h]

end store

/-! ## Shedding (R16, R77, R94) -/

/-- A shed loop is closed: what it holds, and the placing of its closing action where it was open. -/
theorem State.closeShed_setLoop (s : State) (i : Fin 16) (l : Loop) (h : l.profile = (s.loop i).profile) :
    (s.setLoop i l).closeShed i =
      if l.openPhase = true then
        (s.setLoop i { l with onTime := 0, openPhase := false }).want i (s.closingAction i) false
      else s.setLoop i { l with onTime := 0, openPhase := false } := by
  have hclosing : (s.setLoop i { l with onTime := 0, openPhase := false }).closingAction i = s.closingAction i :=
    s.closingAction_setLoop i h
  rw [State.closeShed, State.loop_setLoop_self, State.updLoop_setLoop, hclosing]

theorem shedAt_iff (shedLevel level : Nat) : shedAt shedLevel level = true ↔ level = 0 ∨ level ≤ shedLevel := by
  simp [shedAt]

/-- The record of a RUNNING or FAULT loop that is shed (R16). -/
def Loop.shedded (l : Loop) : Loop :=
  { l with
    state := if l.state = .running then .shed else l.state
    request := if l.state = .running then 0 else l.request
    grant := if l.state = .running then 0 else l.grant
    activeDuty := 0, bufferedDuty := 0, pendingFlag := false, onTime := 0, openPhase := false }

section shed
variable {s : State} {i : Fin 16} {shedLevel : Nat}

theorem State.shedStep_in (hstate : (s.loop i).state = .running ∨ (s.loop i).state = .fault)
    (hin : shedAt shedLevel (s.loop i).level = true) : State.shedStep shedLevel s i =
      if (s.loop i).openPhase = true then
        (s.setLoop i (s.loop i).shedded).want i (s.closingAction i) false
      else s.setLoop i (s.loop i).shedded := by
  generalize hl : s.loop i = l at *
  have hprofile : l.profile = (s.loop i).profile := by rw [hl]
  rcases hstate with hstate | hstate
  · have hshed : State.shedStep shedLevel s i =
        (s.setLoop i { l.noDuties with state := .shed, request := 0, grant := 0 }).closeShed i := by
      simp only [State.shedStep, hl, hstate, hin, if_true, State.updLoop]
    have hrecord : { { l.noDuties with state := .shed, request := 0, grant := 0 } with
        onTime := 0, openPhase := false } = l.shedded := by
      simp only [Loop.shedded, hstate, if_true, Loop.noDuties]
    rw [hshed, s.closeShed_setLoop i { l.noDuties with state := .shed, request := 0, grant := 0 } hprofile, hrecord]
    rfl
  · have hshed : State.shedStep shedLevel s i = (s.setLoop i l.noDuties).closeShed i := by
      simp only [State.shedStep, hl, hstate, hin, if_true, State.updLoop]
    have hrecord : { l.noDuties with onTime := 0, openPhase := false } = l.shedded := by
      simp only [Loop.shedded, hstate, reduceCtorEq, if_false, Loop.noDuties]
    rw [hshed, s.closeShed_setLoop i l.noDuties hprofile, hrecord]
    rfl

theorem State.shedStep_out (hstate : (s.loop i).state = .shed) (hout : shedAt shedLevel (s.loop i).level = false) :
    State.shedStep shedLevel s i = s.setLoop i { s.loop i with state := .running } := by
  simp [State.shedStep, hstate, hout, State.updLoop]

theorem State.shedStep_stays
    (hrun : ¬(((s.loop i).state = .running ∨ (s.loop i).state = .fault) ∧
      shedAt shedLevel (s.loop i).level = true))
    (hshed : ¬((s.loop i).state = .shed ∧ shedAt shedLevel (s.loop i).level = false)) :
    State.shedStep shedLevel s i = s := by
  cases hstate : (s.loop i).state <;> simp_all [State.shedStep]

end shed

theorem loopShed : Parts.LoopShed := by
  intro s i shedLevel l inRange shed
  have hin : shedAt shedLevel (s.loop i).level = true ↔ inRange := shedAt_iff _ _
  have hout : shedAt shedLevel (s.loop i).level = false ↔ ¬inRange := by rw [← hin, Bool.not_eq_true]
  refine ⟨fun hstate h => ⟨fun hclosed => ?_, fun hopen => ?_⟩, fun hstate h => ?_, fun hrun hshed => ?_⟩
  · exact (State.shedStep_in hstate (hin.mpr h)).trans (if_neg (by rw [show (s.loop i).openPhase = false from hclosed]; simp))
  · exact (State.shedStep_in hstate (hin.mpr h)).trans (if_pos hopen)
  · exact State.shedStep_out hstate (hout.mpr h)
  · exact State.shedStep_stays (by rwa [hin]) (by rwa [hout])

/-! ## Causes (R14, R15) -/

section causes
variable {s : State} {i : Fin 16} {c : Cause}

theorem State.addCause_nothing (h : (s.loop i).state = .disabled ∨ (s.loop i).causes.has c = true) :
    s.addCause i c = s := by
  rw [State.addCause, if_pos]
  rcases h with h | h <;> simp [Loop.enabled, h]

theorem State.addCause_joins (hstate : (s.loop i).state ∈ [LoopState.standby, .testing, .fault])
    (h : (s.loop i).causes.has c = false) : s.addCause i c =
      (s.setLoop i { s.loop i with causes := (s.loop i).causes.put true c }).raise .loopFault (some i.val)
        (some ((s.loop i).causes.put true c).code) := by
  have hcases : (s.loop i).state = .standby ∨ (s.loop i).state = .testing ∨ (s.loop i).state = .fault := by
    simpa using hstate
  rcases hcases with e | e | e <;> simp [State.addCause, Loop.enabled, e, h, State.updLoop]

/-- A RUNNING or SHED loop enters FAULT, and the allocation is recomputed after the notice (assumption 7). -/
theorem State.addCause_faults (hstate : (s.loop i).state ∈ [LoopState.running, .shed])
    (h : (s.loop i).causes.has c = false) : s.addCause i c =
      ((s.setLoop i (Loop.intoFault { s.loop i with causes := (s.loop i).causes.put true c } (s.inShedRange i))).raise
        .loopFault (some i.val) (some ((s.loop i).causes.put true c).code)).recompute := by
  have hcases : (s.loop i).state = .running ∨ (s.loop i).state = .shed := by simpa using hstate
  rw [State.addCause, if_neg (by rcases hcases with e | e <;> simp [Loop.enabled, e, h])]
  dsimp only
  rw [State.updLoop_updLoop]
  split
  case h_1 | h_2 => rfl
  all_goals simp_all

theorem State.removeCause_nothing (h : (s.loop i).state = .disabled ∨ (s.loop i).causes.has c = false) :
    s.removeCause i c = s := by
  rw [State.removeCause, if_pos]
  rcases h with h | h <;> simp [Loop.enabled, h]

theorem State.removeCause_leaves (hstate : (s.loop i).state ≠ .disabled) (h : (s.loop i).causes.has c = true) :
    s.removeCause i c =
      if ((s.loop i).causes.put false c).isEmpty = true then
        (s.setLoop i { s.loop i with causes := (s.loop i).causes.put false c }).raise .loopRecovered (some i.val) none
      else s.setLoop i { s.loop i with causes := (s.loop i).causes.put false c } := by
  rw [State.removeCause, if_neg]
  · rfl
  · simp [Loop.enabled, hstate, h]

theorem CauseSet.isEmpty_iff (c : CauseSet) : c.isEmpty = true ↔ c = ⟨false, false, false⟩ := by
  obtain ⟨a, b, d⟩ := c
  simp [CauseSet.isEmpty, and_assoc]

end causes

theorem causesChanged : Parts.CausesChanged := by
  intro s i c l held set
  have hheld : held = (s.loop i).causes.has c := by cases c <;> rfl
  have hset (b : Bool) : set b = (s.loop i).causes.put b c := by cases c <;> rfl
  rw [hheld]
  simp only [hset]
  refine ⟨State.addCause_nothing, State.addCause_joins, fun hstate h => ⟨fun hin => ?_, fun hin => ?_⟩,
    State.removeCause_nothing, fun hstate h => ⟨fun hleft => ?_, fun hempty => ?_⟩⟩
  · rw [State.addCause_faults hstate h, hin]
    rfl
  · rw [State.addCause_faults hstate h, hin]
    rfl
  · rw [State.removeCause_leaves hstate h, if_neg (by rwa [CauseSet.isEmpty_iff])]
  · rw [State.removeCause_leaves hstate h, if_pos ((CauseSet.isEmpty_iff _).mpr hempty)]

theorem probeCauseEvaluated : Parts.ProbeCauseEvaluated := by
  intro s i
  refine ⟨fun h => ?_, fun h => ?_, rfl⟩ <;>
    simp [State.addProbeCause, State.removeProbeCause, State.evaluateProbe, h]

theorem fltPinFollowsFaults : Parts.FltPinFollowsFaults := by
  intro s
  simp [State.fltLow, loopIds]

/-- Settles O47. -/
theorem shedAndFaultMovesMade : Obligations.ShedAndFaultMovesMade :=
  ⟨loopShed, causesChanged, probeCauseEvaluated, fltPinFollowsFaults⟩

/-! ## The expiries of the drive timer (R57, R93) -/

section expiries
variable {s : State} (hn : s.NothingToBegin)
include hn

theorem exec_onTimeExpiry (i : Fin 16) : exec (.onTimeExpiry i) s =
    if s.onTimeDue i = true then
      .next ((s.updLoop i fun l => { l with openPhase := false }).want i (s.closingAction i) false)
    else .next s := by
  show execOnTimeExpiry i s = _
  rw [execOnTimeExpiry, State.beginAll_of_nothing hn]

theorem exec_settleIntervalExpiry (i : Fin 16) : exec (.settleIntervalExpiry i) s =
    if s.settleDue i = true then .next (s.updLoop i fun l => { l with settle := .settled }) else .next s := by
  show execSettleIntervalExpiry i s = _
  rw [execSettleIntervalExpiry, State.beginAll_of_nothing hn]

theorem exec_roomStaleExpiry (r : Fin 12) : exec (.roomStaleExpiry r) s =
    if s.roomStaleDue r = true then .next (s.roomStale r) else .next s := by
  show execRoomStaleExpiry r s = _
  rw [execRoomStaleExpiry, State.beginAll_of_nothing hn]

theorem exec_probeStaleExpiry (e : Fin 32) : exec (.probeStaleExpiry e) s =
    if s.probeStaleDue e = true then .next (s.probeStale e) else .next s := by
  show execProbeStaleExpiry e s = _
  rw [execProbeStaleExpiry, State.beginAll_of_nothing hn]

theorem exec_probeFaultExpiry (e : Fin 32) : exec (.probeFaultExpiry e) s =
    if s.probeFaultDue e = true then .next (s.probeFault e) else .next s := by
  show execProbeFaultExpiry e s = _
  rw [execProbeFaultExpiry, State.beginAll_of_nothing hn]

theorem exec_reportTemperatureExpiry : exec .reportTemperatureExpiry s =
    if s.reportTempDue = true then .next { s with supply := { s.supply with young := false } } else .next s := by
  show execReportTemperatureExpiry s = _
  rw [execReportTemperatureExpiry, State.beginAll_of_nothing hn]

theorem exec_supplyStaleExpiry : exec .supplyStaleExpiry s =
    if s.supplyStaleDue = true then .next s.supplyStale else .next s := by
  show execSupplyStaleExpiry s = _
  rw [execSupplyStaleExpiry, State.beginAll_of_nothing hn]

theorem exec_spacingIntervalExpiry : exec .spacingIntervalExpiry s =
    if s.spacingDue = true then .next { s with notices := { s.notices with spacingDue := none } }
    else .next s := by
  show execSpacingIntervalExpiry s = _
  rw [execSpacingIntervalExpiry, State.beginAll_of_nothing hn]

end expiries

theorem State.onTimeDue_iff (s : State) (i : Fin 16) : s.onTimeDue i = true ↔ (s.loop i).openPhase = true ∧
    (s.loop i).onTime < s.general.cycleLength ∧ (s.loop i).onTime ≤ (s.loop i).openCount := by
  simp [State.onTimeDue, and_assoc]

theorem State.settleDue_iff (s : State) (i : Fin 16) : s.settleDue i = true ↔
    ∃ due, (s.loop i).settle = .running due ∧ due ≤ s.now := by
  unfold State.settleDue
  cases h : (s.loop i).settle <;> simp

theorem driveExpiriesTaken : Parts.DriveExpiriesTaken := by
  intro i s hn
  refine ⟨fun hopen hpart hcount => ?_, fun h => ?_, fun due hdue hle => ?_, fun h => ?_⟩
  · rw [exec_onTimeExpiry hn, if_pos ((s.onTimeDue_iff i).mpr ⟨hopen, hpart, hcount⟩), State.want,
      State.updLoop_updLoop]
  · rw [exec_onTimeExpiry hn, if_neg]
    rw [State.onTimeDue_iff]
    rintro ⟨hopen, hpart, hcount⟩
    rcases h with h | h | h
    · exact Bool.noConfusion (h.symm.trans hopen)
    · omega
    · omega
  · rw [exec_settleIntervalExpiry hn, if_pos ((s.settleDue_iff i).mpr ⟨due, hdue, hle⟩), State.updLoop_eq]
  · rw [exec_settleIntervalExpiry hn, if_neg]
    rw [State.settleDue_iff]
    rintro ⟨due, hdue, hle⟩
    exact Nat.not_lt.mpr hle (h due hdue)

/-! ## The expiries of the tables (R32, R44, R51, R74, R152) -/

theorem State.roomAge_of_unit {s : State} {r : Fin 12} (h : (s.room r).unitAddress ≠ 0) :
    s.roomAge r = min 65535 (s.now - (s.room r).ageStart) := if_neg h

theorem State.probeAge_of_valid {s : State} {e : Fin 32} (h : (s.probe e).valid = true) :
    s.probeAge e = min 65535 (s.now - (s.probe e).ageStart) := if_pos h

/-- When the stale interval of a room has run out, on the clock. -/
theorem State.roomStaleDue_clock (s : State) (r : Fin 12) : s.roomStaleDue r = true ↔
    (s.room r).unitAddress ≠ 0 ∧ (s.room r).stale = false ∧
      s.general.roomStaleTime ≤ min 65535 (s.now - (s.room r).ageStart) := by
  rw [State.roomStaleDue_iff]
  refine and_congr_right fun h => ?_
  rw [State.roomAge_of_unit h]

theorem State.probeStaleDue_clock (s : State) (e : Fin 32) : s.probeStaleDue e = true ↔
    (s.probe e).valid = true ∧ (s.probe e).stale = false ∧
      s.general.probeStaleTime ≤ min 65535 (s.now - (s.probe e).ageStart) := by
  rw [State.probeStaleDue_iff]
  refine and_congr_right fun h => ?_
  rw [State.probeAge_of_valid h]

theorem State.probeFaultDue_clock (s : State) (e : Fin 32) : s.probeFaultDue e = true ↔
    (s.probe e).valid = true ∧ (s.probe e).faultRunning = true ∧ (s.probe e).stale = true ∧
      s.general.faultStaleTime ≤ min 65535 (s.now - (s.probe e).ageStart) := by
  simp only [State.probeFaultDue, State.probeFaulted, Bool.and_eq_true, decide_eq_true_eq, and_assoc]
  refine and_congr_right fun h => ?_
  rw [State.probeAge_of_valid h]

theorem State.reportTempDue_clock (s : State) : s.reportTempDue = true ↔ s.supply.young = true ∧
    s.general.supplyStaleTime ≤ min 65535 (s.now - s.supply.tempStart) := by
  simp only [State.reportTempDue, Bool.and_eq_true, decide_eq_true_eq]
  rfl

theorem State.spacingDue_iff (s : State) : s.spacingDue = true ↔
    ∃ due, s.notices.spacingDue = some due ∧ due ≤ s.now := by
  unfold State.spacingDue State.reached
  cases h : s.notices.spacingDue <;> simp

/-- An entry becomes stale: the flag of a RETURN entry's loop is evaluated with it (R44). -/
theorem State.probeStale_eq (s : State) (e : Fin 32) : s.probeStale e =
    let marked := (s.setProbe e { s.probe e with stale := true }).raise .probeStale (some e.val) none
    if (s.probe e).role = .supplyWater then marked
    else marked.setLoop (s.probe e).loop { marked.loop (s.probe e).loop with
      probeHeld := marked.probeHeldNow (s.probe e).loop } := by
  cases h : (s.probe e).role <;> simp only [State.probeStale, h, reduceCtorEq, if_true, if_false]
  rfl

/-- The fault interval of an entry is over: the condition of a RETURN entry's loop is evaluated (R44). -/
theorem State.probeFault_eq (s : State) (e : Fin 32) : s.probeFault e =
    let marked := s.setProbe e { s.probe e with faultRunning := false }
    if (s.probe e).role = .returnWater ∧ marked.probeCondition (s.probe e).loop = true then
      marked.addCause (s.probe e).loop .probe
    else marked := by
  cases h : (s.probe e).role <;>
    simp only [State.probeFault, h, reduceCtorEq, true_and, false_and, if_false, State.addProbeCause]

theorem tableExpiriesTaken : Parts.TableExpiriesTaken := by
  intro s hn
  refine ⟨fun r => ⟨fun hdue => ?_, fun hdue => ?_⟩, fun e => ⟨fun hdue => ?_, fun hdue => ?_⟩,
    fun e => ⟨fun hdue => ?_, fun hdue => ?_⟩, fun hdue => ?_, fun hdue => ?_, fun hdue => ?_, fun hdue => ?_,
    fun due h => ⟨fun hle => ?_, fun hlt => ?_⟩, fun h => ?_⟩
  · rw [exec_roomStaleExpiry hn, if_pos ((s.roomStaleDue_clock r).mpr hdue)]
    rfl
  · rw [exec_roomStaleExpiry hn, if_neg (by rwa [State.roomStaleDue_clock])]
  · rw [exec_probeStaleExpiry hn, if_pos ((s.probeStaleDue_clock e).mpr hdue), State.probeStale_eq]
  · rw [exec_probeStaleExpiry hn, if_neg (by rwa [State.probeStaleDue_clock])]
  · rw [exec_probeFaultExpiry hn, if_pos ((s.probeFaultDue_clock e).mpr hdue), State.probeFault_eq]
  · rw [exec_probeFaultExpiry hn, if_neg (by rwa [State.probeFaultDue_clock])]
  · rw [exec_reportTemperatureExpiry hn, if_pos (s.reportTempDue_clock.mpr hdue)]
  · rw [exec_reportTemperatureExpiry hn, if_neg (by rwa [State.reportTempDue_clock])]
  · rw [exec_supplyStaleExpiry hn, if_pos (s.supplyStaleDue_iff.mpr hdue)]
    rfl
  · rw [exec_supplyStaleExpiry hn, if_neg (by rwa [State.supplyStaleDue_iff])]
  · rw [exec_spacingIntervalExpiry hn, if_pos (s.spacingDue_iff.mpr ⟨due, h, hle⟩)]
  · rw [exec_spacingIntervalExpiry hn, if_neg]
    rw [State.spacingDue_iff, h]
    rintro ⟨d, hd, hle⟩
    cases hd
    exact Nat.not_lt.mpr hle hlt
  · rw [exec_spacingIntervalExpiry hn, if_neg]
    rw [State.spacingDue_iff, h]
    rintro ⟨d, hd, -⟩
    cases hd

/-- Settles O48. -/
theorem intervalExpiriesTaken : Obligations.IntervalExpiriesTaken :=
  ⟨driveExpiriesTaken, tableExpiriesTaken⟩

end Sys2Proof.Machine
end

section
/-! PROOFS. What a recompute forms (R76 to R81, R85, R86): the settling of O46. -/

namespace Sys2Proof.Machine

open Sys2Proof

/-! ## The demand from a level up (R79) -/

/-- The demand of the levels from one up to 7. -/
def demandFrom (Q : Nat → Nat) (level : Nat) : Nat := (([1, 2, 3, 4, 5, 6, 7].filter (level ≤ ·)).map Q).sum

theorem demandFrom_antitone (Q : Nat → Nat) {a b : Nat} (h : a ≤ b) : demandFrom Q b ≤ demandFrom Q a := by
  refine List.Sublist.sum_le_sum ((List.monotone_filter_right _ fun level hb => ?_).map Q) (by simp)
  simp only [decide_eq_true_eq] at hb ⊢
  exact h.trans hb

theorem demandFrom_eight (Q : Nat → Nat) : demandFrom Q 8 = 0 := rfl

section scaled
variable {s : State} {bavail : Nat}

/-- Every level fits. -/
theorem State.findScaled_fits (h : demandFrom s.levelDemand 1 ≤ bavail) :
    s.findScaled allocationLevels bavail = none := by
  have hall : (allocationLevels.map s.levelDemand).sum = demandFrom s.levelDemand 1 := by
    simp [allocationLevels, demandFrom]
    omega
  rwa [State.findScaled_eq_none, hall]

/-- The first level that does not fit is scaled by what is left over its demand. -/
theorem State.findScaled_at {level : Nat} (hlo : 1 ≤ level) (hhi : level ≤ 7)
    (hshort : bavail < demandFrom s.levelDemand level) (hfits : demandFrom s.levelDemand (level + 1) ≤ bavail) :
    s.findScaled allocationLevels bavail =
      some (level, bavail - demandFrom s.levelDemand (level + 1), s.levelDemand level) := by
  rw [State.findScaled_eq_some]
  have hsplit : allocationLevels = allocationLevels.filter (level < ·) ++ level :: allocationLevels.filter (· < level) := by
    interval_cases level <;> rfl
  have habove : ((allocationLevels.filter (level < ·)).map s.levelDemand).sum =
      demandFrom s.levelDemand (level + 1) := by
    interval_cases level <;> simp [allocationLevels, demandFrom] <;> omega
  have hlevel : demandFrom s.levelDemand level = s.levelDemand level + demandFrom s.levelDemand (level + 1) := by
    interval_cases level <;> simp [demandFrom]
  refine ⟨rfl, by omega, _, _, hsplit, ?_⟩
  rw [habove]
  omega

/-- A level is scaled where the demand does not fit. -/
theorem exists_scaled_level (Q : Nat → Nat) (h : bavail < demandFrom Q 1) :
    ∃ level, 1 ≤ level ∧ level ≤ 7 ∧ bavail < demandFrom Q level ∧ demandFrom Q (level + 1) ≤ bavail := by
  by_contra hnone
  have hup (level : Nat) (hlo : 1 ≤ level) (hhi : level ≤ 7) (hshort : bavail < demandFrom Q level) :
      bavail < demandFrom Q (level + 1) :=
    Nat.not_le.mp fun hfits => hnone ⟨level, hlo, hhi, hshort, hfits⟩
  have hall (n : Nat) (hn : n ≤ 7) : bavail < demandFrom Q (n + 1) := by
    induction n with
    | zero => exact h
    | succ n ih => exact hup (n + 1) (by omega) (by omega) (ih (by omega))
  have htop := hall 7 le_rfl
  rw [demandFrom_eight] at htop
  exact Nat.not_lt_zero _ htop

/-- The grant of a level before the floor, by the demand from it up. -/
theorem levelGrant_eq {level : Nat} (hlo : 1 ≤ level) (hhi : level ≤ 7) (request : Nat) :
    levelGrant (s.findScaled allocationLevels bavail) level request =
      if demandFrom s.levelDemand level ≤ bavail then request
      else if demandFrom s.levelDemand (level + 1) ≤ bavail then
        request * (bavail - demandFrom s.levelDemand (level + 1)) / s.levelDemand level
      else 0 := by
  rcases Nat.lt_or_ge bavail (demandFrom s.levelDemand 1) with hshort | hfits
  · obtain ⟨at', hlo', hhi', hshort', hfits'⟩ := exists_scaled_level s.levelDemand hshort
    rw [State.findScaled_at hlo' hhi' hshort' hfits']
    dsimp only [levelGrant]
    rcases Nat.lt_trichotomy at' level with hlt | heq | hgt
    · rw [if_pos hlt, if_pos ((demandFrom_antitone _ hlt).trans hfits')]
    · subst heq
      rw [if_neg (Nat.lt_irrefl _), if_pos rfl, if_neg (Nat.not_le.mpr hshort'), if_pos hfits']
    · have hbelow : bavail < demandFrom s.levelDemand (level + 1) :=
        hshort'.trans_le (demandFrom_antitone _ hgt)
      have hat : bavail < demandFrom s.levelDemand level := hshort'.trans_le (demandFrom_antitone _ hgt.le)
      rw [if_neg (by omega), if_neg (by omega), if_neg (Nat.not_le.mpr hat), if_neg (Nat.not_le.mpr hbelow)]
  · rw [State.findScaled_fits hfits, if_pos ((demandFrom_antitone _ hlo).trans hfits)]
    rfl

end scaled

/-! ## One loop's grant and buffer (R81) -/

section loops
variable {l : Loop} {inRange : Bool} {grant : Nat}

theorem Loop.allocated_running (h : l.state = .running) : l.allocated inRange grant =
    { l with grant := grant, bufferedDuty := grant, pendingFlag := grant != l.activeDuty } := by
  simp only [Loop.allocated, h, Loop.buffer]

theorem Loop.allocated_fault_out (h : l.state = .fault) : l.allocated false grant =
    { l with grant := 0, bufferedDuty := l.fallbackDuty, pendingFlag := l.fallbackDuty != l.activeDuty } := by
  simp only [Loop.allocated, h, Loop.buffer, Bool.false_eq_true, if_false]

theorem Loop.allocated_dutiless
    (h : l.state = .shed ∨ l.state = .standby ∨ (l.state = .fault ∧ inRange = true)) :
    l.allocated inRange grant =
      { l with grant := 0, activeDuty := 0, bufferedDuty := 0, pendingFlag := false } := by
  rcases h with h | h | ⟨h, rfl⟩ <;> simp only [Loop.allocated, h, Loop.noDuties, if_true]

theorem Loop.allocated_out (h : l.state = .disabled ∨ l.state = .testing) : l.allocated inRange grant = l := by
  rcases h with h | h <;> simp only [Loop.allocated, h]

end loops

/-! ## Steps 3 to 7 (R78 to R86) -/

/-- The allocation writes the loop records, the summary and the notices. -/
theorem State.allocate_eq (s : State) : s.allocate =
    { s with loops := s.allocate.loops, alloc := s.allocate.alloc, notices := s.allocate.notices } := by
  have hgranted (f : Fin 16 → Loop → Loop) : s.mapLoops f = { s with loops := (s.mapLoops f).loops } := rfl
  unfold State.allocate
  dsimp only
  rw [hgranted]
  generalize (s.mapLoops _).loops = v
  split
  · split <;> rfl
  · rfl

section notices
variable {s : State}

theorem State.notices_allocate_fits (h : s.findScaled allocationLevels s.bavail = none) :
    s.allocate.notices = s.notices := by
  have hmap := s.notices_mapLoops fun i l => l.allocated (s.inShedRange i)
    (s.grantOf (s.findScaled allocationLevels s.bavail) i)
  unfold State.allocate
  dsimp only
  generalize s.mapLoops _ = v at hmap ⊢
  rw [h]
  exact hmap

theorem State.notices_allocate_scaled {x : Nat × Nat × Nat} (h : s.findScaled allocationLevels s.bavail = some x) :
    s.allocate.notices =
      if s.alloc.short = true then s.notices else s.notices.raise .budgetShort none (some (x.1 : Int)) := by
  have hmap := s.notices_mapLoops fun i l => l.allocated (s.inShedRange i)
    (s.grantOf (s.findScaled allocationLevels s.bavail) i)
  unfold State.allocate
  dsimp only
  generalize s.mapLoops _ = v at hmap ⊢
  rw [h, ← hmap]
  dsimp only [Option.map_some]
  split <;> rfl

end notices

/-! ## The statement -/

section shed
variable (s : State)

theorem State.inShedRange_shedAll (i : Fin 16) : s.shedAll.inShedRange i = true ↔
    (s.shedAll.loop i).level = 0 ∨ (s.shedAll.loop i).level ≤ s.shedLevel := by
  rw [State.inShedRange, shedAt_iff, State.shedLevel_shedAll]

theorem State.requestFloor_shedAll (i : Fin 16) : s.shedAll.requestFloor i = s.requestFloor i := by
  have h := s.shedAll_driveStep
  obtain ⟨-, -, -, hprofile, -⟩ := h.2 i
  rw [State.requestFloor, State.profileOf, State.profile, hprofile, h.profiles, h.general]
  rfl

/-- The fallback that is kept for the FAULT loops out of the shed range (R78). -/
theorem State.reservation_shedAll : s.shedAll.reservation = (loopIds.map fun i =>
    if (s.shedAll.loop i).state = .fault ∧
        ¬((s.shedAll.loop i).level = 0 ∨ (s.shedAll.loop i).level ≤ s.shedLevel) then
      (s.shedAll.loop i).fallbackDuty * (s.shedAll.loop i).weight else 0).sum := by
  simp only [State.reservation, ← State.inShedRange_shedAll, Bool.not_eq_true]

theorem State.budget_shedAll : s.shedAll.budget = s.supply.allowance * 4096 := by
  rw [State.budget, s.shedAll_driveStep.supply]

/-- Shedding leaves the summary of the last recompute, which is written at the end of this one. -/
theorem State.alloc_shedStep (shedLevel : Nat) (u : State) (i : Fin 16) :
    (State.shedStep shedLevel u i).alloc = u.alloc := by
  by_cases hrun : ((u.loop i).state = .running ∨ (u.loop i).state = .fault) ∧
      shedAt shedLevel (u.loop i).level = true
  · rw [State.shedStep_in hrun.1 hrun.2]
    split
    · exact (State.want_placeStep _ i _ false).alloc
    · rfl
  · by_cases hshed : (u.loop i).state = .shed ∧ shedAt shedLevel (u.loop i).level = false
    · rw [State.shedStep_out hshed.1 hshed.2]
      rfl
    · rw [State.shedStep_stays hrun hshed]

theorem State.alloc_shedAll : s.shedAll.alloc = s.alloc := by
  refine List.foldlRecOn (motive := fun (u : State) => u.alloc = s.alloc) loopIds _ rfl fun u hu i _ => ?_
  rw [State.alloc_shedStep, hu]

end shed

/-- Settles O46. -/
theorem grantsFormed : Obligations.GrantsFormed := by
  intro s
  refine ⟨State.recompute_of_not_driving, fun hm => ?_⟩
  have hrecompute := State.recompute_of_driving hm
  intro u t Q upTo reserved bavail
  have hu : u = s.shedAll := rfl
  have ht : t = s.shedAll.allocate := hrecompute
  have hreserved : s.shedAll.reservation = reserved := s.reservation_shedAll
  have hbavail : s.shedAll.bavail = bavail := by
    rw [State.bavail, s.budget_shedAll, hreserved]
  have hupTo (level : Nat) : upTo level = demandFrom s.shedAll.levelDemand level := rfl
  have hloop (i : Fin 16) := s.shedAll.loop_allocate i
  have halloc := s.shedAll.alloc_allocate
  rw [hbavail] at hloop halloc
  rw [hu, ht]
  refine ⟨fun i hstate hlo hhi => ?_, fun i hstate hout => ?_, fun i hstate => ?_, fun i hstate => ?_,
    ?_, ?_, ?_, ?_, fun hfits => ?_, fun level hlo hhi hshort hfits => ?_, s.shedAll.allocate_eq⟩
  · intro level full grant
    have hgrant : s.shedAll.grantOf (s.shedAll.findScaled allocationLevels bavail) i = grant := by
      rw [State.grantOf, if_pos hstate, levelGrant_eq hlo hhi, State.requestFloor_shedAll]
      rfl
    rw [hloop, hgrant, Loop.allocated_running hstate]
  · rw [hloop, Bool.eq_false_iff.mpr fun h => hout ((s.inShedRange_shedAll i).mp h), Loop.allocated_fault_out hstate]
  · rw [hloop, Loop.allocated_dutiless]
    rwa [s.inShedRange_shedAll]
  · rw [hloop, Loop.allocated_out hstate]
  · rw [halloc]
    exact s.budget_shedAll
  · rw [halloc]
    exact hreserved
  · rw [halloc]
  · rw [halloc]
    rfl
  · have hscaled : s.shedAll.findScaled allocationLevels bavail = none := State.findScaled_fits hfits
    rw [halloc, hscaled]
    exact ⟨rfl, rfl, State.notices_allocate_fits (by rw [hbavail, hscaled])⟩
  · have hscaled : s.shedAll.findScaled allocationLevels bavail =
        some (level, bavail - upTo (level + 1), Q level) := State.findScaled_at hlo hhi hshort hfits
    have hnotices := State.notices_allocate_scaled (s := s.shedAll) (by rw [hbavail, hscaled])
    rw [s.alloc_shedAll] at hnotices
    rw [halloc, hscaled]
    refine ⟨rfl, rfl, fun h => ?_, fun h => ?_⟩
    · rw [hnotices, if_pos h]
    · rw [hnotices, if_neg (by simp [h])]

end Sys2Proof.Machine
end

section
/-! PROOFS. What START leaves (R13, R89, R95, R140): the PROBE causes, the placing, the recompute that finds
no request, and the settling of O25. -/

namespace Sys2Proof.Machine

open Sys2Proof

/-! ## The PROBE causes at START (R49, R140) -/

/-- START adds the PROBE cause to loop i: it is STANDBY, its condition holds, and it has not the cause. -/
def State.joinsFault (s : State) (i : Fin 16) : Bool :=
  (s.loop i).state == .standby && s.probeCondition i && !(s.loop i).causes.probe

/-- The cause set of a loop with PROBE in it. -/
def CauseSet.withProbe (c : CauseSet) (probe : Bool) : CauseSet := ⟨c.silent, c.damage, probe⟩

/-- The notice of a loop to which PROBE is added. -/
def State.faultNotice (s : State) (q : Notices) (i : Fin 16) : Notices :=
  q.raise .loopFault (some i.val) (some (((s.loop i).causes.withProbe true).code : Int))

theorem State.joinsFault_iff (s : State) (i : Fin 16) : s.joinsFault i = true ↔
    (s.loop i).state = .standby ∧ s.probeCondition i = true ∧ (s.loop i).causes.probe = false := by
  simp [State.joinsFault, and_assoc]

/-- What START does to one loop's causes. -/
def State.causeStep (s : State) (i : Fin 16) : State :=
  if (s.loop i).state = .standby then s.addProbeCause i else s

theorem State.causeStep_joins {s : State} {i : Fin 16} (h : s.joinsFault i = true) : s.causeStep i =
    { s.setLoop i { s.loop i with causes := (s.loop i).causes.withProbe true } with
      notices := s.faultNotice s.notices i } := by
  obtain ⟨hstate, hcondition, hprobe⟩ := (s.joinsFault_iff i).mp h
  rw [State.causeStep, if_pos hstate, State.addProbeCause, if_pos hcondition,
    State.addCause_joins (c := .probe) (by simp [hstate]) hprobe]
  rfl

theorem State.causeStep_stays {s : State} {i : Fin 16} (h : s.joinsFault i = false) : s.causeStep i = s := by
  rw [State.causeStep]
  split
  next hstate =>
    rw [State.addProbeCause]
    split
    next hcondition =>
      have hheld : (s.loop i).causes.probe = true := by
        simpa [State.joinsFault, hstate, hcondition] using h
      exact State.addCause_nothing (c := .probe) (.inr hheld)
    next => rfl
  next => rfl

section step
variable (u : State) (i : Fin 16)

theorem State.causeStep_keep :
    u.causeStep i = { u with notices := (u.causeStep i).notices, loops := (u.causeStep i).loops } := by
  cases h : u.joinsFault i with
  | false => rw [State.causeStep_stays h]
  | true =>
    rw [State.causeStep_joins h]
    rfl

theorem State.notices_causeStep : (u.causeStep i).notices =
    if u.joinsFault i = true then u.faultNotice u.notices i else u.notices := by
  split
  next h => rw [State.causeStep_joins h]
  next h => rw [State.causeStep_stays (Bool.not_eq_true _ ▸ h)]

theorem State.loop_causeStep_ne {j : Fin 16} (hj : j ≠ i) : (u.causeStep i).loop j = u.loop j := by
  cases h : u.joinsFault i with
  | false => rw [State.causeStep_stays h]
  | true =>
    rw [State.causeStep_joins h]
    exact u.loop_setLoop_ne hj.symm _

theorem State.loop_causeStep_self : (u.causeStep i).loop i =
    if u.joinsFault i = true then { u.loop i with causes := (u.loop i).causes.withProbe true } else u.loop i := by
  split
  next h =>
    rw [State.causeStep_joins h]
    exact u.loop_setLoop_self i _
  next h => rw [State.causeStep_stays (Bool.not_eq_true _ ▸ h)]

theorem State.probeCondition_causeStep (j : Fin 16) : (u.causeStep i).probeCondition j = u.probeCondition j := by
  rw [u.causeStep_keep i]
  rfl

end step

/-- The PROBE causes of a list of loops, each of which stands as in s. -/
theorem State.foldl_causeStep (s : State) {is : List (Fin 16)} (his : is.Nodup) {u : State}
    (hloop : ∀ j ∈ is, u.loop j = s.loop j) (hcondition : ∀ j, u.probeCondition j = s.probeCondition j) :
    let t := is.foldl State.causeStep u
    t = { u with notices := t.notices, loops := t.loops } ∧
    t.notices = (is.filter s.joinsFault).foldl s.faultNotice u.notices ∧
    ∀ j, t.loop j = if j ∈ is ∧ s.joinsFault j = true then
      { s.loop j with causes := (s.loop j).causes.withProbe true } else u.loop j := by
  induction is generalizing u with
  | nil => exact ⟨rfl, rfl, fun j => by simp⟩
  | cons i is ih =>
    obtain ⟨hi, hnodup⟩ := List.nodup_cons.mp his
    have hself := hloop i (List.mem_cons_self ..)
    have hsame : u.joinsFault i = s.joinsFault i := by
      rw [State.joinsFault, hself, hcondition, State.joinsFault]
    have hne (j : Fin 16) (hj : j ∈ is) : j ≠ i := fun e => hi (e ▸ hj)
    have hrest (j : Fin 16) (hj : j ∈ is) : (u.causeStep i).loop j = s.loop j :=
      (u.loop_causeStep_ne i (hne j hj)).trans (hloop j (List.mem_cons_of_mem _ hj))
    obtain ⟨hkeep, hnotices, hloops⟩ := ih hnodup hrest fun j =>
      (u.probeCondition_causeStep i j).trans (hcondition j)
    have hnotice : u.faultNotice u.notices i = s.faultNotice u.notices i := by
      rw [State.faultNotice, hself, State.faultNotice]
    have hstep (q : Notices) (v : Vector Loop 16) :
        ({ u.causeStep i with notices := q, loops := v } : State) = { u with notices := q, loops := v } := by
      rw [u.causeStep_keep i]
    refine ⟨hkeep.trans (hstep _ _), ?_, fun j => ?_⟩
    · rw [List.foldl_cons, hnotices, State.notices_causeStep, hsame, hnotice]
      cases hjoins : s.joinsFault i with
      | false => rw [List.filter_cons_of_neg (by simp [hjoins]), if_neg Bool.false_ne_true]
      | true => rw [List.filter_cons_of_pos hjoins, List.foldl_cons, if_pos rfl]
    · rw [List.foldl_cons, hloops]
      by_cases hj : j = i
      · subst hj
        rw [if_neg fun h => hi h.1, State.loop_causeStep_self, hsame, hself]
        simp only [List.mem_cons, true_or, true_and]
      · rw [u.loop_causeStep_ne i hj]
        simp only [List.mem_cons, hj, false_or]

theorem State.startCauses_eq (s : State) : s.startCauses = { s with
    mode := .active, t0 := some s.now
    notices := (loopIds.filter s.joinsFault).foldl s.faultNotice s.notices
    loops := s.startCauses.loops } := by
  obtain ⟨hkeep, hnotices, -⟩ := s.foldl_causeStep nodup_loopIds
    (u := { s with mode := .active, t0 := some s.now }) (fun _ _ => rfl) fun _ => rfl
  rw [← hnotices]
  exact hkeep

theorem State.loop_startCauses (s : State) (i : Fin 16) : s.startCauses.loop i =
    if s.joinsFault i = true then { s.loop i with causes := (s.loop i).causes.withProbe true } else s.loop i := by
  obtain ⟨-, -, hloops⟩ := s.foldl_causeStep nodup_loopIds
    (u := { s with mode := .active, t0 := some s.now }) (fun _ _ => rfl) fun _ => rfl
  have h := hloops i
  simp only [mem_loopIds, true_and] at h
  exact h

/-- A STANDBY loop holds PROBE where it did, and where its condition holds. -/
theorem State.loop_startCauses_standby {s : State} {i : Fin 16} (h : (s.loop i).state = .standby) :
    s.startCauses.loop i = { s.loop i with
      causes := (s.loop i).causes.withProbe ((s.loop i).causes.probe || s.probeCondition i) } := by
  rw [State.loop_startCauses]
  split
  next hjoins =>
    obtain ⟨-, hcondition, -⟩ := (s.joinsFault_iff i).mp hjoins
    rw [hcondition, Bool.or_true]
  next hstays =>
    have hprobe : ((s.loop i).causes.probe || s.probeCondition i) = (s.loop i).causes.probe := by
      rw [State.joinsFault_iff] at hstays
      cases hp : (s.loop i).causes.probe <;> cases hc : s.probeCondition i <;> simp_all
    rw [hprobe]
    rfl

theorem State.loop_startCauses_out {s : State} {i : Fin 16} (h : (s.loop i).state ≠ .standby) :
    s.startCauses.loop i = s.loop i := by
  rw [State.loop_startCauses, if_neg]
  rw [State.joinsFault_iff]
  exact fun hjoins => h hjoins.1

/-! ## The placing (R13, R89, R95) -/

/-- The record of a STANDBY loop as START places it. -/
def State.placedLoop (s : State) (i : Fin 16) : Loop :=
  let causes := (s.loop i).causes.withProbe ((s.loop i).causes.probe || s.probeCondition i)
  { s.loop i with
    causes := causes
    state := if causes ≠ ⟨false, false, false⟩ then .fault
      else if s.inShedRange i = true then .shed else .running
    wanted := none, onTime := 0, openPhase := false, openCount := 0, inCycle := false
    nextBoundary := some (s.boundaryFrom i s.now (s.now + 1)) }

/-- A placed loop, by its causes. -/
theorem Loop.placed_eq (l : Loop) (inRange : Bool) (n : Nat) : l.placed inRange n = { l with
    state := if l.causes ≠ ⟨false, false, false⟩ then .fault else if inRange = true then .shed else .running
    wanted := none, onTime := 0, openPhase := false, openCount := 0, inCycle := false
    nextBoundary := some n } := by
  have hcauses : (if (!l.causes.isEmpty) = true then LoopState.fault
      else if inRange = true then .shed else .running) =
      if l.causes ≠ ⟨false, false, false⟩ then .fault else if inRange = true then .shed else .running := by
    simp only [Bool.not_eq_true', ← Bool.not_eq_true, CauseSet.isEmpty_iff, ne_eq]
  rw [Loop.placed, hcauses, Loop.leaveCycle]

theorem State.inShedRange_startCauses (s : State) (i : Fin 16) : s.startCauses.inShedRange i = s.inShedRange i := by
  have hlevel : (s.startCauses.loop i).level = (s.loop i).level := by
    rw [State.loop_startCauses]
    split <;> rfl
  rw [State.inShedRange, hlevel, s.startCauses_eq]
  rfl

theorem State.boundaryFrom_startCauses (s : State) (i : Fin 16) (t0 n : Nat) :
    s.startCauses.boundaryFrom i t0 n = s.boundaryFrom i t0 n := by
  have hphase : (s.startCauses.loop i).phase = (s.loop i).phase := by
    rw [State.loop_startCauses]
    split <;> rfl
  rw [State.boundaryFrom, hphase, s.startCauses_eq]
  rfl

theorem State.loop_startPlaced_eq (s : State) (i : Fin 16) : s.startPlaced.loop i =
    if (s.loop i).state = .standby then s.placedLoop i else s.loop i := by
  rw [State.startPlaced, State.loop_mapLoops, State.inShedRange_startCauses, State.boundaryFrom_startCauses]
  by_cases h : (s.loop i).state = .standby
  · rw [if_pos h, State.loop_startCauses_standby h, if_pos h, Loop.placed_eq]
    rfl
  · rw [if_neg h, State.loop_startCauses_out h, if_neg h]

theorem State.startPlaced_eq (s : State) : s.startPlaced = { s with
    mode := .active, t0 := some s.now
    notices := (loopIds.filter s.joinsFault).foldl s.faultNotice s.notices
    loops := Vector.ofFn fun i => if (s.loop i).state = .standby then s.placedLoop i else s.loop i } := by
  have hloops : s.startPlaced.loops =
      Vector.ofFn fun i => if (s.loop i).state = .standby then s.placedLoop i else s.loop i := by
    ext i hi
    rw [Vector.getElem_ofFn]
    exact s.loop_startPlaced_eq ⟨i, hi⟩
  have hkeep : s.startPlaced = { s.startCauses with loops := s.startPlaced.loops } := rfl
  rw [hkeep, hloops, s.startCauses_eq]

end Sys2Proof.Machine
end

section
/-! PROOFS. The recompute at START (R77 to R86, R140), which finds no request and no open loop, and the settling
of O25. -/

namespace Sys2Proof.Machine

open Sys2Proof

/-! ## Shedding where no loop is open -/

/-- A loop that is not open is shed without a placing. -/
theorem State.shedStep_of_closed {s : State} {i : Fin 16} (h : (s.loop i).openPhase = false) (shedLevel : Nat) :
    State.shedStep shedLevel s i = s.setLoop i ((State.shedStep shedLevel s i).loop i) := by
  by_cases hrun : ((s.loop i).state = .running ∨ (s.loop i).state = .fault) ∧
      shedAt shedLevel (s.loop i).level = true
  · rw [State.shedStep_in hrun.1 hrun.2, if_neg (by simp [h]), State.loop_setLoop_self]
  · by_cases hshed : (s.loop i).state = .shed ∧ shedAt shedLevel (s.loop i).level = false
    · rw [State.shedStep_out hshed.1 hshed.2, State.loop_setLoop_self]
    · rw [State.shedStep_stays hrun hshed, State.setLoop_loop]

/-- The record of a loop after step 2 of a recompute, where it was not open. -/
def Loop.shedClosed (l : Loop) (inRange : Bool) : Loop :=
  if (l.state = .running ∨ l.state = .fault) ∧ inRange = true then l.shedded
  else if l.state = .shed ∧ inRange = false then { l with state := .running }
  else l

theorem State.loop_shedStep_closed {s : State} {i : Fin 16} (h : (s.loop i).openPhase = false) (shedLevel : Nat) :
    (State.shedStep shedLevel s i).loop i = (s.loop i).shedClosed (shedAt shedLevel (s.loop i).level) := by
  unfold Loop.shedClosed
  split
  next hrun => rw [State.shedStep_in hrun.1 hrun.2, if_neg (by simp [h]), State.loop_setLoop_self]
  next hrun =>
    split
    next hshed => rw [State.shedStep_out hshed.1 hshed.2, State.loop_setLoop_self]
    next hshed => rw [State.shedStep_stays hrun hshed]

theorem Loop.openPhase_shedClosed {l : Loop} (h : l.openPhase = false) (inRange : Bool) :
    (l.shedClosed inRange).openPhase = false := by
  unfold Loop.shedClosed
  split
  · rfl
  · split <;> exact h

section closed
variable {s : State} (h : ∀ i, (s.loop i).openPhase = false)
include h

theorem State.loop_shedAll_closed (i : Fin 16) :
    s.shedAll.loop i = (s.loop i).shedClosed (s.inShedRange i) :=
  (State.foldl_loop (R := fun l k => l.openPhase = false → k = l.shedClosed (shedAt s.shedLevel l.level))
    (fun _ _ hclosed => State.loop_shedStep_closed hclosed _) (fun _ _ _ hne => State.loop_shedStep_ne hne _)
    nodup_loopIds s i).1 (mem_loopIds i) (h i)

/-- Step 2 writes loop records only. -/
theorem State.shedAll_closed : s.shedAll = { s with loops := s.shedAll.loops } := by
  have hkeep : s.shedAll = { s with loops := s.shedAll.loops } ∧ ∀ i, (s.shedAll.loop i).openPhase = false := by
    refine List.foldlRecOn (motive := fun (u : State) => u = { s with loops := u.loops } ∧
      ∀ i, (u.loop i).openPhase = false) loopIds _ ⟨rfl, h⟩ fun u ⟨hu, hclosed⟩ i _ => ⟨?_, fun j => ?_⟩
    · rw [State.shedStep_of_closed (hclosed i)]
      generalize (State.shedStep s.shedLevel u i).loop i = l
      rw [hu]
      rfl
    · by_cases hj : j = i
      · subst hj
        rw [State.loop_shedStep_closed (hclosed j)]
        exact Loop.openPhase_shedClosed (hclosed j) _
      · rw [State.loop_shedStep_ne hj]
        exact hclosed j
  exact hkeep.1

end closed

/-! ## A recompute without a request -/

section requests
variable {s : State} (h : ∀ i, (s.loop i).request = 0)
include h

theorem State.levelDemand_of_no_request (level : Nat) : s.levelDemand level = 0 := by
  simp [State.levelDemand, h]

theorem State.findScaled_of_no_request (bavail : Nat) : s.findScaled allocationLevels bavail = none := by
  refine State.findScaled_fits ?_
  simp [demandFrom, State.levelDemand_of_no_request h]

theorem State.grantOf_of_no_request (i : Fin 16) : s.grantOf none i = 0 := by
  simp [State.grantOf, levelGrant, h, flooredGrant]

/-- Every grant is 0, and the summary says so. -/
theorem State.allocate_of_no_request : s.allocate = { s with
    loops := s.allocate.loops
    alloc := {
      budget := s.budget, reservation := s.reservation, bavail := s.bavail
      committed := s.allocate.committed, scaledLevel := none, short := false } } := by
  have hscaled := State.findScaled_of_no_request h s.bavail
  have halloc := s.alloc_allocate
  rw [hscaled] at halloc
  have hkeep := s.allocate_eq
  rw [halloc, State.notices_allocate_fits hscaled] at hkeep
  exact hkeep

theorem State.loop_allocate_of_no_request (i : Fin 16) :
    s.allocate.loop i = (s.loop i).allocated (s.inShedRange i) 0 := by
  rw [State.loop_allocate, State.findScaled_of_no_request h, State.grantOf_of_no_request h]

end requests

/-! ## The first boundary (R89) -/

/-- The first boundary after t0 at the phase, or a cycle later where that is t0. -/
theorem State.boundaryFrom_first {s : State} (h : 0 < s.general.cycleLength) (i : Fin 16) (t0 : Nat) :
    s.boundaryFrom i t0 (t0 + 1) = t0 + (if (s.loop i).phase % s.general.cycleLength = 0
      then s.general.cycleLength else (s.loop i).phase % s.general.cycleLength) := by
  rw [State.boundaryFrom, max_self, nextInstant]
  generalize s.general.cycleLength = T at h ⊢
  split
  next hle => rw [if_neg (by omega)]
  next hlt =>
    have hzero : (s.loop i).phase % T = 0 := by omega
    have hone : ceilDiv 1 T = 1 := by
      rw [ceilDiv, Nat.add_sub_cancel_left, Nat.div_self h]
    rw [if_pos hzero, hzero, Nat.add_zero, Nat.add_sub_cancel_left, hone, Nat.one_mul]

/-! ## A placed loop after the recompute -/

/-- k is the record l of a placed loop once its fallback is buffered. -/
structure Loop.Started (l k : Loop) (inRange : Bool) : Prop where
  state : k.state = l.state
  causes : k.causes = l.causes
  head : k.head = l.head
  wanted : k.wanted = l.wanted
  openCount : k.openCount = l.openCount
  inCycle : k.inCycle = l.inCycle
  nextBoundary : k.nextBoundary = l.nextBoundary
  weight : k.weight = l.weight
  fallbackDuty : k.fallbackDuty = l.fallbackDuty
  request : k.request = 0
  grant : k.grant = 0
  activeDuty : k.activeDuty = 0
  bufferedDuty : k.bufferedDuty = if l.state = .fault ∧ inRange = false then l.fallbackDuty else 0
  pendingFlag : k.pendingFlag = true ↔ k.bufferedDuty ≠ 0
  onTime : k.onTime = 0
  openPhase : k.openPhase = false

/-- FAULT in the range and out of it, SHED in the range, RUNNING out of it: the recompute moves no state. -/
theorem Loop.started_of_placed {l : Loop} {inRange : Bool}
    (hstate : l.state = .fault ∨ l.state = .shed ∧ inRange = true ∨ l.state = .running ∧ inRange = false)
    (hrequest : l.request = 0) (hactive : l.activeDuty = 0) (honTime : l.onTime = 0)
    (hclosed : l.openPhase = false) : l.Started ((l.shedClosed inRange).allocated inRange 0) inRange := by
  rcases hstate with hs | ⟨hs, rfl⟩ | ⟨hs, rfl⟩
  · cases inRange
    · have hshed : l.shedClosed false = l := by simp [Loop.shedClosed, hs]
      rw [hshed, Loop.allocated_fault_out hs]
      constructor <;> simp [*]
    · have hshed : l.shedClosed true = l.shedded := by simp [Loop.shedClosed, hs]
      have hfault : l.shedded.state = .fault := by simp [Loop.shedded, hs]
      rw [hshed, Loop.allocated_dutiless (.inr (.inr ⟨hfault, rfl⟩))]
      constructor <;> simp [Loop.shedded, *]
  · have hshed : l.shedClosed true = l := by simp [Loop.shedClosed, hs]
    rw [hshed, Loop.allocated_dutiless (.inl hs)]
    constructor <;> simp [*]
  · have hshed : l.shedClosed false = l := by simp [Loop.shedClosed, hs]
    rw [hshed, Loop.allocated_running hs]
    constructor <;> simp [*]

/-- A loop out of the drive is left by a recompute without requests. -/
theorem Loop.allocated_shedClosed_out {l : Loop} (h : l.state = .disabled ∨ l.state = .testing) (inRange : Bool)
    (grant : Nat) : (l.shedClosed inRange).allocated inRange grant = l := by
  have hshed : l.shedClosed inRange = l := by rcases h with h | h <;> simp [Loop.shedClosed, h]
  rw [hshed, Loop.allocated_out h]

theorem Loop.request_shedClosed {l : Loop} (h : l.request = 0) (inRange : Bool) :
    (l.shedClosed inRange).request = 0 := by
  unfold Loop.shedClosed
  split
  · simp [Loop.shedded, h]
  · split <;> exact h

/-- What the reservation and the range read of a loop, step 2 leaves. -/
theorem Loop.settings_shedClosed (l : Loop) (inRange : Bool) :
    (l.shedClosed inRange).level = l.level ∧ (l.shedClosed inRange).fallbackDuty = l.fallbackDuty ∧
      (l.shedClosed inRange).weight = l.weight ∧
      ((l.shedClosed inRange).state = .fault ↔ l.state = .fault) := by
  unfold Loop.shedClosed
  split
  next h => rcases h.1 with hs | hs <;> simp [Loop.shedded, hs]
  next =>
    split
    next h => simp [h.1]
    next => simp

/-! ## The statement -/

section start
variable {s : State}

theorem State.placedLoop_settings (s : State) (i : Fin 16) : (s.placedLoop i).level = (s.loop i).level ∧
    (s.placedLoop i).request = (s.loop i).request ∧ (s.placedLoop i).activeDuty = (s.loop i).activeDuty ∧
    (s.placedLoop i).fallbackDuty = (s.loop i).fallbackDuty ∧ (s.placedLoop i).weight = (s.loop i).weight ∧
    (s.placedLoop i).head = (s.loop i).head ∧ (s.placedLoop i).openPhase = false ∧
    (s.placedLoop i).onTime = 0 := ⟨rfl, rfl, rfl, rfl, rfl, rfl, rfl, rfl⟩

/-- A placed loop holds a cause in FAULT, and has none in SHED in the range and in RUNNING out of it. -/
theorem State.state_placedLoop (s : State) (i : Fin 16) :
    ((s.placedLoop i).causes.isEmpty = false ∧ (s.placedLoop i).state = .fault) ∨
    ((s.placedLoop i).causes.isEmpty = true ∧ (s.placedLoop i).state = .shed ∧ s.inShedRange i = true) ∨
    ((s.placedLoop i).causes.isEmpty = true ∧ (s.placedLoop i).state = .running ∧ s.inShedRange i = false) := by
  have hstate : (s.placedLoop i).state = if (s.placedLoop i).causes ≠ ⟨false, false, false⟩ then .fault
      else if s.inShedRange i = true then .shed else .running := rfl
  rw [hstate, ← Bool.not_eq_true, CauseSet.isEmpty_iff]
  by_cases hcauses : (s.placedLoop i).causes = ⟨false, false, false⟩ <;> cases s.inShedRange i <;> simp [hcauses]

/-- In PASSIVE mode every loop is DISABLED or STANDBY. -/
theorem State.disabled_or_standby (hm : s.mode = .passive) (hmodes : s.ModesConsistent) (i : Fin 16) :
    (s.loop i).state = .disabled ∨ (s.loop i).state = .standby := by
  obtain ⟨hout, -, -, htesting, -⟩ := hmodes
  have hengaged := hout (.inl hm) i
  have hnot := htesting (.inl (by rw [hm]; decide)) i
  cases h : (s.loop i).state <;> simp_all [Loop.engaged]

/-- The loops that START places have no request and no open phase, like the others. -/
theorem State.idle_startPlaced (hm : s.mode = .passive) (hmodes : s.ModesConsistent)
    (hidle : s.IdleLoopsWithoutDuty) (i : Fin 16) :
    (s.startPlaced.loop i).request = 0 ∧ (s.startPlaced.loop i).openPhase = false := by
  obtain ⟨hout, hopen, -⟩ := hmodes
  have hengaged := hout (.inl hm) i
  obtain ⟨-, -, hrequest⟩ := hidle i hengaged
  rw [State.loop_startPlaced_eq]
  split
  · exact ⟨hrequest, rfl⟩
  · refine ⟨hrequest, ?_⟩
    by_contra h
    rw [hopen i (Bool.not_eq_false _ ▸ h)] at hengaged
    cases hengaged

theorem State.inShedRange_startPlaced (s : State) (i : Fin 16) : s.startPlaced.inShedRange i = s.inShedRange i := by
  have hlevel : (s.startPlaced.loop i).level = (s.loop i).level := by
    rw [State.loop_startPlaced_eq]
    split <;> rfl
  have hshed : s.startPlaced.shedLevel = s.shedLevel := by
    rw [s.startPlaced_eq]
    rfl
  rw [State.inShedRange, hlevel, hshed, State.inShedRange]

theorem State.start_eq_allocate (s : State) : s.start = s.startPlaced.shedAll.allocate :=
  s.start_eq.trans (State.recompute_of_driving (.inl s.mode_startPlaced))

variable (hm : s.mode = .passive) (hmodes : s.ModesConsistent) (hidle : s.IdleLoopsWithoutDuty)
include hm hmodes hidle

theorem State.loop_shedAll_startPlaced (i : Fin 16) :
    s.startPlaced.shedAll.loop i = (s.startPlaced.loop i).shedClosed (s.inShedRange i) := by
  rw [State.loop_shedAll_closed fun j => (State.idle_startPlaced hm hmodes hidle j).2, State.inShedRange_startPlaced]

theorem State.inShedRange_shedAll_startPlaced (i : Fin 16) :
    s.startPlaced.shedAll.inShedRange i = s.inShedRange i := by
  have hlevel : (s.startPlaced.shedAll.loop i).level = (s.startPlaced.loop i).level := by
    rw [State.loop_shedAll_startPlaced hm hmodes hidle]
    exact (Loop.settings_shedClosed _ _).1
  rw [State.inShedRange, hlevel, State.shedLevel_shedAll]
  exact s.inShedRange_startPlaced i

theorem State.no_request_shedAll_startPlaced (i : Fin 16) : (s.startPlaced.shedAll.loop i).request = 0 := by
  rw [State.loop_shedAll_startPlaced hm hmodes hidle]
  exact Loop.request_shedClosed (State.idle_startPlaced hm hmodes hidle i).1 _

theorem State.loop_start (i : Fin 16) : s.start.loop i =
    ((s.startPlaced.loop i).shedClosed (s.inShedRange i)).allocated (s.inShedRange i) 0 := by
  rw [State.start_eq_allocate,
    State.loop_allocate_of_no_request (State.no_request_shedAll_startPlaced hm hmodes hidle),
    State.inShedRange_shedAll_startPlaced hm hmodes hidle, State.loop_shedAll_startPlaced hm hmodes hidle]

theorem State.loop_start_disabled {i : Fin 16} (h : (s.loop i).state = .disabled) : s.start.loop i = s.loop i := by
  rw [State.loop_start hm hmodes hidle, State.loop_startPlaced_eq, if_neg (by simp [h]),
    Loop.allocated_shedClosed_out (.inl h)]

theorem State.started {i : Fin 16} (h : (s.loop i).state = .standby) :
    (s.placedLoop i).Started (s.start.loop i) (s.inShedRange i) := by
  have hengaged := hmodes.1 (.inl hm) i
  obtain ⟨hactive, -, hrequest⟩ := hidle i hengaged
  rw [State.loop_start hm hmodes hidle, State.loop_startPlaced_eq, if_pos h]
  refine Loop.started_of_placed ?_ hrequest hactive rfl rfl
  rcases s.state_placedLoop i with ⟨-, hs⟩ | ⟨-, hs, hr⟩ | ⟨-, hs, hr⟩
  · exact .inl hs
  · exact .inr (.inl ⟨hs, hr⟩)
  · exact .inr (.inr ⟨hs, hr⟩)

theorem State.committed_start : s.start.committed = 0 := by
  rw [State.committed]
  refine List.sum_eq_zero fun n hn => ?_
  obtain ⟨i, -, rfl⟩ := List.mem_map.mp hn
  rcases State.disabled_or_standby hm hmodes i with h | h
  · rw [State.loop_start_disabled hm hmodes hidle h, if_neg (by simp [h])]
  · rw [(State.started hm hmodes hidle h).grant, Nat.zero_mul, ite_self]

theorem State.reservation_start : s.startPlaced.shedAll.reservation = (loopIds.map fun i =>
    if (s.start.loop i).state = .fault ∧ s.inShedRange i = false then
      (s.loop i).fallbackDuty * (s.loop i).weight else 0).sum := by
  rw [State.reservation]
  refine congrArg List.sum (List.map_congr_left fun i _ => ?_)
  obtain ⟨-, hfallback, hweight, hfault⟩ := (s.startPlaced.loop i).settings_shedClosed (s.inShedRange i)
  rw [State.inShedRange_shedAll_startPlaced hm hmodes hidle, State.loop_shedAll_startPlaced hm hmodes hidle,
    hfallback, hweight]
  simp only [hfault]
  rcases State.disabled_or_standby hm hmodes i with h | h
  · rw [State.loop_start_disabled hm hmodes hidle h, State.loop_startPlaced_eq, if_neg (by simp [h] : _ ≠ _)]
  · rw [(State.started hm hmodes hidle h).state, State.loop_startPlaced_eq, if_pos h]
    rfl

/-- Everything START writes: the mode, t0, the notices of the causes, the loops and the summary. -/
theorem State.start_keep : s.start = { s.startPlaced with
    loops := s.start.loops
    alloc := {
      budget := 4096 * s.supply.allowance
      reservation := s.startPlaced.shedAll.reservation
      bavail := 4096 * s.supply.allowance - s.startPlaced.shedAll.reservation
      committed := 0, scaledLevel := none, short := false } } := by
  have hkeep := State.allocate_of_no_request (State.no_request_shedAll_startPlaced hm hmodes hidle)
  have hclosed := State.shedAll_closed fun j => (State.idle_startPlaced hm hmodes hidle j).2
  have hbudget : s.startPlaced.shedAll.budget = 4096 * s.supply.allowance := by
    rw [State.budget_shedAll, s.startPlaced_eq, Nat.mul_comm]
  rw [← State.start_eq_allocate, State.committed_start hm hmodes hidle, State.bavail, hbudget]
    at hkeep
  rw [hkeep]
  generalize s.startPlaced.shedAll.reservation = r
  rw [hclosed]

end start

/-- The loops to which START adds PROBE, by the condition itself. -/
theorem State.filter_joinsFault (s : State) : loopIds.filter s.joinsFault = loopIds.filter fun i =>
    (s.loop i).state = .standby ∧ s.probeCondition i = true ∧ (s.loop i).causes.probe = false :=
  List.filter_congr fun i _ => Bool.eq_iff_iff.mpr ((s.joinsFault_iff i).trans (decide_eq_true_iff).symm)

/-- Settles O25. -/
theorem startPlacesLoops : Obligations.StartPlacesLoops := by
  intro s hm hmodes hidle hcycle
  have hkeep := State.start_keep hm hmodes hidle
  have hplaced := s.startPlaced_eq
  have hnotices : s.start.notices = s.startPlaced.notices := by rw [hkeep]
  have halloc := congrArg State.alloc hkeep
  rw [hplaced] at hkeep
  have hreservation := State.reservation_start hm hmodes hidle
  refine ⟨(congrArg State.mode hkeep :), (congrArg State.t0 hkeep :), (congrArg State.orders hkeep :),
    (congrArg State.waits hkeep :), (congrArg State.portH hkeep :), (congrArg State.portM hkeep :),
    (congrArg State.general hkeep :), (congrArg State.classes hkeep :), (congrArg State.profiles hkeep :),
    (congrArg State.rooms hkeep :), (congrArg State.probes hkeep :), (congrArg State.supply hkeep :),
    (congrArg State.rules hkeep :), (congrArg State.pattern hkeep :), (congrArg State.sweep hkeep :),
    (congrArg State.answer hkeep :), (congrArg State.lock hkeep :), (congrArg State.now hkeep :),
    (congrArg State.strap hkeep :), (congrArg State.pending hkeep :), ?placed,
    (congrArg Allocation.budget halloc :), (congrArg Allocation.committed halloc :),
    (congrArg Allocation.scaledLevel halloc :), (congrArg Allocation.short halloc :),
    ?reservation, ?bavail,
    fun i h => State.loop_start_disabled hm hmodes hidle h, fun i h => ?loop⟩
  case placed =>
    rw [s.filter_joinsFault] at hplaced
    exact ⟨s.start_eq.trans (congrArg State.recompute hplaced), hnotices.trans (congrArg State.notices hplaced)⟩
  case reservation =>
    rw [← hreservation, halloc]
  case bavail => rw [halloc]
  case loop =>
    have hstarted := State.started hm hmodes hidle h
    have hcauses : (s.start.loop i).causes = _ := hstarted.causes
    have hboundary := hstarted.nextBoundary
    have hfirst : (s.placedLoop i).nextBoundary = some (s.boundaryFrom i s.now (s.now + 1)) := rfl
    rw [hfirst, State.boundaryFrom_first hcycle] at hboundary
    have hduty := hstarted.bufferedDuty
    rw [← hstarted.state] at hduty
    refine ⟨?_, fun hnone => ?_, (congrArg CauseSet.silent hcauses :), (congrArg CauseSet.damage hcauses :),
      (congrArg CauseSet.probe hcauses :), hstarted.head, hstarted.wanted, hstarted.request, hstarted.grant,
      hstarted.activeDuty, hduty, hstarted.pendingFlag, hstarted.openCount, hstarted.inCycle, hstarted.onTime,
      hstarted.openPhase, hboundary⟩
    · rw [hcauses, hstarted.state]
      rcases s.state_placedLoop i with ⟨hc, hs⟩ | ⟨hc, hs, -⟩ | ⟨hc, hs, -⟩ <;> simp [hc, hs]
    · rw [hcauses] at hnone
      rw [hstarted.state]
      rcases s.state_placedLoop i with ⟨hc, -⟩ | ⟨-, hs, hr⟩ | ⟨-, hs, hr⟩
      · simp [hnone] at hc
      · simp [hs, hr]
      · simp [hs, hr]

end Sys2Proof.Machine
end

section
/-! PROOFS. The beginnings of transmissions (R97, R112 to R114, R116, R142, R152): when each is due, what it
takes, and that all come before another event; the settling of O30. -/

namespace Sys2Proof.Machine

open Sys2Proof

/-! ## When a beginning is due -/

section ready
variable {s : State}

theorem State.answerWaits_of_some {a : Answer} (h : s.answer = some a) : s.answerWaits = !a.begun := by
  rw [State.answerWaits, h]

theorem State.answerWaits_eq_false_iff : s.answerWaits = false ↔ ∀ a, s.answer = some a → a.begun = true := by
  cases h : s.answer <;> simp [State.answerWaits, h]

theorem State.headOrderReady_iff :
    s.headOrderReady = true ↔ s.portM.tx = none ∧ s.mode ≠ .passive ∧ s.orders ≠ [] := by
  simp [State.headOrderReady, State.txFree, State.port, and_assoc]

theorem State.transmissionReady_h_iff :
    s.transmissionReady .h = true ↔ s.portH.tx = none ∧ (s.answerWaits = true ∨ s.portH.queue ≠ []) := by
  simp [State.transmissionReady, State.txFree, State.port]

theorem State.transmissionReady_m_iff :
    s.transmissionReady .m = true ↔ s.portM.tx = none ∧ s.headOrderReady = false ∧ s.portM.queue ≠ [] := by
  simp [State.transmissionReady, State.txFree, State.port]

theorem State.noticeOffered_iff : s.noticeOffered = true ↔ s.general.noticeAddress ≠ 0 ∧
    s.notices.spacingDue = none ∧ ∃ e rest, s.notices.entries = e :: rest ∧ e.inTransmission = false := by
  cases h : s.notices.entries <;> simp [State.noticeOffered, h, and_assoc]

theorem State.noticeReady_iff : s.noticeReady = true ↔ s.portH.tx = none ∧
    (∀ a, s.answer = some a → a.begun = true) ∧ s.portH.queue = [] ∧ s.noticeOffered = true := by
  simp [State.noticeReady, State.txFree, State.port, ← State.answerWaits_eq_false_iff, and_assoc]

theorem State.not_transmissionReady_of_busy {p : PortId} (h : (s.port p).tx ≠ none) :
    s.transmissionReady p = false := by
  rw [← Bool.not_eq_true]
  cases p
  · exact fun hready => h (State.transmissionReady_h_iff.mp hready).1
  · exact fun hready => h (State.transmissionReady_m_iff.mp hready).1

theorem State.beginTransmission_of_not_ready {p : PortId} (h : s.transmissionReady p = false) :
    s.beginTransmission p = s := by
  unfold State.beginTransmission
  rw [h, if_neg Bool.false_ne_true]

theorem State.beginHeadOrder_of_not_ready (h : ¬s.headOrderReady = true) : s.beginHeadOrder = s := if_neg h

theorem State.beginNotice_of_not_ready (h : ¬s.noticeReady = true) : s.beginNotice = s := if_neg h

end ready

/-! ## Composed telegrams (R106) -/

/-- The check of a composed telegram makes its sum 0. -/
theorem compose_sum (dst src kind : Byte) (data : List Byte) : let t := compose dst src kind data
    ¬(t.dst + t.src + t.kind + BitVec.ofNat 8 t.data.length + t.data.foldl (· + ·) 0 + t.check ≠ 0) := by
  simp [compose, bodySum]

theorem State.toNat_source (s : State) : s.source.toNat = s.address := by
  have h := s.strap.isLt
  rw [State.source, State.address, byteOf, BitVec.toNat_ofNat, Nat.mod_eq_of_lt]
  simp only [Config.baseAddress]
  omega

/-! ## What begins -/

section takes
variable {s : State}

theorem State.beginForward_cons_h {t : Telegram} {rest : List Telegram} (h : s.portH.queue = t :: rest) :
    s.beginForward .h = { s with portH := { s.portH with tx := some (.forward t false), queue := rest } } := by
  rw [State.beginForward, State.port, h]
  rfl

theorem State.beginForward_cons_m {t : Telegram} {rest : List Telegram} (h : s.portM.queue = t :: rest) :
    s.beginForward .m = { s with portM := { s.portM with tx := some (.forward t false), queue := rest } } := by
  rw [State.beginForward, State.port, h]
  rfl

/-- An answer goes before the pass queue (R113). -/
theorem State.beginTransmission_answer {a : Answer} (hfree : s.portH.tx = none) (ha : s.answer = some a)
    (hb : a.begun = false) : s.beginTransmission .h = { s with
      answer := some { a with begun := true }
      portH := { s.portH with tx := some (.answer (s.answerTelegram a)) } } := by
  have hwaits : s.answerWaits = true := by rw [State.answerWaits_of_some ha, hb, Bool.not_false]
  rw [State.beginTransmission, if_pos (State.transmissionReady_h_iff.mpr ⟨hfree, .inl hwaits⟩)]
  simp only [State.beginH, ha, hb, Bool.false_eq_true, if_false]
  rfl

/-- The pass queue of port H is taken once no answer waits. -/
theorem State.beginTransmission_forward_h {t : Telegram} {rest : List Telegram} (hfree : s.portH.tx = none)
    (ha : ∀ a, s.answer = some a → a.begun = true) (hq : s.portH.queue = t :: rest) :
    s.beginTransmission .h =
      { s with portH := { s.portH with tx := some (.forward t false), queue := rest } } := by
  rw [State.beginTransmission, if_pos (State.transmissionReady_h_iff.mpr ⟨hfree, .inr (by simp [hq])⟩),
    ← State.beginForward_cons_h hq]
  simp only [State.beginH]
  cases h : s.answer with
  | none => rfl
  | some a => simp only [ha a h, if_true]

/-- The pass queue of port M is taken once no head order is due (R114). -/
theorem State.beginTransmission_forward_m {t : Telegram} {rest : List Telegram} (hfree : s.portM.tx = none)
    (ho : s.mode = .passive ∨ s.orders = []) (hq : s.portM.queue = t :: rest) :
    s.beginTransmission .m =
      { s with portM := { s.portM with tx := some (.forward t false), queue := rest } } := by
  have hready : s.headOrderReady = false := by
    rw [← Bool.not_eq_true, State.headOrderReady_iff]
    rintro ⟨-, hmode, horders⟩
    exact ho.elim hmode horders
  rw [State.beginTransmission, if_pos (State.transmissionReady_m_iff.mpr ⟨hfree, hready, by simp [hq]⟩)]
  exact State.beginForward_cons_m hq

theorem State.beginHeadOrder_cons {o : HeadOrder} {rest : List HeadOrder} (hfree : s.portM.tx = none)
    (hm : s.mode ≠ .passive) (ho : s.orders = o :: rest) : s.beginHeadOrder =
      { s with
        orders := rest
        portM := { s.portM with tx := some (.headOrder o.loop o.action (s.orderTelegram o) false) } }.setLoop
          o.loop { s.loop o.loop with lastAction := some o.action } := by
  rw [State.beginHeadOrder, if_pos (State.headOrderReady_iff.mpr ⟨hfree, hm, by simp [ho]⟩), State.takeHeadOrder, ho]
  rfl

theorem State.beginNotice_cons {e : NoticeEntry} {rest : List NoticeEntry} (hfree : s.portH.tx = none)
    (ha : ∀ a, s.answer = some a → a.begun = true) (hq : s.portH.queue = [])
    (hoffered : s.noticeOffered = true) (hn : s.notices.entries = e :: rest) : s.beginNotice = { s with
      portH := { s.portH with tx := some (.notice (s.noticeTelegram e)) }
      notices := { s.notices with
        entries := { e with inTransmission := true, count := 0 } :: rest, overflow := false } } := by
  rw [State.beginNotice, if_pos (State.noticeReady_iff.mpr ⟨hfree, ha, hq, hoffered⟩), State.takeNoticeEntry, hn]
  rfl

end takes

/-! ## Beginnings first (R116) -/

@[simp] theorem State.beginAll_beginAll (s : State) : s.beginAll.beginAll = s.beginAll :=
  State.beginAll_of_nothing s.nothingToBegin_beginAll

/-- Every other command but POWER_ON finds the part as the beginnings leave it. -/
theorem exec_beginAll {c : Instr} (hp : ∀ b, c ≠ .powerOn b) (hb : isBeginning c = false) (s : State) :
    exec c s = exec c s.beginAll := by
  cases hr : c.request with
  | some r =>
    obtain ⟨body, -, hexec⟩ := exec_request hr
    rw [hexec, hexec, State.beginAll_beginAll]
  | none =>
    cases c <;> simp only [Instr.request, reduceCtorEq, isBeginning, Bool.true_eq_false] at hr hb
    case powerOn b => exact absurd rfl (hp b)
    case telegramReceived p t =>
      change execTelegramReceived p t s = execTelegramReceived p t _
      unfold execTelegramReceived
      rw [State.beginAll_beginAll]
    case answerTransmissionComplete =>
      change execAnswerTransmissionComplete s = execAnswerTransmissionComplete _
      unfold execAnswerTransmissionComplete
      rw [State.beginAll_beginAll]
    case forwardTransmissionComplete p =>
      change execForwardTransmissionComplete p s = execForwardTransmissionComplete p _
      unfold execForwardTransmissionComplete
      rw [State.beginAll_beginAll]
    case noticeTransmissionComplete =>
      change execNoticeTransmissionComplete s = execNoticeTransmissionComplete _
      unfold execNoticeTransmissionComplete
      rw [State.beginAll_beginAll]
    case headOrderTransmissionComplete =>
      change execHeadOrderTransmissionComplete s = execHeadOrderTransmissionComplete _
      unfold execHeadOrderTransmissionComplete
      rw [State.beginAll_beginAll]
    case echoTimeout i =>
      change execEchoTimeout i s = execEchoTimeout i _
      unfold execEchoTimeout
      rw [State.beginAll_beginAll]
    case loopBoundary i =>
      change execLoopBoundary i s = execLoopBoundary i _
      unfold execLoopBoundary
      rw [State.beginAll_beginAll]
    case onTimeExpiry i =>
      change execOnTimeExpiry i s = execOnTimeExpiry i _
      unfold execOnTimeExpiry
      rw [State.beginAll_beginAll]
    case settleIntervalExpiry i =>
      change execSettleIntervalExpiry i s = execSettleIntervalExpiry i _
      unfold execSettleIntervalExpiry
      rw [State.beginAll_beginAll]
    case roomStaleExpiry r =>
      change execRoomStaleExpiry r s = execRoomStaleExpiry r _
      unfold execRoomStaleExpiry
      rw [State.beginAll_beginAll]
    case probeStaleExpiry e =>
      change execProbeStaleExpiry e s = execProbeStaleExpiry e _
      unfold execProbeStaleExpiry
      rw [State.beginAll_beginAll]
    case probeFaultExpiry e =>
      change execProbeFaultExpiry e s = execProbeFaultExpiry e _
      unfold execProbeFaultExpiry
      rw [State.beginAll_beginAll]
    case reportTemperatureExpiry =>
      change execReportTemperatureExpiry s = execReportTemperatureExpiry _
      unfold execReportTemperatureExpiry
      rw [State.beginAll_beginAll]
    case supplyStaleExpiry =>
      change execSupplyStaleExpiry s = execSupplyStaleExpiry _
      unfold execSupplyStaleExpiry
      rw [State.beginAll_beginAll]
    case spacingIntervalExpiry =>
      change execSpacingIntervalExpiry s = execSpacingIntervalExpiry _
      unfold execSpacingIntervalExpiry
      rw [State.beginAll_beginAll]
    case identifyHalfExpiry =>
      change execIdentifyHalfExpiry s = execIdentifyHalfExpiry _
      unfold execIdentifyHalfExpiry
      rw [State.beginAll_beginAll]
    case clearingExpiry =>
      change execClearingExpiry s = execClearingExpiry _
      unfold execClearingExpiry
      rw [State.beginAll_beginAll]
    case dwellExpiry =>
      change execDwellExpiry s = execDwellExpiry _
      unfold execDwellExpiry
      rw [State.beginAll_beginAll]
    case closeWaitExpiry =>
      change execCloseWaitExpiry s = execCloseWaitExpiry _
      unfold execCloseWaitExpiry
      rw [State.beginAll_beginAll]

theorem isBeginning_eq_false {c : Instr} (ht : ∀ p, c ≠ .transmissionBegin p) (ho : c ≠ .headOrderTransmissionBegin)
    (hn : c ≠ .noticeTransmissionBegin) : isBeginning c = false := by
  rw [← Bool.not_eq_true]
  intro h
  unfold isBeginning at h
  split at h
  · exact ht _ rfl
  · exact ho rfl
  · exact hn rfl
  · exact Bool.false_ne_true h

/-! ## The statement -/

theorem beginsByPrecedence : Parts.BeginsByPrecedence := by
  intro s
  refine ⟨fun a hfree ha hb => ?_, fun t rest hfree ha hq => ?_, fun t rest hfree ho hq => ?_,
    fun o rest hfree hm ho => ?_, fun e rest hfree ha hq haddress hspacing hn he => ?_⟩
  · exact ⟨s.answerTelegram a, compose_sum _ _ _ _, rfl, s.toNat_source, rfl, rfl,
      congrArg Host.Outcome.next (State.beginTransmission_answer hfree ha hb)⟩
  · exact congrArg Host.Outcome.next (State.beginTransmission_forward_h hfree ha hq)
  · exact congrArg Host.Outcome.next (State.beginTransmission_forward_m hfree ho hq)
  · have hdata : (s.orderTelegram o).data = [BitVec.ofNat 8 (s.loop o.loop).headChannel,
        if o.action = .energise then 1 else 0] := by
      rw [State.orderTelegram, compose]
      cases o.action <;> rfl
    exact ⟨s.orderTelegram o, compose_sum _ _ _ _, rfl, s.toNat_source, rfl, hdata,
      congrArg Host.Outcome.next (State.beginHeadOrder_cons hfree hm ho)⟩
  · have hoffered : s.noticeOffered = true := State.noticeOffered_iff.mpr ⟨haddress, hspacing, e, rest, hn, he⟩
    exact ⟨s.noticeTelegram e, compose_sum _ _ _ _, rfl, s.toNat_source, rfl, rfl,
      congrArg Host.Outcome.next (State.beginNotice_cons hfree ha hq hoffered hn)⟩

theorem nothingBeginsOutOfTurn : Parts.NothingBeginsOutOfTurn := by
  intro s
  refine ⟨fun p hbusy => congrArg Host.Outcome.next ?_, fun hbusy => congrArg Host.Outcome.next ?_,
    fun hbusy => congrArg Host.Outcome.next ?_, fun hm => congrArg Host.Outcome.next ?_,
    fun _ hm ho => congrArg Host.Outcome.next ?_, fun a ha hb => congrArg Host.Outcome.next ?_,
    fun hq => congrArg Host.Outcome.next ?_⟩
  · exact State.beginTransmission_of_not_ready (State.not_transmissionReady_of_busy hbusy)
  · exact State.beginHeadOrder_of_not_ready fun h => hbusy (State.headOrderReady_iff.mp h).1
  · exact State.beginNotice_of_not_ready fun h => hbusy (State.noticeReady_iff.mp h).1
  · exact State.beginHeadOrder_of_not_ready fun h => (State.headOrderReady_iff.mp h).2.1 hm
  · refine State.beginTransmission_of_not_ready (Bool.eq_false_iff.mpr fun h => ?_)
    obtain ⟨hfree, hready, -⟩ := State.transmissionReady_m_iff.mp h
    exact Bool.eq_false_iff.mp hready (State.headOrderReady_iff.mpr ⟨hfree, hm, ho⟩)
  · refine State.beginNotice_of_not_ready fun h => ?_
    obtain ⟨-, hbegun, -⟩ := State.noticeReady_iff.mp h
    rw [hbegun a ha] at hb
    cases hb
  · refine State.beginNotice_of_not_ready fun h => ?_
    obtain ⟨-, -, hempty, -⟩ := State.noticeReady_iff.mp h
    exact hq hempty

theorem beginsComeFirst : Parts.BeginsComeFirst := by
  intro c s ht ho hn hp
  exact ⟨_, _, _, s.beginAll, rfl, rfl, rfl, rfl, rfl, s.nothingToBegin_beginAll,
    exec_beginAll hp (isBeginning_eq_false ht ho hn) s, State.beginAll_of_nothing⟩

/-- Settles O30. -/
theorem transmissionsBegin : Obligations.TransmissionsBegin :=
  ⟨beginsByPrecedence, nothingBeginsOutOfTurn, beginsComeFirst⟩

end Sys2Proof.Machine
end

section
/-! PROOFS. The completions of transmissions (R97, R98, R113, R114, R143, R152) and the grant of a returned
slot; the settling of O31. -/

namespace Sys2Proof.Machine

open Sys2Proof

/-! ## The commands -/

section complete
variable {s : State} (hnothing : s.NothingToBegin)
include hnothing

theorem exec_forwardComplete {p : PortId} {t : Telegram} {orphan : Bool}
    (htx : (s.port p).tx = some (.forward t orphan)) : exec (.forwardTransmissionComplete p) s =
      if orphan then .next (s.freeTx p)
      else .next ((s.freeTx p).updCounters p fun c => { c with forwarded := wrapInc c.forwarded }) := by
  change execForwardTransmissionComplete p s = _
  unfold execForwardTransmissionComplete
  rw [State.beginAll_of_nothing hnothing]
  simp only [htx]

theorem exec_noticeComplete {t : Telegram} (htx : s.portH.tx = some (.notice t)) :
    exec .noticeTransmissionComplete s = .next { s.freeTx .h with notices := s.notices.complete s.now } := by
  change execNoticeTransmissionComplete s = _
  unfold execNoticeTransmissionComplete
  rw [State.beginAll_of_nothing hnothing]
  simp only [htx]

theorem exec_answerComplete {t : Telegram} (htx : s.portH.tx = some (.answer t)) :
    exec .answerTransmissionComplete s = .next s.completeAnswer := by
  change execAnswerTransmissionComplete s = _
  unfold execAnswerTransmissionComplete
  rw [State.beginAll_of_nothing hnothing]
  simp only [htx]

theorem exec_headOrderComplete {i : Fin 16} {a : Action} {t : Telegram} {orphan : Bool}
    (htx : s.portM.tx = some (.headOrder i a t orphan)) :
    exec .headOrderTransmissionComplete s = .next (s.completeHeadOrder i a orphan) := by
  change execHeadOrderTransmissionComplete s = _
  unfold execHeadOrderTransmissionComplete
  rw [State.beginAll_of_nothing hnothing]
  simp only [htx]

end complete

/-! ## What they leave -/

theorem State.freeTx_h (s : State) : s.freeTx .h = { s with portH := { s.portH with tx := none } } := rfl

theorem State.freeTx_m (s : State) : s.freeTx .m = { s with portM := { s.portM with tx := none } } := rfl

theorem State.updCounters_freeTx (s : State) (p : PortId) (f : Counters → Counters) :
    (s.freeTx p).updCounters p f =
      s.setPort p { s.port p with tx := none, counters := f (s.port p).counters } := by
  cases p <;> rfl

/-- The oldest entry alone was in transmission: it leaves, or it stays where something merged into it. -/
theorem Notices.complete_cons {q : Notices} {e : NoticeEntry} {rest : List NoticeEntry}
    (hentries : q.entries = e :: rest) (he : e.inTransmission = true)
    (hrest : ∀ x ∈ rest, x.inTransmission = false) (now : Nat) : q.complete now = { q with
      entries := if e.count = 0 then rest else { e with inTransmission := false } :: rest
      spacingDue := some (now + 2) } := by
  have hkept : rest.filter (fun x => !x.inTransmission || x.count != 0) = rest :=
    List.filter_eq_self.mpr fun x hx => by rw [hrest x hx, Bool.not_false, Bool.true_or]
  have hout (x : NoticeEntry) (hx : x ∈ rest) : { x with inTransmission := false } = id x := by
    rw [← hrest x hx]
    rfl
  have hsame : rest.map (fun x => { x with inTransmission := false }) = rest :=
    (List.map_congr_left hout).trans (List.map_id rest)
  have hlist : (q.entries.filter fun x => !x.inTransmission || x.count != 0).map
      (fun x => { x with inTransmission := false }) =
      if e.count = 0 then rest else { e with inTransmission := false } :: rest := by
    rw [hentries]
    by_cases hcount : e.count = 0
    · rw [List.filter_cons_of_neg (by simp [he, hcount]), hkept, hsame, if_pos hcount]
    · rw [List.filter_cons_of_pos (by simp [hcount]), hkept, List.map_cons, hsame, if_neg hcount]
  rw [Notices.complete, hlist]

theorem State.completeAnswer_of_plain {s : State} {a : Answer} (h : s.answer = some a)
    (hplain : ¬(a.code = 0x0B ∧ a.outcome = .done)) :
    s.completeAnswer = { s with portH := { s.portH with tx := none }, answer := none } := by
  have hrestart : a.isRestart = false := by
    simpa [Answer.isRestart, codeRestart] using hplain
  rw [State.completeAnswer, h]
  simp only [hrestart, Bool.false_eq_true, if_false]
  rfl

theorem State.headSent_eq (s : State) (i : Fin 16) (a : Action) : s.headSent i a =
    ({ s with portM := { s.portM with tx := none } } : State).setLoop i { s.loop i with
      head := if a = .energise then .energiseSent else .releaseSent
      settle := .stopped, echoDue := some (s.now + 2) } := by
  rw [State.headSent, State.setHead, State.updLoop_updLoop]
  cases a <;> rfl

theorem State.orderSent_freed (s : State) (i : Fin 16) (a : Action) : (s.freeTx .m).orderSent i a =
    if a = .energise then s.headSent i a else (s.headSent i a).grantSlot := by
  cases a <;> rfl

theorem completions : Parts.Completions := by
  intro s hnothing
  refine ⟨fun p t htx => ?_, fun p t htx => ?_, fun t e rest htx hentries he hrest => ?_,
    fun t a htx ha hplain => ?_, fun i a t htx => ?_, fun i a t htx => ?_⟩
  · rw [exec_forwardComplete hnothing htx, State.updCounters_freeTx]
    rfl
  · rw [exec_forwardComplete hnothing htx]
    rfl
  · rw [exec_noticeComplete hnothing htx, Notices.complete_cons hentries he hrest]
    rfl
  · rw [exec_answerComplete hnothing htx, State.completeAnswer_of_plain ha hplain]
  · rw [exec_headOrderComplete hnothing htx, State.completeHeadOrder, State.orderSent_freed, State.headSent_eq]
    rfl
  · rw [exec_headOrderComplete hnothing htx, State.completeHeadOrder, State.freeTx_m]
    rfl

/-! ## The grant of a slot (R98) -/

/-- The winner of a fold that keeps the better of two. -/
theorem foldl_best {α : Type} {f : Option α → α → Option α} {better : α → α → Bool}
    (hnone : ∀ x, f none x = some x) (hsome : ∀ b x, f (some b) x = if better x b then some x else some b)
    {w : α} {l : List α} (hbest : ∀ x ∈ l, x = w ∨ (better w x = true ∧ better x w = false))
    (hself : better w w = false) {b : Option α} (hb : ∀ x, b = some x → x = w ∨ better w x = true)
    (hw : w ∈ l ∨ b = some w) : l.foldl f b = some w := by
  induction l generalizing b with
  | nil => simpa using hw
  | cons x l ih =>
    have hx := hbest x (List.mem_cons_self ..)
    have hrest : ∀ y ∈ l, y = w ∨ (better w y = true ∧ better y w = false) :=
      fun y hy => hbest y (List.mem_cons_of_mem _ hy)
    rw [List.foldl_cons]
    cases b with
    | none =>
      rw [hnone]
      have hmem : w = x ∨ w ∈ l := by simpa using hw
      refine ih hrest (fun y hy => ?_) (hmem.symm.imp_right fun h => by rw [h])
      obtain rfl := Option.some.inj hy
      exact hx.imp_right And.left
    | some c =>
      have hmem : (w = x ∨ w ∈ l) ∨ c = w := by simpa using hw
      rw [hsome]
      split
      next hbetter =>
        refine ih hrest (fun y hy => ?_) ?_
        · obtain rfl := Option.some.inj hy
          exact hx.imp_right And.left
        · rcases hmem with (rfl | hmem) | rfl
          · exact .inr rfl
          · exact .inl hmem
          · rcases hx with rfl | ⟨-, hworse⟩
            · exact .inr rfl
            · rw [hworse] at hbetter
              cases hbetter
      next hkept =>
        refine ih hrest (fun y hy => hb y hy) ?_
        rcases hmem with (rfl | hmem) | rfl
        · rcases hb c rfl with rfl | hbetter
          · exact .inr rfl
          · exact absurd hbetter hkept
        · exact .inl hmem
        · exact .inr rfl

theorem State.servedBefore_iff (s : State) (i j : Fin 16) : s.servedBefore i j = true ↔
    (s.loop j).level < (s.loop i).level ∨ ((s.loop j).level = (s.loop i).level ∧
      ((s.loop j).group < (s.loop i).group ∨ ((s.loop j).group = (s.loop i).group ∧ i < j))) := by
  simp only [State.servedBefore, Bool.or_eq_true, Bool.and_eq_true, decide_eq_true_iff, beq_iff_eq, Fin.lt_def,
    eq_comm (a := (s.loop i).level), eq_comm (a := (s.loop i).group)]

theorem State.grantSlot_nil {s : State} (h : s.waits = []) : s.grantSlot = s := by
  have hbest : s.bestWaiter = none := by
    rw [State.bestWaiter, h, List.foldl_nil]
  rw [State.grantSlot, hbest]

/-- A waiter that goes before every other one gets the slot. -/
theorem State.bestWaiter_eq {s : State} {w : WaitEntry} (hw : w ∈ s.waits)
    (hnodup : (s.waits.map (·.loop)).Nodup)
    (hbest : ∀ x ∈ s.waits, x.loop ≠ w.loop → s.servedBefore w.loop x.loop = true) :
    s.bestWaiter = some w := by
  have hirrefl (i : Fin 16) : s.servedBefore i i = false := by
    rw [← Bool.not_eq_true, State.servedBefore_iff]
    omega
  have hasymm {i j : Fin 16} (h : s.servedBefore i j = true) : s.servedBefore j i = false := by
    rw [State.servedBefore_iff] at h
    rw [← Bool.not_eq_true, State.servedBefore_iff]
    omega
  refine foldl_best (better := fun x b => s.servedBefore x.loop b.loop) (fun _ => rfl) (fun _ _ => rfl)
    (fun x hx => ?_) (hirrefl _) (fun _ h => by cases h) (.inl hw)
  by_cases heq : x.loop = w.loop
  · exact .inl (List.inj_on_of_nodup_map hnodup hx hw heq)
  · exact .inr ⟨hbest x hx heq, hasymm (hbest x hx heq)⟩

theorem slotGranted : Parts.SlotGranted := by
  intro s
  refine ⟨State.grantSlot_nil, fun w hw hnodup hbest => ?_⟩
  have hserved : s.bestWaiter = some w := State.bestWaiter_eq hw hnodup fun x hx hne =>
    (s.servedBefore_iff _ _).mpr (hbest x hx hne)
  rw [State.grantSlot, hserved]
  simp only [State.order, State.setHead, State.updLoop_eq]
  cases w.action <;> rfl

/-- Settles O31. -/
theorem transmissionsComplete : Obligations.TransmissionsComplete := ⟨completions, slotGranted⟩

end Sys2Proof.Machine
end

section
/-! PROOFS. The restart (R147), the judging of telegrams (R106 to R110), the pass queues (R111), the notices
(R151), and the telegrams that the rooms and the supply record read (R26, R27, R31, R51, R73); the settling of
O32, O33, O35, O36, O37 and O39. -/

namespace Sys2Proof.Machine

open Sys2Proof

/-! ## The restart (R147) -/

theorem Loop.restarted_eq (l : Loop) : l.restarted = { l with
    state := if l.state = .disabled then .disabled else .standby
    causes := ⟨false, false, false⟩, activeDuty := 0, bufferedDuty := 0, pendingFlag := false
    request := 0, grant := 0, head := .idleUnknown, lastAction := none, accSum := 0
    accCount := 0, misses := 0, goodRun := 0, starvedRun := 0, achieved := 0, wanted := none
    onTime := 0, openPhase := false, openCount := 0, inCycle := false, nextBoundary := none
    lastBoundary := none, settle := .stopped, echoDue := none } := by
  have hstate : (if l.enabled = true then LoopState.standby else .disabled) =
      if l.state = .disabled then .disabled else .standby := by
    cases h : l.state <;> simp [Loop.enabled, h]
  rw [Loop.restarted, hstate, Loop.clearStatus_eq]

theorem State.completeAnswer_of_restart {s : State} {a : Answer} (h : s.answer = some a)
    (hcode : a.code = 0x0B) (hdone : a.outcome = .done) :
    s.completeAnswer = ({ s.freeTx .h with answer := none } : State).restart := by
  have hrestart : a.isRestart = true := by
    simp [Answer.isRestart, codeRestart, hcode, hdone]
  rw [State.completeAnswer, h]
  simp only [hrestart, if_true]

theorem State.restart_answered (s : State) : ({ s.freeTx .h with answer := none } : State).restart = { s with
    mode := .passive, lock := false, t0 := none, answer := none, orders := [], waits := []
    loops := Vector.ofFn fun i => (s.loop i).restarted
    probes := Vector.ofFn fun e => (s.probe e).restarted
    rules := Vector.ofFn fun r => { s.rule r with hits := 0 }
    alloc := {}, portH := {}, portM := { tx := s.portM.tx.map Transmission.orphaned }
    pattern := {}, notices := {} } := rfl

/-- Settles O32. -/
theorem restartKeepsAndClears : Obligations.RestartKeepsAndClears := by
  intro s a t hnothing htx ha hcode hdone
  rw [exec_answerComplete hnothing htx, State.completeAnswer_of_restart ha hcode hdone]
  refine congrArg Host.Outcome.next ?_
  rw [State.restart_answered]
  simp only [Loop.restarted_eq]
  cases hm : s.portM.tx with
  | none => rfl
  | some x => cases x <;> rfl

/-! ## Judging (R106 to R110) -/

theorem exec_telegramReceived_damaged {s : State} {t : Telegram} (p : PortId) (hnothing : s.NothingToBegin)
    (hdamaged : t.Damaged) : exec (.telegramReceived p t) s = .next (s.takeDamaged p) := by
  rw [exec_telegramReceived, State.beginAll_of_nothing hnothing, State.receive,
    if_pos ((telegramDamaged_iff t).mpr hdamaged)]

theorem damagedTelegramCounted : Parts.DamagedTelegramCounted := by
  intro p t s hnothing hdamaged
  have hexec := exec_telegramReceived_damaged p hnothing hdamaged
  refine ⟨fun hrun => ?_, fun hrun => ?_⟩
  · rw [hexec, State.takeDamaged, if_neg (by simpa [Config.noisyRun] using hrun)]
    rfl
  · rw [hexec, State.takeDamaged, if_pos (by rw [hrun])]
    cases p <;> rfl

theorem State.consume_unmatched_h (s : State) {t : Telegram} (hsetup : t.kind ≠ kindSetupRequest) (hecho : t.kind ≠ kindHeadEcho) :
    s.consume .h t = s.countUnmatched .h := by
  rw [State.consume, State.consumeH, if_neg hsetup, if_neg hecho]

theorem State.consume_unmatched_m (s : State) {t : Telegram} (hecho : t.kind ≠ kindHeadEcho) :
    s.consume .m t = s.countUnmatched .m := by
  rw [State.consume, State.consumeM, if_neg hecho]

theorem telegramMalformed_echo {t : Telegram} (hkind : t.kind = kindHeadEcho) :
    telegramMalformed t = decide (t.data.length < 3) := by
  rw [telegramMalformed_eq, Telegram.tooShort, hkind]
  simp [kindHeadEcho]

theorem State.consume_malformed_echo (s : State) {t : Telegram} (hkind : t.kind = kindHeadEcho) (hlen : t.data.length < 3)
    (p : PortId) : s.consume p t = s := by
  have hmalformed : telegramMalformed t = true := by rw [telegramMalformed_echo hkind, decide_eq_true hlen]
  cases p
  · rw [State.consume, State.consumeH, if_neg (by rw [hkind]; decide), if_pos hkind, if_pos hmalformed]
  · rw [State.consume, State.consumeM, if_pos hkind, if_pos hmalformed]

section echo
variable (s : State) {t : Telegram} (hkind : t.kind = kindHeadEcho) (hlen : 3 ≤ t.data.length)
include hkind hlen

theorem State.consume_echo_h : s.consume .h t = s.countStray .h := by
  have hformed : ¬telegramMalformed t = true := by
    rw [telegramMalformed_echo hkind, decide_eq_true_iff, not_lt]
    exact hlen
  rw [State.consume, State.consumeH, if_neg (by rw [hkind]; decide), if_pos hkind, if_neg hformed]

theorem State.consume_echo_m : s.consume .m t = s.readEcho t := by
  have hformed : ¬telegramMalformed t = true := by
    rw [telegramMalformed_echo hkind, decide_eq_true_iff, not_lt]
    exact hlen
  rw [State.consume, State.consumeM, if_pos hkind, if_neg hformed]

end echo

theorem addressedTelegramConsumed : Parts.AddressedTelegramConsumed := by
  intro t s hnothing hgood hdst
  have hexec (p : PortId) := exec_telegramReceived_consumed p hnothing hgood hdst
  refine ⟨fun hsetup hecho => ?_, fun hecho => ?_, fun hkind hlen p => ?_, fun hkind hlen => ⟨?_, ?_⟩⟩
  · rw [hexec, State.consume_unmatched_h _ hsetup hecho]
    rfl
  · rw [hexec, State.consume_unmatched_m _ hecho]
    rfl
  · rw [hexec, State.consume_malformed_echo _ hkind hlen]
  · rw [hexec, State.consume_echo_h _ hkind hlen]
    rfl
  · rw [hexec, State.consume_echo_m _ hkind hlen]

/-- Settles O33. -/
theorem telegramsJudged : Obligations.TelegramsJudged := ⟨damagedTelegramCounted, addressedTelegramConsumed⟩

/-! ## Pass queues (R111) -/

/-- Settles O35. -/
theorem forwardPlaced : Obligations.ForwardPlaced := by
  intro p t s
  refine ⟨fun hroom => if_pos hroom, fun hfull => ?_⟩
  have hroom : ¬(s.port p).queue.length < Config.passQueueSize := by
    rw [hfull]
    decide
  rw [State.placeForward, if_neg hroom]
  have hpolicy : s.overflowPolicy p =
      if p = .h then s.general.overflowPolicyH else s.general.overflowPolicyM := by cases p <;> rfl
  rw [hpolicy]
  have hcode : portCode p = if p = .h then 0 else 1 := by cases p <;> rfl
  rw [hcode]
  cases (if p = .h then s.general.overflowPolicyH else s.general.overflowPolicyM) with
  | discardNew => cases p <;> rfl
  | discardOldest =>
    rw [List.drop_one]
    cases p <;> rfl

/-! ## Notices (R151) -/

/-- Of distinct entries one alone is about a thing. -/
theorem Notices.map_merge {before after : List NoticeEntry} {e : NoticeEntry}
    (hdistinct : (before ++ e :: after).Pairwise fun a b => ¬(a.kind = b.kind ∧ a.subject = b.subject))
    (value : Option Int) : (before ++ e :: after).map
      (fun x => if x.about e.kind e.subject then x.merge value else x) = before ++ e.merge value :: after := by
  obtain ⟨-, hafter, hbefore⟩ := List.pairwise_append.mp hdistinct
  obtain ⟨hafter, -⟩ := List.pairwise_cons.mp hafter
  have hself : e.about e.kind e.subject = true := (e.about_iff _ _).mpr ⟨rfl, rfl⟩
  have hkept {l : List NoticeEntry} (h : ∀ x ∈ l, ¬(x.kind = e.kind ∧ x.subject = e.subject)) :
      l.map (fun x => if x.about e.kind e.subject then x.merge value else x) = l := by
    refine (List.map_congr_left fun x hx => ?_).trans (List.map_id l)
    rw [if_neg (mt (x.about_iff _ _).mp (h x hx)), id]
  rw [List.map_append, List.map_cons, if_pos hself, hkept fun x hx => hbefore x hx e (List.mem_cons_self ..),
    hkept fun x hx hsame => hafter x hx ⟨hsame.1.symm, hsame.2.symm⟩]

/-- Settles O36. -/
theorem noticeRaised : Obligations.NoticeRaised := by
  intro q kind subject value
  refine ⟨fun before after e hentries hkind hsubject hdistinct => ?_, fun hnone => ?_⟩
  · subst hkind hsubject
    rw [Notices.Distinct, hentries] at hdistinct
    have hany : q.entries.any (·.about e.kind e.subject) = true :=
      List.any_eq_true.mpr ⟨e, by simp [hentries], (e.about_iff _ _).mpr ⟨rfl, rfl⟩⟩
    rw [Notices.raise, if_pos hany, hentries, Notices.map_merge hdistinct]
    rfl
  · have hany : ¬q.entries.any (·.about kind subject) = true := fun h => by
      obtain ⟨e, he, habout⟩ := List.any_eq_true.mp h
      exact hnone e he ((e.about_iff _ _).mp habout)
    refine ⟨fun hroom => ?_, fun hfull => ?_⟩
    · rw [Notices.raise, if_neg hany, if_pos hroom]
    · rw [Notices.raise, if_neg hany, if_neg (not_lt.mpr hfull)]

/-! ## Rooms (R26, R27, R31) -/

/-- What alone satisfies a test is what a search finds. -/
theorem find?_of_unique {α : Type} {p : α → Bool} {l : List α} {a : α} (ha : a ∈ l) (hp : p a = true)
    (honly : ∀ b ∈ l, p b = true → b = a) : l.find? p = some a := by
  cases h : l.find? p with
  | none => exact absurd hp (by simpa using List.find?_eq_none.mp h a ha)
  | some b => rw [honly b (List.mem_of_find?_eq_some h) (List.find?_some h)]

theorem mem_roomIds (r : Fin 12) : r ∈ roomIds := List.mem_finRange r

theorem State.roomOfUnit_eq_some {s : State} (hunique : s.UnitsUnique) {r : Fin 12}
    (hunit : (s.room r).unitAddress ≠ 0) : s.roomOfUnit (s.room r).unitAddress = some r := by
  refine find?_of_unique (mem_roomIds r) (by simpa using hunit) fun q _ hq => ?_
  obtain ⟨hne, heq⟩ : (s.room q).unitAddress ≠ 0 ∧ (s.room q).unitAddress = (s.room r).unitAddress := by
    simpa using hq
  exact not_imp_comm.mp (fun hqr => hunique q r hqr hne) (not_not.mpr heq)

theorem State.roomOfUnit_eq_none {s : State} {n : Nat}
    (h : ∀ r, (s.room r).unitAddress ≠ 0 → (s.room r).unitAddress ≠ n) : s.roomOfUnit n = none :=
  List.find?_eq_none.mpr fun r _ => by simpa using h r

theorem RoomMode.ofCode_of_other : ∀ m : Byte, m ≠ 0 → m ≠ 1 → m ≠ 2 → m ≠ 3 → RoomMode.ofCode m.toNat = none := by
  decide

theorem RoomMode.getD_ofCode (m : Byte) (k : RoomMode) : (RoomMode.ofCode m.toNat).getD k =
    if m = 0 then .comfort else if m = 1 then .setback else if m = 2 then .away
      else if m = 3 then .off else k := by
  by_cases h0 : m = 0
  · subst h0; rfl
  by_cases h1 : m = 1
  · subst h1; rfl
  by_cases h2 : m = 2
  · subst h2; rfl
  by_cases h3 : m = 3
  · subst h3; rfl
  rw [RoomMode.ofCode_of_other m h0 h1 h2 h3, if_neg h0, if_neg h1, if_neg h2, if_neg h3, Option.getD_none]

theorem roomReportRead : Parts.RoomReportRead := by
  intro t s hunique
  refine ⟨fun r a b c d m rest hdata hne hunit => ?_, fun hnone => ?_⟩
  · rw [State.readRoomReport, ← hunit, State.roomOfUnit_eq_some hunique hne, hdata]
    simp only [State.updRoom]
    have hmode : (RoomMode.ofCode (byteAt (a :: b :: c :: d :: m :: rest) 4)).getD (s.room r).mode = _ :=
      RoomMode.getD_ofCode m _
    rw [Room.report, hmode]
    rfl
  · rw [State.readRoomReport, State.roomOfUnit_eq_none hnone]
    rfl

theorem State.enabledOn_eq_some {s : State} (hheads : s.HeadsUnshared) {i : Fin 16}
    (henabled : (s.loop i).state ≠ .disabled) :
    s.enabledOn (s.loop i).driverAddress (s.loop i).headChannel = some i := by
  refine find?_of_unique (mem_loopIds i) (by simpa [Loop.enabled] using henabled) fun j _ hj => ?_
  simp only [Bool.and_eq_true, beq_iff_eq] at hj
  obtain ⟨⟨hon, hdriver⟩, hchannel⟩ := hj
  by_contra hne
  exact hheads j i hne hon ((Loop.enabled_iff _).mpr henabled) ⟨hdriver, hchannel⟩

theorem State.enabledOn_eq_none {s : State} {address channel : Nat} (h : ∀ i, (s.loop i).state ≠ .disabled →
    ¬((s.loop i).driverAddress = address ∧ (s.loop i).headChannel = channel)) :
    s.enabledOn address channel = none :=
  List.find?_eq_none.mpr fun i _ => by
    simpa [Loop.enabled, and_assoc] using h i

theorem zoneOrderRead : Parts.ZoneOrderRead := by
  intro t c v rest s hdata hheads
  have hv : byteAt t.data 1 = v.toNat := by rw [hdata]; rfl
  have hc : byteAt t.data 0 = c.toNat := by rw [hdata]; rfl
  refine ⟨fun i r henabled hdriver hchannel hroom => ?_, fun hnone => ?_⟩
  · have hfound : s.enabledOn t.dst.toNat (byteAt t.data 0) = some i := by
      rw [hc, ← hdriver, ← hchannel]
      exact State.enabledOn_eq_some hheads henabled
    have hset (hcode : v.toNat ≤ 1) : s.readZoneOrder t = s.setCall i (v == 1) := by
      rw [State.readZoneOrder, hfound]
      simp only [hv]
      rcases Nat.le_one_iff_eq_zero_or_eq_one.mp hcode with h | h
      · obtain rfl : v = 0 := BitVec.eq_of_toNat_eq h
        rfl
      · obtain rfl : v = 1 := BitVec.eq_of_toNat_eq h
        rfl
    have hcall (b : Bool) : s.setCall i b =
        if (s.room r).call = b then s else s.setRoom r { s.room r with call := b }.recomputed := by
      rw [State.setCall, hroom]
      rfl
    refine ⟨fun hcode hsame => ?_, fun hcode hdiff => ?_, fun hcode => ?_⟩
    · rw [hset hcode, hcall, if_pos hsame]
    · rw [hset hcode, hcall, if_neg hdiff]
    · rw [State.readZoneOrder, hfound]
      simp only [hv]
      rw [if_neg (by omega), if_neg (by omega)]
      rfl
  · rw [State.readZoneOrder, hc, State.enabledOn_eq_none hnone]
    rfl

/-- Settles O37. -/
theorem roomTelegramsRead : Obligations.RoomTelegramsRead := ⟨roomReportRead, zoneOrderRead⟩

/-! ## The supply record (R51, R73) -/

theorem SourceState.ofCode_of_other : ∀ e : Byte, e ≠ 0 → e ≠ 1 → e ≠ 2 → SourceState.ofCode e.toNat = none := by
  decide

theorem SourceState.getD_ofCode (e : Byte) (k : SourceState) : (SourceState.ofCode e.toNat).getD k =
    if e = 0 then .run else if e = 1 then .defrost else if e = 2 then .block else k := by
  by_cases h0 : e = 0
  · subst h0; rfl
  by_cases h1 : e = 1
  · subst h1; rfl
  by_cases h2 : e = 2
  · subst h2; rfl
  rw [SourceState.ofCode_of_other e h0 h1 h2, if_neg h0, if_neg h1, if_neg h2, Option.getD_none]

theorem State.supplyFilter_iff (s : State) (n : Nat) :
    s.supplyFilter n = true ↔ s.general.supplySource = 0 ∨ s.general.supplySource = n := by
  simp [State.supplyFilter]

/-- Settles O39. -/
theorem supplyReportRead : Obligations.SupplyReportRead := by
  intro t a b c d e rest s hdata
  refine ⟨fun hfilter => ?_, fun hfilter => ?_⟩
  · rw [State.readSupplyReport_eq, if_neg]
    · rfl
    · rw [State.supplyFilter_iff]
      exact fun h => h.elim hfilter.1 hfilter.2
  · intro inRange k
    rw [State.readSupplyReport_eq, if_pos ((s.supplyFilter_iff _).mpr hfilter), State.supplyRead]
    have hread : s.supply.report s.now (signedAt t.data 0) (unsignedAt t.data 2) (byteAt t.data 4) = k := by
      have hsource : (SourceState.ofCode (byteAt t.data 4)).getD s.supply.source = k.source := by
        rw [hdata]
        exact SourceState.getD_ofCode e _
      have hallowance : unsignedAt t.data 2 = 256 * c.toNat + d.toNat := by
        rw [hdata, ← toNat_append_bytes]
        rfl
      have htemp : signedAt t.data 0 = (a ++ b : BitVec 16).toInt := by
        rw [hdata]
        rfl
      rw [Supply.report, hsource, hallowance, htemp]
      by_cases hrange : inRange
      · simp only [k, if_pos hrange]
        exact if_pos hrange
      · simp only [k, if_neg hrange]
        exact if_neg hrange
    rw [hread]
    exact ⟨fun h => if_pos h, fun h => if_neg h⟩

end Sys2Proof.Machine
end

section
/-! PROOFS. The probe conditioner (R41 to R43, R46 to R50, R52, R58, R59): a sample, a PROBE REPORT, the
temperatures and the PROBE condition; the settling of O40 and O49. -/

namespace Sys2Proof.Machine

open Sys2Proof

/-! ## A sample (R42, R43, R50) -/

theorem State.takeSample_outside {s : State} {e : Fin 32} {sample : Int}
    (h : ¬(0 ≤ sample + (s.probe e).trim ∧ sample + (s.probe e).trim ≤ 5760)) : s.takeSample e sample =
      s.setProbe e { s.probe e with rejected := min 255 ((s.probe e).rejected + 1) } := by
  rw [State.takeSample, if_pos]
  · rfl
  · simp only [Config.tempMax]
    omega

section accepted
variable {s : State} {e : Fin 32} {sample : Int} {v : Nat} (hv : sample + (s.probe e).trim = v) (hmax : v ≤ 5760)
include hv hmax

theorem State.takeSample_supply (hrole : (s.probe e).role = .supplyWater) : s.takeSample e sample =
    (s.setProbe e ((s.probe e).accept s.now v)).publishTest e := by
  rw [State.takeSample, hv, if_neg (by simp only [Config.tempMax]; omega)]
  simp only [hrole, Int.toNat_natCast]

theorem State.takeSample_return (hrole : (s.probe e).role = .returnWater) : s.takeSample e sample =
    (((s.setProbe e ((s.probe e).accept s.now v)).evaluateHeld (s.probe e).loop).removeProbeCause
      (s.probe e).loop).publishTest e := by
  rw [State.takeSample, hv, if_neg (by simp only [Config.tempMax]; omega)]
  simp only [hrole, Int.toNat_natCast]

end accepted

section publish
variable {s : State} {e : Fin 32}

theorem State.publishTest_supply (hrole : (s.probe e).role = .supplyWater) : s.publishTest e =
    if (s.probe e).accCount < (s.probe e).depth then s else s.setProbe e (s.probe e).publish := by
  rw [State.publishTest]
  simp only [hrole]

theorem State.publishTest_return (hrole : (s.probe e).role = .returnWater) : s.publishTest e =
    if (s.probe e).accCount < (s.probe e).depth then s
    else ((s.setProbe e (s.probe e).publish).evaluateHeld (s.probe e).loop).offerReturn (s.probe e).loop := by
  rw [State.publishTest]
  simp only [hrole]

end publish

/-- Evaluating a loop's flag and cause leaves the probe map. -/
theorem State.probe_removeProbeCause_evaluateHeld (s : State) (i : Fin 16) (e : Fin 32) :
    ((s.evaluateHeld i).removeProbeCause i).probe e = s.probe e := by
  have hrun := ((s.evaluateHeld_driveStep i).trans (State.removeProbeCause_driveStep _ i)).run
  rw [State.probe, hrun.probes, State.probe]

theorem sampleTaken : Parts.SampleTaken := by
  intro s e sample p x
  refine ⟨State.takeSample_outside, fun v hv hmax => ⟨fun hrole => ?_, fun hrole => ?_⟩⟩
  · rw [State.takeSample_supply hv hmax hrole, State.publishTest_supply (by rw [State.probe_setProbe_self]; exact hrole),
      State.probe_setProbe_self, State.setProbe_setProbe]
    rfl
  · rw [State.takeSample_return hv hmax hrole]
    set fed := ((s.setProbe e ((s.probe e).accept s.now v)).evaluateHeld (s.probe e).loop).removeProbeCause
      (s.probe e).loop with hfed
    have hprobe : fed.probe e = (s.probe e).accept s.now v := by
      rw [hfed, State.probe_removeProbeCause_evaluateHeld, State.probe_setProbe_self]
    rw [State.publishTest_return (by rw [hprobe]; exact hrole), hprobe]
    rfl

/-! ## A PROBE REPORT (R41) -/

/-- The valid entry on a module's channel; the map holds no two. -/
theorem State.entryOn_eq_some {s : State} (hmap : s.MapSound) {address channel : Nat} {e : Fin 32} :
    s.entryOn address channel = some e ↔ (s.probe e).valid = true ∧ (s.probe e).moduleAddress = address ∧
      (s.probe e).channel = channel := by
  constructor
  · intro h
    simpa [and_assoc] using List.find?_some h
  · rintro ⟨hvalid, rfl, rfl⟩
    refine find?_of_unique (mem_probeIds e) (by simpa using hvalid) fun d _ hd => ?_
    obtain ⟨hdvalid, hmodule, hchannel⟩ : (s.probe d).valid = true ∧
        (s.probe d).moduleAddress = (s.probe e).moduleAddress ∧ (s.probe d).channel = (s.probe e).channel := by
      simpa [and_assoc] using hd
    by_contra hne
    exact hmap.1 d e hne hdvalid hvalid ⟨hmodule, hchannel⟩

theorem State.entryOn_congr {s u : State} (h : ∀ e, (s.probe e).SameIdentity (u.probe e)) (address channel : Nat) :
    u.entryOn address channel = s.entryOn address channel := by
  refine congrArg (probeIds.find? ·) (funext fun e => ?_)
  obtain ⟨hvalid, hmodule, hchannel, -, -⟩ := h e
  rw [hvalid, hmodule, hchannel]

theorem Probe.SameIdentity.trans {p q r : Probe} (h : p.SameIdentity q) (g : q.SameIdentity r) :
    p.SameIdentity r :=
  ⟨g.1.trans h.1, g.2.1.trans h.2.1, g.2.2.1.trans h.2.2.1, g.2.2.2.1.trans h.2.2.2.1,
    g.2.2.2.2.trans h.2.2.2.2⟩

theorem State.sameIdentity_takeSample (s : State) (e : Fin 32) (sample : Int) (d : Fin 32) :
    (s.probe d).SameIdentity ((s.takeSample e sample).probe d) := by
  have hprobe : (s.takeSample e sample).probe d = (s.setProbe e ((s.probe e).sampled s.now sample)).probe d :=
    congrArg (fun probes : Vector Probe 32 => probes[d]) (s.takeSample_runStep e sample).probes
  rw [hprobe, State.probe_setProbe]
  split
  next h =>
    subst h
    exact Probe.sampled_sameIdentity _ _ _
  next => exact .refl _

/-- The temperature at a position of a report. -/
theorem signedAt_eq (data : List Byte) (i : Nat) :
    signedAt data i = (data.getD i 0 ++ data.getD (i + 1) 0 : BitVec 16).toInt := rfl

section report
variable {t : Telegram} {s : State} {u : State}

theorem State.takePosition_some {k : Nat} {e : Fin 32} (h : s.entryOn t.src.toNat k = some e) :
    State.takePosition t s k = s.takeSample e (signedAt t.data (2 * k)) := by
  rw [State.takePosition, h]

theorem State.takePosition_none {k : Nat} (h : s.entryOn t.src.toNat k = none) : State.takePosition t s k = s := by
  rw [State.takePosition, h]

theorem State.takePosition_sameIdentity (t : Telegram) (s : State) (k : Nat) (d : Fin 32) :
    (s.probe d).SameIdentity ((State.takePosition t s k).probe d) := by
  cases h : s.entryOn t.src.toNat k with
  | none =>
    rw [State.takePosition_none h]
    exact .refl _
  | some e =>
    rw [State.takePosition_some h]
    exact State.sameIdentity_takeSample ..

/-- The entries of the map are those at the report's arrival, since no sample moves an entry. -/
theorem State.foldl_takePosition {f : State → Nat → State}
    (hf : ∀ (u : State) (k : Nat), (∀ e, (s.probe e).SameIdentity (u.probe e)) → State.takePosition t u k = f u k)
    (ks : List Nat) (hu : ∀ e, (s.probe e).SameIdentity (u.probe e)) :
    ks.foldl (State.takePosition t) u = ks.foldl f u := by
  induction ks generalizing u with
  | nil => rfl
  | cons k ks ih =>
    rw [List.foldl_cons, List.foldl_cons, ← hf u k hu]
    exact ih fun e => (hu e).trans (State.takePosition_sameIdentity t u k e)

theorem State.readProbeReport_reached (h : ∃ k ∈ List.range (reportPositions t), s.entryOn t.src.toNat k ≠ none) :
    s.readProbeReport t = (List.range (reportPositions t)).foldl (State.takePosition t) s := by
  obtain ⟨k, hk, hentry⟩ := h
  rw [State.readProbeReport, if_pos]
  exact List.any_eq_true.mpr ⟨k, hk, Option.isSome_iff_ne_none.mpr hentry⟩

theorem State.readProbeReport_unmatched
    (h : ∀ k ∈ List.range (reportPositions t), s.entryOn t.src.toNat k = none) :
    s.readProbeReport t = s.oneUnmatched .m := by
  rw [State.readProbeReport, if_neg]
  · rfl
  · intro hany
    obtain ⟨k, hk, hentry⟩ := List.any_eq_true.mp hany
    exact Option.isSome_iff_ne_none.mp hentry (h k hk)

end report

theorem probeReportRead : Parts.ProbeReportRead := by
  intro t s hmap
  have hposition {u : State} {k : Nat} {e : Fin 32} (hu : ∀ d, (s.probe d).SameIdentity (u.probe d))
      (hvalid : (s.probe e).valid = true) (hmodule : (s.probe e).moduleAddress = t.src.toNat)
      (hchannel : (s.probe e).channel = k) :
      State.takePosition t u k = u.takeSample e (signedAt t.data (2 * k)) :=
    State.takePosition_some
      ((State.entryOn_congr hu _ _).trans ((State.entryOn_eq_some hmap).mpr ⟨hvalid, hmodule, hchannel⟩))
  refine ⟨fun on hon => ?_, fun hout => ?_, fun a b hdata e hvalid hmodule hchannel => ?_,
    fun a b c d f g hdata hf hfmodule hfchannel hg hgmodule hgchannel => ?_⟩
  · have hentry (k : Nat) : s.entryOn t.src.toNat k = on k := by
      refine Option.ext fun e => ?_
      rw [State.entryOn_eq_some hmap, hon]
    refine ⟨fun hsome => ?_, fun hnone => ?_⟩
    · rw [State.readProbeReport_reached (by simpa only [hentry, reportPositions] using hsome)]
      refine State.foldl_takePosition (s := s) (fun u k hu => ?_) _ fun _ => .refl _
      have huk := (State.entryOn_congr hu t.src.toNat k).trans (hentry k)
      cases hk : on k with
      | none => exact State.takePosition_none (huk.trans hk)
      | some e => exact State.takePosition_some (huk.trans hk)
    · exact State.readProbeReport_unmatched (by simpa only [hentry, reportPositions] using hnone)
  · refine State.readProbeReport_unmatched fun k hk => ?_
    rw [Option.eq_none_iff_forall_ne_some]
    intro e he
    obtain ⟨hvalid, hmodule, rfl⟩ := (State.entryOn_eq_some hmap).mp he
    exact absurd (List.mem_range.mp hk) (not_lt.mpr (hout e hvalid hmodule))
  · have hpositions : reportPositions t = 1 := by simp [reportPositions, hdata]
    have hfound := (State.entryOn_eq_some hmap).mpr ⟨hvalid, hmodule, hchannel⟩
    rw [State.readProbeReport_reached ⟨0, by simp [hpositions], by simp [hfound]⟩, hpositions]
    simp only [List.range_one, List.foldl_cons, List.foldl_nil]
    rw [hposition (fun _ => .refl _) hvalid hmodule hchannel, hdata]
    rfl
  · have hpositions : reportPositions t = 2 := by simp [reportPositions, hdata]
    have hfound := (State.entryOn_eq_some hmap).mpr ⟨hf, hfmodule, hfchannel⟩
    have hrange : List.range 2 = [0, 1] := rfl
    rw [State.readProbeReport_reached ⟨0, by simp [hpositions], by simp [hfound]⟩, hpositions, hrange]
    simp only [List.foldl_cons, List.foldl_nil]
    rw [hposition (fun _ => .refl _) hf hfmodule hfchannel,
      hposition (State.sameIdentity_takeSample s f _) hg hgmodule hgchannel, hdata]
    rfl

/-- Settles O40. -/
theorem samplesTaken : Obligations.SamplesTaken := ⟨sampleTaken, probeReportRead⟩

/-! ## Temperatures (R46, R52) -/

theorem Probe.usable_iff (p : Probe) :
    p.usable = true ↔ p.valid = true ∧ p.stale = false ∧ p.published ≠ none := by
  simp [Probe.usable, and_assoc, Option.isSome_iff_ne_none]

theorem Probe.returnOf_iff (p : Probe) (i : Fin 16) :
    p.returnOf i = true ↔ p.valid = true ∧ p.role = .returnWater ∧ p.loop = i := by
  simp [Probe.returnOf, and_assoc]

theorem Probe.isSupply_iff (p : Probe) : p.isSupply = true ↔ p.valid = true ∧ p.role = .supplyWater := by
  simp [Probe.isSupply]

/-- The published values of chosen entries: one without a value gives none. -/
theorem State.filterMap_published {s : State} {test : Fin 32 → Bool} {chosen : Fin 32 → Prop} [DecidablePred chosen]
    (h : ∀ e, (s.probe e).published ≠ none → (test e = true ↔ chosen e)) :
    (probeIds.filterMap fun e => if test e then (s.probe e).published else none) =
      (probeIds.filter fun e => chosen e).filterMap fun e => (s.probe e).published := by
  rw [List.filterMap_filter]
  refine List.filterMap_congr fun e _ => ?_
  cases hp : (s.probe e).published with
  | none => rw [ite_self, ite_self]
  | some v =>
    have he := h e (by simp [hp])
    simp only [he, decide_eq_true_iff]

theorem State.returnValues_eq (s : State) (i : Fin 16) : s.returnValues i =
    (probeIds.filter fun e => (s.probe e).valid = true ∧ (s.probe e).role = .returnWater ∧
      (s.probe e).loop = i ∧ (s.probe e).stale = false).filterMap fun e => (s.probe e).published := by
  refine State.filterMap_published fun e hvalue => ?_
  rw [Bool.and_eq_true, Probe.returnOf_iff, Probe.usable_iff]
  tauto

theorem State.supplyValues_eq (s : State) : s.supplyValues =
    (probeIds.filter fun e => (s.probe e).valid = true ∧ (s.probe e).role = .supplyWater ∧
      (s.probe e).stale = false).filterMap fun e => (s.probe e).published := by
  refine State.filterMap_published fun e hvalue => ?_
  rw [Bool.and_eq_true, Probe.isSupply_iff, Probe.usable_iff]
  tauto

theorem State.supplyInUse_of_mean {s : State} {v : Nat} (h : pairMean s.supplyValues = some v) :
    s.supplyInUse = some v := by
  rw [State.supplyInUse, h]

theorem State.supplyInUse_of_none {s : State} (h : s.supplyValues = []) :
    s.supplyInUse = if s.supply.young then s.supply.reportTemp else none := by
  rw [State.supplyInUse, h, pairMean]

/-! ## Cooling samples (R58, R59) -/

theorem State.takesSample_iff (s : State) (i : Fin 16) : s.takesSample i = true ↔
    ((s.loop i).state = .running ∨ (s.loop i).state = .fault) ∧ (s.loop i).inCycle = true ∧
      (s.loop i).settle = .settled ∧ (s.loop i).head = s.openState i ∧ (s.loop i).accCount < 255 := by
  simp [State.takesSample, State.openSettled, and_assoc, Config.countMax]

theorem State.offerReturn_known {s : State} {i : Fin 16} {a b : Nat} (ha : s.loopReturn i = some a)
    (hb : s.supplyInUse = some b) : s.offerReturn i =
      if s.takesSample i then s.updLoop i fun l => l.addSample ((b : Int) - a) else s := by
  rw [State.offerReturn, ha, hb]

theorem State.offerReturn_unknown {s : State} {i : Fin 16} (h : s.loopReturn i = none ∨ s.supplyInUse = none) :
    s.offerReturn i = s := by
  rw [State.offerReturn]
  rcases h with h | h
  · rw [h]
    cases s.supplyInUse <;> rfl
  · rw [h]
    cases s.loopReturn i <;> rfl

theorem returnsFormed : Parts.ReturnsFormed := by
  intro s i returns supplies
  have hreturns : s.returnValues i = returns := s.returnValues_eq i
  have hsupplies : s.supplyValues = supplies := s.supplyValues_eq
  refine ⟨fun h => ?_, fun a h => ?_, fun a b h => ?_, fun a b h => ?_, fun a h => ?_, fun h hyoung => ?_,
    fun h hyoung => ?_, fun a b ha hb hstate hcycle hsettle hhead hcount => ?_, fun h => ?_⟩
  · rw [State.loopReturn, hreturns, h, pairMean]
  · rw [State.loopReturn, hreturns, h, pairMean]
  · rw [State.loopReturn, hreturns, h, pairMean]
  · exact State.supplyInUse_of_mean (by rw [hsupplies, h, pairMean])
  · exact State.supplyInUse_of_mean (by rw [hsupplies, h, pairMean])
  · rw [State.supplyInUse_of_none (hsupplies.trans h), if_pos hyoung]
  · rw [State.supplyInUse_of_none (hsupplies.trans h), if_neg (by simp [hyoung])]
  · rw [State.offerReturn_known ha hb, if_pos ((s.takesSample_iff i).mpr ⟨hstate, hcycle, hsettle, hhead, hcount⟩)]
    rfl
  · by_cases hunknown : s.loopReturn i = none ∨ s.supplyInUse = none
    · exact State.offerReturn_unknown hunknown
    · obtain ⟨hreturn, hsupply⟩ := not_or.mp hunknown
      obtain ⟨a, ha⟩ := Option.ne_none_iff_exists'.mp hreturn
      obtain ⟨b, hb⟩ := Option.ne_none_iff_exists'.mp hsupply
      rw [State.offerReturn_known ha hb, if_neg]
      exact fun htakes => h ⟨hreturn, hsupply, (s.takesSample_iff i).mp htakes⟩

/-! ## The PROBE condition and the flag (R47, R49) -/

theorem State.probeCondition_iff (s : State) (i : Fin 16) : s.probeCondition i = true ↔
    (∃ e, (s.probe e).returnOf i = true) ∧ ∀ e, (s.probe e).returnOf i = true → s.probeFaulted e = true := by
  simp only [State.probeCondition, Bool.and_eq_true, List.any_eq_true, List.all_eq_true, mem_probeIds, true_and,
    forall_const, Bool.or_eq_true, Bool.not_eq_true', ← Bool.not_eq_true, imp_iff_not_or]

theorem State.probeHeldNow_iff (s : State) (i : Fin 16) : s.probeHeldNow i = true ↔
    ∀ e, (s.probe e).returnOf i = true → (s.probe e).usable = false := by
  simp [State.probeHeldNow, mem_probeIds]

theorem probeConditionFormed : Parts.ProbeConditionFormed := by
  intro s i feeds age
  have hfeeds (e : Fin 32) : (s.probe e).returnOf i = true ↔ feeds e := (s.probe e).returnOf_iff i
  have hcondition : s.probeCondition i = true ↔ (∃ e, feeds e) ∧ ∀ e, feeds e →
      (s.probe e).stale = true ∧ s.general.faultStaleTime ≤ age e := by
    rw [State.probeCondition_iff]
    simp only [hfeeds]
    exact and_congr_right fun _ => forall_congr' fun e => imp_congr_right fun hf => s.probeFaulted_iff e hf.1
  refine ⟨hcondition, fun htimes htaken => ?_, fun hholds => ?_, ?_⟩
  · rw [hcondition]
    refine and_congr_right fun _ => forall_congr' fun e => imp_congr_right fun hf => and_iff_right_of_imp fun hage => ?_
    by_contra hfresh
    have hyoung := htaken e hf (Bool.not_eq_true _ ▸ hfresh)
    omega
  · obtain ⟨-, hall⟩ := hcondition.mp hholds
    have hnone : s.returnValues i = [] := by
      refine List.filterMap_eq_nil_iff.mpr fun e _ => ?_
      rw [if_neg]
      rw [Bool.and_eq_true, hfeeds, Probe.usable_iff]
      rintro ⟨hf, -, hfresh, -⟩
      rw [(hall e hf).1] at hfresh
      cases hfresh
    rw [State.loopReturn, hnone, pairMean]
  · rw [State.probeHeldNow_iff]
    refine forall_congr' fun e => ?_
    rw [hfeeds]
    refine imp_congr_right fun hf => ?_
    rw [← Bool.not_eq_true, Probe.usable_iff]
    cases hstale : (s.probe e).stale <;> simp [hf.1]

/-- Settles O49. -/
theorem temperaturesFormed : Obligations.TemperaturesFormed := ⟨returnsFormed, probeConditionFormed⟩

end Sys2Proof.Machine
end

section
/-! PROOFS. The placing of an action against each head state (R96 to R98, R142) and the completion checks (R103,
R137, R141); the settling of O42 and O44. -/

namespace Sys2Proof.Machine

open Sys2Proof

/-! ## Orders and slots -/

/-- An order of loop i joins the list. -/
def State.listed (s : State) (i : Fin 16) (a : Action) : State := { s with orders := s.orders ++ [⟨i, a⟩] }

/-- The queued order of loop i gives place to another. -/
def State.reordered (s : State) (i : Fin 16) (a : Action) : State :=
  { s with orders := s.orders.map fun o => if o.loop = i then ⟨i, a⟩ else o }

/-- The loop record with another head state. -/
def Loop.withHead (l : Loop) (h : HeadState) : Loop := { l with head := h, settle := .stopped }

section heads
variable (s : State) (i : Fin 16)

theorem State.order_eq (a : Action) :
    s.order i a = (s.listed i a).setLoop i ((s.loop i).withHead a.queued) := rfl

theorem State.replaceOrder_eq (a : Action) :
    s.replaceOrder i a = (s.reordered i a).setLoop i ((s.loop i).withHead a.queued) := by
  have hmap : (fun o : HeadOrder => if (o.loop == i) = true then ⟨i, a⟩ else o) =
      fun o => if o.loop = i then ⟨i, a⟩ else o := by
    simp only [beq_iff_eq]
  rw [State.replaceOrder]
  simp only [hmap]
  rfl

theorem State.orderQueued_iff_exists : s.orderQueued i = true ↔ ∃ o ∈ s.orders, o.loop = i := by
  simp [State.orderQueued]

theorem State.waiting_iff_exists : s.waiting i = true ↔ ∃ w ∈ s.waits, w.loop = i := by
  simp [State.waiting]

theorem State.waitReturn_eq : s.waitReturn i =
    if ∃ w ∈ s.waits, w.loop = i ∧ w.wasSilentRelease = true then .silentRelease else .released := by
  simp [State.waitReturn]

theorem State.askToEnergise_eq : s.askToEnergise i =
    if s.holders < s.general.hmax then s.order i .energise
    else ({ s with waits := s.waits ++ [⟨i, .energise, (s.loop i).head == .silentRelease⟩] } : State).setLoop i
      ((s.loop i).withHead .energiseWait) := rfl

theorem State.askToRelease_eq : s.askToRelease i =
    if ∃ w ∈ s.waits, w.loop = i then s
    else if s.holders < s.general.hmax then s.order i .release
    else { s with waits := s.waits ++ [⟨i, .release, false⟩] } := by
  rw [State.askToRelease]
  simp only [State.waiting_iff_exists]

/-- In PASSIVE mode nothing is placed (R142). -/
theorem State.place_of_passive {s : State} (h : s.mode = .passive) (i : Fin 16) (a : Action) (retry : Bool) :
    s.place i a retry = s := if_pos h

end heads

/-! ## The two placings by head state (R96) -/

section place
variable {s : State} {i : Fin 16} (hm : s.mode ≠ .passive) (retry : Bool)
include hm

theorem State.place_energise : s.place i .energise retry = s.placeEnergise i retry := by
  rw [State.place, if_neg hm]

theorem State.place_release : s.place i .release retry = s.placeRelease i retry := by
  rw [State.place, if_neg hm]

end place

section energise
variable {s : State} {i : Fin 16} (retry : Bool)

theorem State.placeEnergise_of_slotless (h : (s.loop i).head ∈ [HeadState.released, .idleUnknown, .silentRelease]) :
    s.placeEnergise i retry = (s.leaveWaits i).askToEnergise i := by
  simp only [List.mem_cons, List.not_mem_nil, or_false] at h
  unfold State.placeEnergise
  rcases h with h | h | h <;> rw [h]

theorem State.placeEnergise_of_releasePending (h : (s.loop i).head = .releasePending) :
    s.placeEnergise i retry = if s.orderQueued i then s.replaceOrder i .energise else s := by
  unfold State.placeEnergise
  rw [h]

theorem State.placeEnergise_of_silentEnergise (h : (s.loop i).head = .silentEnergise) :
    s.placeEnergise i retry = if retry then s.order i .energise else s := by
  unfold State.placeEnergise
  rw [h]

theorem State.placeEnergise_of_energising
    (h : (s.loop i).head ∈ [HeadState.energised, .energisePending, .energiseWait, .energiseSent, .releaseSent]) :
    s.placeEnergise i retry = s := by
  simp only [List.mem_cons, List.not_mem_nil, or_false] at h
  unfold State.placeEnergise
  rcases h with h | h | h | h | h <;> rw [h]

end energise

section release
variable {s : State} {i : Fin 16} (retry : Bool)

theorem State.placeRelease_of_powered (h : (s.loop i).head ∈ [HeadState.energised, .silentEnergise]) :
    s.placeRelease i retry = s.order i .release := by
  simp only [List.mem_cons, List.not_mem_nil, or_false] at h
  unfold State.placeRelease
  rcases h with h | h <;> rw [h]

theorem State.placeRelease_of_energisePending (h : (s.loop i).head = .energisePending) :
    s.placeRelease i retry = if s.orderQueued i then s.replaceOrder i .release else s := by
  unfold State.placeRelease
  rw [h]

theorem State.placeRelease_of_energiseWait (h : (s.loop i).head = .energiseWait) : s.placeRelease i retry =
    if (s.loop i).lastAction = some .release then (s.leaveWaits i).setHead i (s.waitReturn i)
    else ((s.leaveWaits i).setHead i .idleUnknown).askToRelease i := by
  unfold State.placeRelease
  rw [h]

theorem State.placeRelease_of_idleUnknown (h : (s.loop i).head = .idleUnknown) :
    s.placeRelease i retry = s.askToRelease i := by
  unfold State.placeRelease
  rw [h]

theorem State.placeRelease_of_silentRelease (h : (s.loop i).head = .silentRelease) :
    s.placeRelease i retry = if retry then s.askToRelease i else s := by
  unfold State.placeRelease
  rw [h]

theorem State.placeRelease_of_releasing
    (h : (s.loop i).head ∈ [HeadState.released, .releasePending, .energiseSent, .releaseSent]) :
    s.placeRelease i retry = s := by
  simp only [List.mem_cons, List.not_mem_nil, or_false] at h
  unfold State.placeRelease
  rcases h with h | h | h | h <;> rw [h]

end release

theorem energisePlaced : Parts.EnergisePlaced := by
  intro i retry s
  refine ⟨fun hm => State.place_of_passive hm _ _ _, fun hm => ?_⟩
  simp only [State.place_energise hm]
  refine ⟨fun hhead => ⟨fun hfree => ?_, fun hfull => ?_⟩, fun hhead => ⟨fun hqueued => ?_, fun hnone => ?_⟩,
    fun hhead => ⟨?_, ?_⟩, State.placeEnergise_of_energising retry⟩
  · rw [State.placeEnergise_of_slotless retry hhead, State.askToEnergise_eq]
    exact if_pos hfree
  · rw [State.placeEnergise_of_slotless retry hhead, State.askToEnergise_eq]
    exact if_neg (not_lt.mpr hfull)
  · rw [State.placeEnergise_of_releasePending retry hhead, if_pos ((s.orderQueued_iff_exists i).mpr hqueued),
      State.replaceOrder_eq]
    rfl
  · rw [State.placeEnergise_of_releasePending retry hhead, if_neg]
    rw [State.orderQueued_iff_exists]
    rintro ⟨o, ho, hloop⟩
    exact hnone o ho hloop
  · rw [State.placeEnergise_of_silentEnergise true hhead, if_pos rfl]
    rfl
  · rw [State.placeEnergise_of_silentEnergise false hhead, if_neg Bool.false_ne_true]

theorem releasePlaced : Parts.ReleasePlaced := by
  intro i retry s
  refine ⟨fun hm => State.place_of_passive hm _ _ _, fun hm => ?_⟩
  intro listed waiting pending asked
  have hasked : s.askToRelease i = asked := s.askToRelease_eq i
  simp only [State.place_release hm]
  refine ⟨State.placeRelease_of_powered retry, fun hhead => ⟨fun hqueued => ?_, fun hnone => ?_⟩,
    fun hhead hlast => ?_, fun hhead hlast => ?_, fun hhead => ?_, fun hhead => ⟨?_, ?_⟩,
    State.placeRelease_of_releasing retry⟩
  · rw [State.placeRelease_of_energisePending retry hhead, if_pos ((s.orderQueued_iff_exists i).mpr hqueued),
      State.replaceOrder_eq]
    rfl
  · rw [State.placeRelease_of_energisePending retry hhead, if_neg]
    rw [State.orderQueued_iff_exists]
    rintro ⟨o, ho, hloop⟩
    exact hnone o ho hloop
  · rw [State.placeRelease_of_energiseWait retry hhead, if_pos hlast, State.waitReturn_eq]
    rfl
  · rw [State.placeRelease_of_energiseWait retry hhead, if_neg hlast]
    refine ((State.place_release (by exact hm) retry).trans (State.placeRelease_of_idleUnknown retry ?_)).symm
    exact congrArg Loop.head (State.loop_setLoop_self _ _ _)
  · rw [State.placeRelease_of_idleUnknown retry hhead, hasked]
  · rw [State.placeRelease_of_silentRelease true hhead, if_pos rfl, hasked]
  · rw [State.placeRelease_of_silentRelease false hhead, if_neg Bool.false_ne_true]

/-- Settles O42. -/
theorem ordersPlaced : Obligations.OrdersPlaced := ⟨energisePlaced, releasePlaced⟩

/-! ## The completions (R103, R137, R141) -/

theorem State.headOrderOnLine_eq_false_iff (s : State) : s.headOrderOnLine = false ↔
    ∀ i a t o, s.portM.tx ≠ some (.headOrder i a t o) := by
  unfold State.headOrderOnLine
  cases h : s.portM.tx with
  | none => simp
  | some x =>
    cases x with
    | headOrder i a t o => exact iff_of_false (by simp) fun hnone => hnone i a t o rfl
    | answer | forward | notice => simp

theorem Loop.releaseBehind_eq_false_iff (l : Loop) : l.releaseBehind = false ↔
    ¬(l.head = .energiseSent ∧ l.wanted = some .release) := by
  rw [← Bool.not_eq_true, Loop.releaseBehind, Bool.and_eq_true, beq_iff_eq, beq_iff_eq]

theorem State.windDownHeld_iff (s : State) (i : Fin 16) : s.windDownHeld i = true ↔
    s.pattern.heldBy.get i = true ∧ (s.loop i).head = .releaseSent := by
  rw [State.windDownHeld, Bool.and_eq_true, beq_iff_eq]

/-- Settles O44. -/
theorem completionsChecked : Obligations.CompletionsChecked := by
  intro s
  refine ⟨?_, fun h => ?_, fun h => ?_, ?_, fun h => ?_, fun h => ?_⟩
  · rw [State.headsQuiet_iff, State.headOrderOnLine_eq_false_iff]
    simp only [Loop.releaseBehind_eq_false_iff]
    tauto
  · rw [State.checkHalting_eq, if_pos h]
  · rw [State.checkHalting_eq, if_neg h]
  · rw [State.windDownQuiet_iff]
    simp only [← State.windDownHeld_iff, Bool.not_eq_true]
  · rw [State.checkWindDown_eq, if_pos h]
    rfl
  · rw [State.checkWindDown_eq, if_neg h]

end Sys2Proof.Machine
end

section
/-! PROOFS. Echoes and their timeouts (R99 to R102); the settling of O41. -/

namespace Sys2Proof.Machine

open Sys2Proof

/-! ## What both do at the end -/

/-- A wanted action that is not the one confirmed is placed. -/
theorem State.placeDiffering_eq (s : State) (i : Fin 16) (a : Action) : s.placeDiffering i a =
    if (s.loop i).wanted = none ∨ (s.loop i).wanted = some a then s
    else s.place i (if a = .energise then .release else .energise) false := by
  rw [State.placeDiffering]
  cases h : (s.loop i).wanted with
  | none => rw [if_pos (.inl rfl)]
  | some b => cases a <;> cases b <;> rfl

/-! ## The loop that takes an echo (R99) -/

theorem Loop.accepts_iff (l : Loop) (a : Action) : l.accepts a = true ↔ l.head = a.sent ∨ l.head = a.silent := by
  simp [Loop.accepts]

theorem State.takesEcho_iff (s : State) (src channel : Byte) (a : Action) (i : Fin 16) :
    s.TakesEcho src channel a i ↔ ((s.loop i).driverAddress == src.toNat &&
      (s.loop i).headChannel == channel.toNat && (s.loop i).accepts a) = true := by
  simp only [Bool.and_eq_true, beq_iff_eq, Loop.accepts_iff, and_assoc]
  cases a <;> rfl

/-- A scan of the loops finds the least index that passes its test. -/
theorem find?_loopIds {p : Fin 16 → Bool} {i : Fin 16} (hi : p i = true) (hfirst : ∀ j, j < i → ¬p j = true) :
    loopIds.find? p = some i := by
  refine List.find?_eq_some_iff_getElem.mpr ⟨hi, i.val, by simp [loopIds], by simp [loopIds], fun j hj => ?_⟩
  have hindex : loopIds[j]'(by simp [loopIds]; omega) = ⟨j, hj.trans i.isLt⟩ := by simp [loopIds]
  rw [hindex, Bool.not_eq_true', ← Bool.not_eq_true]
  exact hfirst _ hj

theorem State.acceptor_first {s : State} {src channel : Byte} {a : Action} {i : Fin 16}
    (htakes : s.TakesEcho src channel a i) (hfirst : ∀ j, j < i → ¬s.TakesEcho src channel a j) :
    s.acceptor src.toNat channel.toNat a = some i :=
  find?_loopIds ((s.takesEcho_iff src channel a i).mp htakes) fun j hj =>
    mt (s.takesEcho_iff src channel a j).mpr (hfirst j hj)

theorem State.acceptor_none {s : State} {src channel : Byte} {a : Action}
    (h : ∀ i, ¬s.TakesEcho src channel a i) : s.acceptor src.toNat channel.toNat a = none :=
  List.find?_eq_none.mpr fun i _ => mt (s.takesEcho_iff src channel a i).mpr (h i)

/-! ## Reading an echo -/

theorem Action.ofCode_code (a : Action) : Action.ofCode a.code = some a := by cases a <;> rfl

theorem Action.ofCode_eq_some {n : Nat} {a : Action} (h : Action.ofCode n = some a) : n = a.code := by
  unfold Action.ofCode at h
  split at h <;> cases h <;> rfl

theorem Action.ofCode_eq_none {n : Nat} (h : 1 < n) : Action.ofCode n = none := by
  match n, h with
  | _ + 2, _ => rfl

theorem Condition.ofCode_eq_none {n : Nat} (h : 2 < n) : Condition.ofCode n = none := by
  match n, h with
  | _ + 3, _ => rfl

theorem Condition.ofCode_le {n : Nat} (h : n ≤ 2) : ∃ c, Condition.ofCode n = some c ∧ (c = .ok ↔ n = 0) := by
  match n with
  | 0 => exact ⟨.ok, rfl, by simp⟩
  | 1 => exact ⟨.openCircuit, rfl, by simp⟩
  | 2 => exact ⟨.short, rfl, by simp⟩

section read
variable {s : State} {t : Telegram}

theorem State.readEcho_taken {a : Action} {c : Condition} {i : Fin 16} (ha : Action.ofCode (byteAt t.data 1) = some a)
    (hc : Condition.ofCode (byteAt t.data 2) = some c)
    (hi : s.acceptor t.src.toNat (byteAt t.data 0) a = some i) : s.readEcho t = s.takeEcho i a c := by
  rw [State.readEcho, ha, hc]
  simp only [hi]

theorem State.readEcho_stray (h : ∀ a, Action.ofCode (byteAt t.data 1) = some a →
    Condition.ofCode (byteAt t.data 2) = none ∨ s.acceptor t.src.toNat (byteAt t.data 0) a = none) :
    s.readEcho t = s.countStray .m := by
  rw [State.readEcho]
  cases ha : Action.ofCode (byteAt t.data 1) with
  | none => cases Condition.ofCode (byteAt t.data 2) <;> rfl
  | some a =>
    cases hc : Condition.ofCode (byteAt t.data 2) with
    | none => rfl
    | some c =>
      have hnone : s.acceptor t.src.toNat (byteAt t.data 0) a = none := (h a ha).resolve_left (by simp [hc])
      simp only [hnone]

end read

/-! ## An echo taken (R100, R101) -/

theorem Action.target_inj {a b : Action} : a.target = b.target ↔ a = b := by cases a <;> cases b <;> decide

theorem State.confirm_eq (s : State) (i : Fin 16) (a : Action) : s.confirm i a = s.setLoop i { s.loop i with
    head := a.target, echoDue := none
    settle := if a = s.openingAction i then .running (s.now + (s.profileOf i).opening) else .stopped } := by
  rw [State.confirm, State.openState]
  simp only [Action.target_inj]
  rfl

theorem State.clearSilent_eq (s : State) (i : Fin 16) :
    s.clearSilent i = if 2 ≤ (s.loop i).goodRun then s.removeCause i .silent else s := rfl

theorem State.damageBy_eq (s : State) (i : Fin 16) (c : Condition) :
    s.damageBy i c = if c = .ok then s else s.addCause i .damage := by cases c <;> rfl

/-- A good echo is counted; a late one, that finds the head SILENT, is not. -/
theorem State.echoCounted_eq {s : State} {i : Fin 16} {a : Action} (h : (s.loop i).accepts a = true) :
    let confirmed := s.confirm i a
    let counted := confirmed.setLoop i { confirmed.loop i with
      misses := 0, goodRun := min 255 ((s.loop i).goodRun + 1) }
    s.echoCounted i a = if (s.loop i).head = a.silent then confirmed
      else if 1 ≤ (s.loop i).goodRun then counted.removeCause i .silent else counted := by
  intro confirmed counted
  have hrun : (confirmed.loop i).goodRun = (s.loop i).goodRun := by
    rw [show confirmed = _ from s.confirm_eq i a, State.loop_setLoop_self]
  have hcounted : confirmed.updLoop i Loop.goodEcho = counted := by
    rw [State.updLoop_eq, Loop.goodEcho, hrun]
    rfl
  have hgood : (counted.loop i).goodRun = min 255 ((s.loop i).goodRun + 1) :=
    congrArg Loop.goodRun (State.loop_setLoop_self _ i _)
  have htwo : 2 ≤ (counted.loop i).goodRun ↔ 1 ≤ (s.loop i).goodRun := by omega
  rw [State.echoCounted]
  rcases (Loop.accepts_iff _ _).mp h with hsent | hsilent
  · have hnot : a.sent ≠ a.silent := by cases a <;> decide
    rw [if_pos (by simp [hsent]), if_neg (by rwa [hsent]), hcounted, State.clearSilent_eq]
    simp only [htwo]
  · have hnot : a.silent ≠ a.sent := by cases a <;> decide
    rw [if_neg (by simpa [hsilent] using hnot), if_pos hsilent]

theorem echoTaken : Parts.EchoTaken := by
  intro t ch act cond rest s hnothing hgood hdst hkind hdata g
  have hlen : 3 ≤ t.data.length := by simp [hdata]
  have hexec := exec_telegramReceived_consumed .m hnothing hgood hdst
  rw [State.consume_echo_m _ hkind hlen] at hexec
  have hact : byteAt t.data 1 = act.toNat := by rw [hdata]; rfl
  have hcond : byteAt t.data 2 = cond.toNat := by rw [hdata]; rfl
  have hch : byteAt t.data 0 = ch.toNat := by rw [hdata]; rfl
  have htakes (a : Action) (i : Fin 16) : g.TakesEcho t.src ch a i ↔ s.TakesEcho t.src ch a i := Iff.rfl
  refine ⟨fun i a hcode hok hi hfirst => ?_, fun hstray => ?_⟩
  · obtain ⟨c, hc, hcok⟩ := Condition.ofCode_le hok
    have haccepts : (g.loop i).accepts a = true := by
      have h := (g.takesEcho_iff t.src ch a i).mp hi
      rw [Bool.and_eq_true] at h
      exact h.2
    have hacceptor : g.acceptor t.src.toNat (byteAt t.data 0) a = some i := by
      rw [hch]
      exact State.acceptor_first hi hfirst
    have hzero : cond = 0 ↔ c = .ok := by
      rw [hcok]
      exact ⟨fun h => by rw [h]; rfl, fun h => BitVec.eq_of_toNat_eq h⟩
    intro confirmed counted cleared damaged placed
    have hconfirmed : g.confirm i a = confirmed := g.confirm_eq i a
    have hcleared : g.echoCounted i a = cleared := by
      rw [State.echoCounted_eq haccepts, hconfirmed]
      rfl
    have hdamaged : (g.echoCounted i a).damageBy i c = damaged := by
      rw [hcleared, State.damageBy_eq]
      simp only [damaged, hzero]
    rw [hexec, State.readEcho_taken (by rw [hact, hcode, Action.ofCode_code]) (by rw [hcond, hc]) hacceptor,
      State.takeEcho_eq, hdamaged, State.placeDiffering_eq]
    rfl
  · rw [hexec, State.readEcho_stray]
    · rfl
    · intro a ha
      rw [hact] at ha
      rcases hstray with h | h | h
      · rw [Action.ofCode_eq_none h] at ha
        cases ha
      · exact .inl (by rw [hcond, Condition.ofCode_eq_none h])
      · rw [hch]
        exact .inr (State.acceptor_none fun i => h i a (Action.ofCode_eq_some ha))

/-! ## An echo timeout (R102) -/

theorem HeadState.sentAction_sent (a : Action) : a.sent.sentAction = some a := by cases a <;> rfl

theorem exec_echoTimeout {s : State} {i : Fin 16} {a : Action} (hnothing : s.NothingToBegin)
    (hhead : (s.loop i).head = a.sent) : exec (.echoTimeout i) s =
      if s.echoTimeoutDue i then .next (s.timeout i a) else .next s := by
  change execEchoTimeout i s = _
  unfold execEchoTimeout
  rw [State.beginAll_of_nothing hnothing]
  simp only [hhead, HeadState.sentAction_sent]

theorem State.timeoutCounted_eq (s : State) (i : Fin 16) (a : Action) :
    let silent := s.setLoop i { s.loop i with
      head := a.silent, settle := .stopped, echoDue := none
      misses := min 255 ((s.loop i).misses + 1), goodRun := 0 }
    s.timeoutCounted i a = if (s.loop i).misses = 2 then silent.addCause i .silent else silent := by
  intro silent
  have hmisses : (s.loop i).misses + 1 = Config.silentMisses ↔ (s.loop i).misses = 2 := by
    simp only [Config.silentMisses]
    omega
  rw [State.timeoutCounted, State.setHead, State.updLoop_updLoop]
  simp only [hmisses]
  rfl

theorem State.reached_iff (s : State) (due : Option Nat) :
    s.reached due = true ↔ ∃ d, due = some d ∧ d ≤ s.now := by
  cases due <;> simp [State.reached]

theorem State.echoTimeoutDue_iff {s : State} {i : Fin 16} {a : Action} (hhead : (s.loop i).head = a.sent) :
    s.echoTimeoutDue i = true ↔ ∃ due, (s.loop i).echoDue = some due ∧ due ≤ s.now := by
  have hawaits : (s.loop i).awaitsEcho = true := by
    rw [Loop.awaitsEcho, hhead]
    cases a <;> rfl
  rw [State.echoTimeoutDue, hawaits, Bool.true_and, State.reached_iff]

theorem echoTimeoutTaken : Parts.EchoTimeoutTaken := by
  intro i a s hnothing hhead
  have hsent : (s.loop i).head = a.sent := by rw [hhead]; cases a <;> rfl
  have hsilent : a.silent = if a = .energise then .silentEnergise else .silentRelease := by cases a <;> rfl
  have hexec := exec_echoTimeout hnothing hsent
  refine ⟨fun due hdue hreached => ?_, fun hwait => ?_⟩
  · rw [hexec, if_pos ((State.echoTimeoutDue_iff hsent).mpr ⟨due, hdue, hreached⟩), State.timeout_eq,
      State.timeoutCounted_eq, hsilent, State.placeDiffering_eq]
    rfl
  · rw [hexec, if_neg]
    rw [State.echoTimeoutDue_iff hsent]
    rintro ⟨due, hdue, hreached⟩
    exact absurd (hwait due hdue) (not_lt.mpr hreached)

/-- Settles O41. -/
theorem echoesTaken : Obligations.EchoesTaken := ⟨echoTaken, echoTimeoutTaken⟩

end Sys2Proof.Machine
end

section
/-! PROOFS. Boundaries: their instants (R89), the command (R90) and each part of the work (R61, R62, R91, R92,
R103); the settling of O43. -/

namespace Sys2Proof.Machine

open Sys2Proof

/-! ## Instants (R89) -/

section instant
variable {base cycle notBefore : Nat} (hcycle : 0 < cycle)

theorem nextInstant_eq_add_mul : ∃ k, nextInstant base cycle notBefore = base + k * cycle := by
  rw [nextInstant]
  split
  · exact ⟨0, by omega⟩
  · exact ⟨_, rfl⟩

include hcycle

theorem le_nextInstant : notBefore ≤ nextInstant base cycle notBefore := by
  rw [nextInstant]
  split
  next h => exact h
  next h =>
    have hceil := le_ceilDiv_mul (notBefore - base) hcycle
    omega

theorem nextInstant_le {k : Nat} (h : notBefore ≤ base + k * cycle) :
    nextInstant base cycle notBefore ≤ base + k * cycle := by
  rw [nextInstant]
  split
  next => exact Nat.le_add_right _ _
  next =>
    have hceil : ceilDiv (notBefore - base) cycle ≤ k := (ceilDiv_le_iff hcycle).mpr (by omega)
    exact Nat.add_le_add_left (Nat.mul_le_mul_right cycle hceil) base

end instant

theorem boundaryInstants : Parts.BoundaryInstants := by
  intro s i t0 from_ hcycle T first
  have hbase : t0 + (s.loop i).phase % s.general.cycleLength = first := Nat.add_comm _ _
  have hnext : s.boundaryFrom i t0 from_ = nextInstant first T (max (t0 + 1) from_) := by
    rw [State.boundaryFrom, hbase]
  have hle : max (t0 + 1) from_ ≤ s.boundaryFrom i t0 from_ := by
    rw [hnext]
    exact le_nextInstant hcycle
  refine ⟨⟨(Nat.le_max_left _ _).trans hle, (Nat.le_max_right _ _).trans hle, ?_, fun k hafter hfrom => ?_⟩,
    fun ht0 => ?_⟩
  · rw [hnext]
    exact nextInstant_eq_add_mul
  · rw [hnext]
    exact nextInstant_le hcycle (max_le hafter hfrom)
  · rw [State.firstBoundary, ht0]
    rfl

/-! ## The command (R90) -/

theorem exec_loopBoundary {s : State} (hnothing : s.NothingToBegin) (i : Fin 16) : exec (.loopBoundary i) s =
    if s.boundaryDue i then .next (s.boundary i)
    else if s.atBoundaryInstant i then .next (s.updLoop i fun l => { l with lastBoundary := some s.now })
    else .next s := by
  change execLoopBoundary i s = _
  unfold execLoopBoundary
  rw [State.beginAll_of_nothing hnothing]

theorem State.boundaryDue_iff (s : State) (i : Fin 16) : s.boundaryDue i = true ↔
    (s.mode = .active ∨ s.mode = .halting) ∧ (s.loop i).state ∈ [LoopState.running, .shed, .fault] ∧
      ∃ due, (s.loop i).nextBoundary = some due ∧ due ≤ s.now := by
  simp [State.boundaryDue, Loop.engaged, State.reached_iff, and_assoc, or_assoc]

theorem State.boundary_eq {s : State} {i : Fin 16} {due : Nat} (hdue : (s.loop i).nextBoundary = some due) :
    let begun := s.setLoop i { s.loop i with
      nextBoundary := some (due + s.general.cycleLength), lastBoundary := some s.now }
    s.boundary i = if s.mode = .halting then begun.haltingBoundary i else begun.activeBoundary i := by
  intro begun
  have hbegun : (s.updLoop i fun l => { l with
      nextBoundary := l.nextBoundary.map (· + s.general.cycleLength), lastBoundary := some s.now }) = begun := by
    rw [State.updLoop_eq, hdue]
    rfl
  rw [State.boundary, hbegun]
  rfl

theorem boundaryWorked : Parts.BoundaryWorked := by
  intro i s hnothing
  have hexec := exec_loopBoundary hnothing i
  refine ⟨fun due hmode hstate hdue hreached => ?_, fun hnot => ?_⟩
  · have hwork := hexec.trans (if_pos ((s.boundaryDue_iff i).mpr ⟨hmode, hstate, due, hdue, hreached⟩))
    rw [State.boundary_eq hdue] at hwork
    refine ⟨fun hm => ?_, fun hm => ?_⟩
    · rw [hwork, if_neg (by rw [hm]; decide)]
      rfl
    · rw [hwork, if_pos hm]
  · rw [hexec, if_neg (mt (s.boundaryDue_iff i).mp hnot)]
    split
    · exact .inr rfl
    · exact .inl rfl

/-! ## Capture and starvation check (R90, R91) -/

section parts
variable {s : State} {i : Fin 16}

theorem Loop.starvedCycle_iff (l : Loop) :
    l.starvedCycle = true ↔ 0 < l.onTime ∧ l.achieved * 2 < l.onTime := by simp [Loop.starvedCycle]

theorem State.capture_unstarved (h : ¬(0 < (s.loop i).onTime ∧ (s.loop i).openCount * 2 < (s.loop i).onTime)) :
    s.capture i = s.setLoop i { s.loop i with achieved := (s.loop i).openCount, starvedRun := 0 } := by
  rw [State.capture, if_neg, State.updLoop_updLoop]
  rw [State.loop_updLoop_self, Loop.starvedCycle_iff]
  exact h

theorem State.capture_starved (h : 0 < (s.loop i).onTime ∧ (s.loop i).openCount * 2 < (s.loop i).onTime) :
    let captured := s.setLoop i { s.loop i with
      achieved := (s.loop i).openCount, starvedRun := min 255 ((s.loop i).starvedRun + 1) }
    s.capture i = if (s.loop i).starvedRun = 2 then
        captured.raise .starved (some i.val) (some ((s.loop i).openCount : Int))
      else captured := by
  intro captured
  have hrun : (s.loop i).starvedRun + 1 = Config.starvedCycles ↔ (s.loop i).starvedRun = 2 := by
    simp only [Config.starvedCycles]
    omega
  rw [State.capture, if_pos, State.updLoop_updLoop, State.loop_updLoop_self]
  · simp only [hrun]
    rfl
  · rw [State.loop_updLoop_self, Loop.starvedCycle_iff]
    exact h

/-- The capture writes two counts of one loop, and raises at most a notice. -/
theorem State.loop_capture (s : State) (i : Fin 16) :
    ∃ run, (s.capture i).loop i = { s.loop i with achieved := (s.loop i).openCount, starvedRun := run } := by
  by_cases h : 0 < (s.loop i).onTime ∧ (s.loop i).openCount * 2 < (s.loop i).onTime
  · refine ⟨min 255 ((s.loop i).starvedRun + 1), ?_⟩
    rw [State.capture_starved h]
    split
    · exact State.loop_setLoop_self ..
    · exact State.loop_setLoop_self ..
  · exact ⟨0, by rw [State.capture_unstarved h, State.loop_setLoop_self]⟩

/-! ## FAULT exit and state work (R15, R61, R62) -/

theorem State.faultExit_leaves (hstate : (s.loop i).state = .fault) (hcauses : (s.loop i).causes = ⟨false, false, false⟩) :
    s.faultExit i = (s.setLoop i { s.loop i with
      state := if s.inShedRange i = true then .shed else .running }).recompute :=
  if_pos ⟨hstate, (CauseSet.isEmpty_iff _).mpr hcauses⟩

theorem State.faultExit_stays (h : ¬((s.loop i).state = .fault ∧ (s.loop i).causes = ⟨false, false, false⟩)) :
    s.faultExit i = s := by
  rw [State.faultExit, if_neg]
  rwa [CauseSet.isEmpty_iff]

/-- The step writes the measured cooling and the share. -/
theorem Loop.balance_keep (l : Loop) (k : FloorClass) :
    l.balance k = { l with share := (l.balance k).share, cooling := (l.balance k).cooling } := by
  unfold Loop.balance
  split <;> rfl

/-- The work at a boundary in HALTING mode, on the loop as the capture leaves it. -/
theorem State.haltingWork_eq (u : State) (i : Fin 16) : u.haltingWork i = u.setLoop i { u.loop i with
    share := if (u.loop i).state = .running then ((u.loop i).balance (u.floorClass (u.loop i).floorClass)).share
      else (u.loop i).share
    cooling := if (u.loop i).state = .running then
        ((u.loop i).balance (u.floorClass (u.loop i).floorClass)).cooling
      else (u.loop i).cooling
    accSum := 0, accCount := 0 } := by
  rw [State.haltingWork]
  split
  next h =>
    rw [State.balance, State.updLoop_eq, Loop.balance_keep, Loop.emptyAcc]
  next h => rfl

/-- After its work in HALTING mode a loop is released and halted (R103). -/
theorem State.haltingBoundary_of_work {u : State} (h : (s.capture i).haltingWork i = u) :
    let released := u.want i .release false
    s.haltingBoundary i = ((released.setLoop i { released.loop i with
      state := .standby, request := 0, grant := 0, activeDuty := 0, bufferedDuty := 0
      pendingFlag := false, onTime := 0, openPhase := false, inCycle := false
      nextBoundary := none }).recompute).checkHalting := by
  rw [State.haltingBoundary_eq, State.haltingWanted, h]
  rfl

end parts

/-! ## Phase start (R92) -/

theorem State.openingAction_setLoop (s : State) (i : Fin 16) {l : Loop} (h : l.profile = (s.loop i).profile) :
    (s.setLoop i l).openingAction i = s.openingAction i := by
  simp [State.openingAction, State.profileOf, h]

theorem State.phaseStart_eq (s : State) (i : Fin 16) :
    let O := (s.loop i).activeDuty * s.general.cycleLength / 4096
    let begun := s.setLoop i { s.loop i with
      onTime := O, openPhase := decide (0 < O), openCount := 0, inCycle := true }
    s.phaseStart i = begun.want i (if 0 < O then s.openingAction i else s.closingAction i) true := by
  intro O begun
  have hopening : begun.openingAction i = s.openingAction i := s.openingAction_setLoop i rfl
  have hclosing : begun.closingAction i = s.closingAction i := s.closingAction_setLoop i rfl
  rw [← hopening, ← hclosing]
  rfl

theorem boundaryParts : Parts.BoundaryParts := by
  intro i s l starved
  refine ⟨State.capture_unstarved, fun hstarved hrun => ?_, fun hstarved hrun => ?_,
    fun h => State.faultExit_leaves h.1 h.2, State.faultExit_stays, fun hrunning => ?_, fun hnot => if_neg hnot,
    fun hpending => if_pos hpending, fun hclear => if_neg (by simp [hclear]), s.phaseStart_eq i, fun _ _ => rfl, ?_⟩
  · rw [State.capture_starved hstarved, if_neg hrun]
  · rw [State.capture_starved hstarved, if_pos hrun, hrun]
    rfl
  · exact if_pos hrunning
  · obtain ⟨run, hloop⟩ := s.loop_capture i
    have hstate : ((s.capture i).loop i).state = l.state := by rw [hloop]
    have hclass : ((s.capture i).loop i).floorClass = l.floorClass := by rw [hloop]
    have hshare : ((s.capture i).loop i).share = l.share := by rw [hloop]
    have hcooling : ((s.capture i).loop i).cooling = l.cooling := by rw [hloop]
    have hclasses : (s.capture i).floorClass l.floorClass = s.floorClass l.floorClass :=
      congrArg (fun classes : Vector FloorClass 4 => classes[l.floorClass]) (s.capture_driveStep i).run.classes
    have hwork := (s.capture i).haltingWork_eq i
    rw [hstate, hclass, hshare, hcooling, hclasses] at hwork
    exact State.haltingBoundary_of_work hwork

/-- Settles O43. -/
theorem boundariesWorked : Obligations.BoundariesWorked := ⟨boundaryInstants, boundaryWorked, boundaryParts⟩

end Sys2Proof.Machine
end

section
/-! PROOFS. The stages of the patterns (R131 to R134, R137); the settling of O50. -/

namespace Sys2Proof.Machine

open Sys2Proof

/-! ## The expiries -/

theorem State.stageDue_iff (s : State) (kind : PatternKind) (stage : Stage) : s.stageDue kind stage = true ↔
    s.pattern.kind = kind ∧ s.pattern.stage = stage ∧ ∃ due, s.pattern.intervalDue = some due ∧ due ≤ s.now := by
  simp [State.stageDue, State.reached_iff, and_assoc]

section expiry
variable {s : State} {due : Nat} (hdue : s.pattern.intervalDue = some due)
include hdue

theorem State.stageDue_of_reached {kind : PatternKind} {stage : Stage} (hreached : due ≤ s.now)
    (hkind : s.pattern.kind = kind) (hstage : s.pattern.stage = stage) : s.stageDue kind stage = true :=
  (s.stageDue_iff kind stage).mpr ⟨hkind, hstage, due, hdue, hreached⟩

theorem State.not_stageDue (hwait : s.now < due) (kind : PatternKind) (stage : Stage) :
    ¬s.stageDue kind stage = true := by
  rw [State.stageDue_iff, hdue]
  rintro ⟨-, -, d, hd, hreached⟩
  cases hd
  exact absurd hwait (not_lt.mpr hreached)

end expiry

section exec
variable {s : State} (hnothing : s.NothingToBegin)
include hnothing

theorem exec_clearingExpiry : exec .clearingExpiry s =
    if s.stageDue .sweep .clearing then .next (s.nextTest fun _ => true) else .next s := by
  change execClearingExpiry s = _
  unfold execClearingExpiry
  rw [State.beginAll_of_nothing hnothing]

variable {k : Fin 16} (hsubject : s.pattern.subject = some k)
include hsubject

theorem exec_identifyHalfExpiry : exec .identifyHalfExpiry s =
    if s.stageDue .identify .openHalf then .next (s.driveStage .closing k (s.closingAction k))
    else if s.stageDue .identify .closedHalf then .next (s.toggleDone k)
    else .next s := by
  change execIdentifyHalfExpiry s = _
  unfold execIdentifyHalfExpiry
  rw [State.beginAll_of_nothing hnothing]
  simp only [hsubject]

theorem exec_dwellExpiry : exec .dwellExpiry s =
    if s.stageDue .sweep .dwell then .next ((s.writeVerdict k).driveStage .closing k (s.closingAction k))
    else .next s := by
  change execDwellExpiry s = _
  unfold execDwellExpiry
  rw [State.beginAll_of_nothing hnothing]
  simp only [hsubject]

theorem exec_closeWaitExpiry : exec .closeWaitExpiry s =
    if s.stageDue .sweep .closeWait then .next (s.nextTest fun i => decide (k.val < i.val)) else .next s := by
  change execCloseWaitExpiry s = _
  unfold execCloseWaitExpiry
  rw [State.beginAll_of_nothing hnothing]
  simp only [hsubject]

end exec

/-! ## The next test (R133, R134) -/

section next
variable {s : State} {eligible : Fin 16 → Bool}

theorem State.find?_testingLoops (s : State) (eligible : Fin 16 → Bool) : s.testingLoops.find? eligible =
    loopIds.find? fun i => decide ((s.loop i).state = .testing) && eligible i := by
  rw [State.testingLoops, List.find?_filter]
  simp

theorem State.nextTest_first {k : Fin 16} (htesting : (s.loop k).state = .testing) (hk : eligible k = true)
    (hfirst : ∀ i, (s.loop i).state = .testing → eligible i = true → k ≤ i) :
    s.nextTest eligible = s.beginTest k := by
  have hfound : s.testingLoops.find? eligible = some k := by
    rw [State.find?_testingLoops]
    refine find?_loopIds (by simp [htesting, hk]) fun j hj h => ?_
    rw [Bool.and_eq_true, decide_eq_true_iff] at h
    exact absurd (hfirst j h.1 h.2) (not_le.mpr hj)
  rw [State.nextTest, hfound]

theorem State.nextTest_none (h : ∀ i, (s.loop i).state = .testing → eligible i = false) :
    s.nextTest eligible = s.endPattern .completed := by
  have hnone : s.testingLoops.find? eligible = none :=
    List.find?_eq_none.mpr fun i hi => by simp [h i (s.mem_testingLoops.mp hi)]
  rw [State.nextTest, hnone]

end next

theorem patternIntervalsExpire : Parts.PatternIntervalsExpire := by
  intro s k due hnothing hdue hsubject
  have hidentify := exec_identifyHalfExpiry hnothing hsubject
  have hdwell := exec_dwellExpiry hnothing hsubject
  have hwait := exec_closeWaitExpiry hnothing hsubject
  refine ⟨fun hreached hkind => ⟨fun hstage => ?_, fun hstage => ?_⟩,
    fun hreached hkind => ⟨fun hstage => ?_, fun hstage => ?_⟩, fun hearly => ⟨?_, ?_, ?_⟩⟩
  · rw [hidentify, if_pos (State.stageDue_of_reached hdue hreached hkind hstage)]
  · have hnot : ¬s.stageDue .identify .openHalf = true := by
      rw [State.stageDue_iff, hstage]
      exact fun h => nomatch h.2.1
    rw [if_neg hnot, if_pos (State.stageDue_of_reached hdue hreached hkind hstage)] at hidentify
    refine ⟨fun hmore => ?_, fun hlast => ?_⟩
    · exact hidentify.trans (congrArg Host.Outcome.next (if_pos hmore))
    · exact hidentify.trans (congrArg Host.Outcome.next (if_neg (not_lt.mpr hlast)))
  · rw [hdwell, if_pos (State.stageDue_of_reached hdue hreached hkind hstage)]
  · rw [if_pos (State.stageDue_of_reached hdue hreached hkind hstage)] at hwait
    refine ⟨fun j htesting hlater hfirst => ?_, fun hlast => ?_⟩
    · rw [hwait, State.nextTest_first htesting (decide_eq_true hlater)]
      exact fun i hi hki => hfirst i hi (of_decide_eq_true hki)
    · rw [hwait, State.nextTest_none]
      exact fun i hi => decide_eq_false (not_lt.mpr (hlast i hi))
  · rw [hidentify, if_neg (State.not_stageDue hdue hearly _ _), if_neg (State.not_stageDue hdue hearly _ _)]
  · rw [hdwell, if_neg (State.not_stageDue hdue hearly _ _)]
  · rw [hwait, if_neg (State.not_stageDue hdue hearly _ _)]

theorem sweepTestsBegin : Parts.SweepTestsBegin := by
  intro s k hnothing
  refine ⟨fun due hkind hstage hdue hreached htesting hfirst => ?_, fun due hdue hearly => ?_, rfl⟩
  · rw [exec_clearingExpiry hnothing, if_pos (State.stageDue_of_reached hdue hreached hkind hstage),
      State.nextTest_first htesting rfl fun i hi _ => hfirst i hi]
  · rw [exec_clearingExpiry hnothing, if_neg (State.not_stageDue hdue hearly _ _)]

/-! ## Settlement (R131 to R134) -/

theorem State.settledOn_iff (s : State) (k : Fin 16) (a : Action) :
    s.settledOn k a = true ↔ (s.loop k).head = a.target ∨ (s.loop k).head = a.silent := by
  simp [State.settledOn]

section settle
variable {s : State} {k : Fin 16} (hsubject : s.pattern.subject = some k)
include hsubject

theorem State.patternSettle_opening (hstage : s.pattern.stage = .opening) : s.patternSettle =
    if s.settledOn k (s.openingAction k) ∧ s.pattern.kind ≠ .none then
      s.startInterval (if s.pattern.kind = .identify then .openHalf else .dwell)
        (if s.pattern.kind = .identify then s.pattern.arg3 else s.pattern.arg1)
    else s := by
  unfold State.patternSettle
  rw [hsubject, hstage]
  cases s.pattern.kind <;> simp

theorem State.patternSettle_closing (hstage : s.pattern.stage = .closing) : s.patternSettle =
    if s.settledOn k (s.closingAction k) ∧ s.pattern.kind ≠ .none then
      s.startInterval (if s.pattern.kind = .identify then .closedHalf else .closeWait)
        (if s.pattern.kind = .identify then s.pattern.arg3 else (s.profileOf k).closing)
    else s := by
  unfold State.patternSettle
  rw [hsubject, hstage]
  cases s.pattern.kind <;> simp

end settle

theorem State.patternSettle_closingAll {s : State} (hkind : s.pattern.kind = .sweep)
    (hstage : s.pattern.stage = .closingAll) : s.patternSettle =
      if s.testingLoops.all fun i => s.settledOn i (s.closingAction i) then s.startInterval .clearing s.clearingTime
      else s := by
  unfold State.patternSettle
  rw [hkind, hstage]

/-- A running maximum bounds its start and every value, and is one of them. -/
theorem foldl_max_spec {α : Type} (f : α → Nat) (l : List α) (b : Nat) :
    b ≤ l.foldl (fun m x => max m (f x)) b ∧ (∀ x ∈ l, f x ≤ l.foldl (fun m x => max m (f x)) b) ∧
      (l.foldl (fun m x => max m (f x)) b = b ∨ ∃ x ∈ l, f x = l.foldl (fun m x => max m (f x)) b) := by
  induction l generalizing b with
  | nil => exact ⟨le_rfl, nofun, .inl rfl⟩
  | cons x l ih =>
    obtain ⟨hstart, hall, hone⟩ := ih (max b (f x))
    simp only [List.foldl_cons, List.forall_mem_cons, List.exists_mem_cons_iff]
    generalize l.foldl (fun m x => max m (f x)) (max b (f x)) = m at hstart hall hone
    refine ⟨(le_max_left _ _).trans hstart, ⟨(le_max_right _ _).trans hstart, hall⟩, ?_⟩
    rcases hone with hm | hm
    · rcases max_choice b (f x) with h | h
      · exact .inl (hm.trans h)
      · exact .inr (.inl (hm.trans h).symm)
    · exact .inr (.inr hm)

theorem stagesSettle : Parts.StagesSettle := by
  intro s k
  refine ⟨fun _ _ => rfl, fun a => ?_, fun hsubject => ⟨fun hstage => ?_, fun hstage => ?_⟩,
    fun hkind hstage => ?_⟩
  · rw [State.settledOn_iff]
    cases a <;> simp [Action.target, Action.silent]
  · rw [State.patternSettle_opening hsubject hstage]
    refine ⟨fun hopen => if_neg (by simp [hopen]), fun hsettled => ⟨fun hkind => ?_, fun hkind => ?_⟩⟩
    · rw [if_pos ⟨hsettled, by simp [hkind]⟩, hkind]
      rfl
    · rw [if_pos ⟨hsettled, by simp [hkind]⟩, hkind]
      rfl
  · rw [State.patternSettle_closing hsubject hstage]
    refine ⟨fun hopen => if_neg (by simp [hopen]), fun hsettled => ⟨fun hkind => ?_, fun hkind => ?_⟩⟩
    · rw [if_pos ⟨hsettled, by simp [hkind]⟩, hkind]
      rfl
    · rw [if_pos ⟨hsettled, by simp [hkind]⟩, hkind]
      rfl
  · rw [State.patternSettle_closingAll hkind hstage]
    refine ⟨fun ⟨i, htesting, hopen⟩ => if_neg fun hall => ?_, fun hall => ⟨s.clearingTime, ?_, ?_, if_pos ?_⟩⟩
    · rw [List.all_eq_true.mp hall i (s.mem_testingLoops.mpr htesting)] at hopen
      cases hopen
    · obtain ⟨-, hbound, -⟩ := foldl_max_spec (fun i => (s.profileOf i).closing) s.testingLoops 0
      exact fun i hi => hbound i (s.mem_testingLoops.mpr hi)
    · obtain ⟨-, -, hone⟩ := foldl_max_spec (fun i => (s.profileOf i).closing) s.testingLoops 0
      exact hone.imp_right fun ⟨i, hi, hclosing⟩ => ⟨i, s.mem_testingLoops.mp hi, hclosing⟩
    · exact List.all_eq_true.mpr fun i hi => hall i (s.mem_testingLoops.mp hi)

/-- Settles O50. -/
theorem patternStagesWorked : Obligations.PatternStagesWorked :=
  ⟨patternIntervalsExpire, sweepTestsBegin, stagesSettle⟩

end Sys2Proof.Machine
end
